-- ==== Sys2Proof/Word.lean ====
section
/-! DEFINITION. The byte, the text, and the two roundings of the manual (00_scope.md, Conventions). -/

namespace Sys2Proof

/-- One byte as the controller port and the yard link carry it (R86, R196). -/
abbrev Byte := BitVec 8

/-- A text: character codes in order (R86, R196: codes 32-126). -/
abbrev Text := List Nat

/-- The codes of a Lean string, for the fixed words that receipts print. -/
def codesOf (s : String) : Text := s.toList.map Char.toNat

/-- "Nearest, halves away from zero" of the exact quotient n / d, for d above 0 (00_scope.md, Rounding). -/
def roundHalfAway (n : Int) (d : Nat) : Int :=
  let q : Nat := (2 * n.natAbs + d) / (2 * d)
  if n < 0 then -(q : Int) else q

/-- "Nearest, halves up" of the exact quotient n / d of whole numbers, for d above 0 (00_scope.md, Rounding). -/
def roundHalfUp (n d : Nat) : Nat := (2 * n + d) / (2 * d)

end Sys2Proof
end

