-- ==== Sys2Proof/Config.lean ====
section
/-! DEFINITION. What the part fixes: capacities, timer lengths and bounds; and the one value the spec does not state. -/

namespace Sys2Proof.Config

/-! ### Capacities (00_scope.md, Capacities at a glance) -/

/-- Records of the ticket table (R11). -/
def tableCapacity : Nat := 48
/-- Entries of the home register (R16). -/
def registerCapacity : Nat := 1024
/-- Entries of the closed list (R19). -/
def closedCapacity : Nat := 32
/-- Lines of a ticket (R6). -/
def lineCapacity : Nat := 8
/-- Price versions of a grade (R68). -/
def versionCapacity : Nat := 3
/-- Tiers of a price version (R68). -/
def tierCapacity : Nat := 4
/-- Denominations of the drawer table (R150). -/
def drawerCapacity : Nat := 8
/-- Places of the transmit queue (R91). -/
def queuePlaces : Nat := 24
/-- Jobs of the print queue (R163). -/
def jobCapacity : Nat := 8
/-- Entries of the reprint list (R179). -/
def reprintCapacity : Nat := 8
/-- Header lines (R173). -/
def headerCapacity : Nat := 4
/-- Characters of a printed line (R163). -/
def lineWidth : Nat := 40
/-- Notices of the notice queue (R193). -/
def noticeCapacity : Nat := 16
/-- Parameter bytes of a command frame (R196). -/
def maxParams : Nat := 48
/-- Payload bytes of a link frame (R86). -/
def maxPayload : Nat := 24
/-- Records that one LIST TICKETS reports (R23). -/
def listStep : Nat := 4

/-! ### Timers, in milliseconds -/

/-- Silence timer (R29). -/
def silenceMs : Nat := 500
/-- Select timer (R196). -/
def selectMs : Nat := 20
/-- Join timer (R103). -/
def joinMs : Nat := 500
/-- ANNOUNCE timer (R109). -/
def announceMs : Nat := 1000
/-- Transmit timeout (R93). -/
def transmitMs : Nat := 100
/-- Reassembly timer (R96). -/
def reassemblyMs : Nat := 200
/-- Time without a good frame after which a peer is absent (R111). -/
def presenceMs : Nat := 3000
/-- Time in UP with no peer present after which the link enters ALONE (R102). -/
def upAloneMs : Nat := 3000
/-- Stall timer (R178). -/
def stallMs : Nat := 5000
/-- One yard second (R211). -/
def secondMs : Nat := 1000
/-- Where the ages of R40 and R110 hold. -/
def ageTop : Nat := 65535

/-! ### Bounds -/

/-- The yard clock's top (R211). -/
def clockTop : Nat := 172799
/-- The largest gross-in (R79). -/
def maxWeight : Nat := 150450
/-- The largest size of an amount (R79). -/
def maxAmount : Nat := 300900000
/-- The largest price per tonne (R68). -/
def maxPrice : Nat := 2000000
/-- Attempts of a frame in UP (R93). -/
def maxAttempts : Nat := 3
/-- Consecutive undelivered frames that lead to DOWN (R105). -/
def maxUndelivered : Nat := 3
/-- Tests within which serial allocation finds a free serial (R2). -/
def serialTests : Nat := 1103

/-! ### The value the spec does not state

R55 and R77 say that pricing always finds an entry, a version and a tier. In a state that no run reaches, where the
entry is absent or its lists are empty, the spec gives no price, grade deduction or tier: these constants have no body,
so nothing can be proved of their values (log entry 31). -/

/-- Price per tonne and tier number of a line whose grade has no version or no tier to choose. Unreachable: free value. -/
opaque unstatedTier : Nat → Nat × Nat
/-- Whether the line of an absent grade is a CHARGE, and whether it is regulated. Unreachable: free value. -/
opaque unstatedKind : Nat → Bool × Bool
/-- Grade deduction of a line whose grade is absent. Unreachable: free value. -/
opaque unstatedDeduction : Nat → Nat

end Sys2Proof.Config
end

