-- ==== Sys2Proof/Syntax.lean ====
section
/-! DEFINITION. The commands of the block: one constructor of Instr for each row of spec/opcode_table.json. -/

namespace Sys2Proof

/-- A ticket number: home station and serial (R1). -/
structure TicketNo where
  home : Nat
  serial : Nat
  deriving DecidableEq, Repr

/-- The status of a sample message (R27). -/
inductive SampleStatus
  | ok | overload | cellFault | converterFault
  deriving DecidableEq, Repr

/-- The two slots of a station (R44, R139). -/
inductive SlotId
  | weigh | pay
  deriving DecidableEq, Repr

/-- The commands. A controller-port command carries the parameter bytes of its frame, coded as R196 says; a frame of a
peer carries its sender and its payload bytes, laid out as R89 says. -/
inductive Instr
  /-- Power arrives with these straps; `storeAgrees` says whether every part of the retained store agrees with its check value (R205, R207, R208). -/
  | powerOn (idStrap roleStrap rateStrap : Nat) (storeAgrees : Bool)
  | powerLoss
  | selectActive
  | selectTimeout
  | frameRejected
  | nop (ps : List Byte)
  | reset (ps : List Byte)
  | readNotice (ps : List Byte)
  | setAttn (ps : List Byte)
  | clearFlags (ps : List Byte)
  | clearAll (ps : List Byte)
  | readFlags (ps : List Byte)
  | setIdentity (ps : List Byte)
  | configure (ps : List Byte)
  | configureDefaults (ps : List Byte)
  | readConfig (ps : List Byte)
  | dayOpen (ps : List Byte)
  | dayClose (ps : List Byte)
  | yardClockTick
  | clockTop
  | newTicket (ps : List Byte)
  | weighStep (ps : List Byte)
  | voidTicket (ps : List Byte)
  | weighCancel (ps : List Byte)
  | zero (ps : List Byte)
  | readWeight (ps : List Byte)
  | pay (ps : List Byte)
  | payConfirm (ps : List Byte)
  | payCancel (ps : List Byte)
  | readOffer (ps : List Byte)
  | refill (ps : List Byte)
  | setDenominations (ps : List Byte)
  | setCashLimits (ps : List Byte)
  | readDrawer (ps : List Byte)
  | loadGrade (ps : List Byte)
  | addPriceVersion (ps : List Byte)
  | readGrade (ps : List Byte)
  | readTicket (ps : List Byte)
  | findByTag (ps : List Byte)
  | listTickets (ps : List Byte)
  | releaseForeign (ps : List Byte)
  | readLink (ps : List Byte)
  | readRoster (ps : List Byte)
  | reprint (ps : List Byte)
  | printText (ps : List Byte)
  | cancelJob (ps : List Byte)
  | printerLoan (ps : List Byte)
  | reclaim (ps : List Byte)
  | headerBegin (ps : List Byte)
  | headerContinue (ps : List Byte)
  | readPrinter (ps : List Byte)
  /-- A sample message of whole framing and agreeing check, with its status and raw weight in kg (R27, R28). -/
  | sampleMessage (status : SampleStatus) (raw : Int)
  | malformedSample
  | silenceTimerExpiry
  | captureTimerExpiry
  /-- The window count of this slot's claim timer runs out (R119). -/
  | claimWindowExpiry (slot : SlotId)
  | confirmTimerExpiry
  | frameStart
  | arbitrationLost
  /-- The acknowledge slot of the own frame is read: dominant (`true`) or recessive (R93). -/
  | attemptEnd (acknowledged : Bool)
  /-- The transmit timeout of the frame at this position of the transmit queue's order expires (R93). -/
  | transmitTimeout (position : Nat)
  | idConflictDetected
  | badCrcFrame
  /-- A good-CRC frame that fails a form check for a reason outside a known kind's payload (R89). -/
  | malformedFrame (sender : Nat)
  | claimReceived (sender : Nat) (payload : List Byte)
  | objectReceived (sender : Nat) (payload : List Byte)
  | releaseReceived (sender : Nat) (payload : List Byte)
  | closedReceived (sender : Nat) (payload : List Byte)
  | headReceived (sender : Nat) (payload : List Byte)
  | lineReceived (sender : Nat) (payload : List Byte)
  | noteReceived (sender : Nat) (payload : List Byte)
  | askReceived (sender : Nat) (payload : List Byte)
  | announceReceived (sender : Nat) (payload : List Byte)
  /-- The 200 ms timer of this peer's reassembly context expires (R97). -/
  | reassemblyTimeout (peer : Nat)
  | joinTimerExpiry
  | announceTimerExpiry
  /-- 3 s have passed without a good frame from this peer (R111). -/
  | peerPresenceTimeout (peer : Nat)
  | upAloneTimeout
  | handCode
  | busyActive
  | busyInactive
  | stallTimerExpiry
  | paperOutActive
  | paperOutClear
  | faultActive
  | faultInactive
  deriving DecidableEq, Repr

end Sys2Proof
end

