-- ==== Sys2Proof/Decode.lean ====
section
/-! DEFINITION. The command a table word spells. The opcode table of this block gives no row any bits. -/

namespace Sys2Proof

/-- Every row of spec/opcode_table.json has an empty list of fields and no fixed bits, so no word spells a command:
the answer is none for every width and every word (log entry 40). The command codes of R200 stand in
Machine/Port.lean; the frame payloads of R89 are read in Machine/Frames.lean. -/
def decodeTableWord (_nbits _w : Nat) : Option Instr := none

end Sys2Proof
end

