-- ==== Sys2Proof/Machine/State.lean ====
section
/-! DEFINITION. The state of the part as plain data, every block's in its own structure, and State.reset. -/

namespace Sys2Proof.Machine

/-! ### Roles, purposes, the day -/

/-- The roles of 00_scope.md, Roles. -/
inductive Role
  | bridge | window | both
  deriving DecidableEq, Repr

/-- What a claim is for (R114). -/
inductive Purpose
  | weigh | pay | void
  deriving DecidableEq, Repr

/-- Straps as sampled at power-on: 4, 2 and 2 pins (R205). -/
structure Straps where
  id : Nat
  role : Nat
  rate : Nat
  deriving DecidableEq, Repr

/-- Straps, and the retained identity override (R205). -/
structure Identity where
  straps : Straps
  override : Option (Nat × Role)
  deriving DecidableEq, Repr

/-- Station day totals (R215). -/
structure DayTotals where
  issued : Nat
  completed : Nat
  voided : Nat
  deriving DecidableEq, Repr

/-- The yard day: state, number, clock (R211, R212) and the station day totals. `tick` is the time to the clock's next
second, none while the clock is stopped (log entry 1). Retained. -/
structure YardDay where
  isOpen : Bool
  number : Nat
  clock : Nat
  tick : Option Nat
  totals : DayTotals
  deriving DecidableEq, Repr

/-! ### Configuration (R210) -/

inductive FaultScope
  | station | block
  deriving DecidableEq, Repr

inductive LockMode
  | line | weighIn
  deriving DecidableEq, Repr

/-- The six configuration items of the scale unit (R32). -/
structure ScaleItems where
  capacity : Nat
  division : Nat
  windowLength : Nat
  motionBand : Nat
  clearThreshold : Nat
  captureTimeout : Nat
  deriving DecidableEq, Repr

/-- The 15 configuration items in the order of R210, as the retained store holds them. -/
structure Settings extends ScaleItems where
  claimWindow : Nat
  confirmTimeout : Nat
  faultScope : FaultScope
  lockMode : LockMode
  homeCheck : Bool
  receiptRequired : Bool
  shortToTransfer : Bool
  regulatedCap : Nat
  ticketCashMax : Nat
  deriving DecidableEq, Repr

/-! ### Tickets (chapter Tickets) -/

/-- The lives a record of the ticket table can have (R3, R4). -/
inductive Life
  | opened | complete
  deriving DecidableEq, Repr

/-- The lives of a home register entry (R16). -/
inductive RegLife
  | opened | complete | paid | voided | closed
  deriving DecidableEq, Repr

/-- The kind of a grade and of a line (R5, R67). -/
inductive GradeKind
  | buy | charge
  deriving DecidableEq, Repr

/-- What the recording station keeps of a line beside its link fields (R5). -/
structure LocalPart where
  lineDeduction : Nat
  gradeDeduction : Nat
  tier : Nat
  deriving DecidableEq, Repr

/-- A line record (R5). -/
structure Line where
  index : Nat
  grade : Nat
  kind : GradeKind
  regulated : Bool
  net : Nat
  deduction : Nat
  paid : Nat
  price : Nat
  amount : Int
  priceEarly : Bool
  offline : Bool
  localPart : Option LocalPart
  deriving DecidableEq, Repr

/-- The custody mark of a full record (R8). -/
inductive Custody
  | free
  | claiming (slot : SlotId) (purpose : Purpose)
  | held (slot : SlotId) (purpose : Purpose)
  | taken (holder : Nat) (purpose : Purpose)
  deriving DecidableEq, Repr

/-- A full ticket record (R3). -/
structure Record where
  number : TicketNo
  issueDay : Nat
  life : Life
  step : Nat
  grossIn : Nat
  lastWeight : Nat
  weighInTime : Nat
  lastStepTime : Nat
  lines : List Line
  tag : Option Text
  seller : Option Text
  offline : Bool
  priceEarly : Bool
  lastWriter : Nat
  custody : Custody
  stale : Bool
  pendingBroadcast : Bool
  deriving DecidableEq, Repr

/-- A home register entry; holder 0 is none (R16). -/
structure RegEntry where
  serial : Nat
  life : RegLife
  step : Nat
  holder : Nat
  issueDay : Nat
  deriving DecidableEq, Repr

/-- How a settled ticket ended. -/
inductive Settlement
  | paid | voided
  deriving DecidableEq, Repr

/-- What a closed-list entry says of its ticket: a settlement with its values, or CLOSED, closed elsewhere with an
outcome this station does not know (R19). -/
inductive Closure
  | settled (how : Settlement) (cash : Nat) (transfer : Int) (station : Nat) (seller : Bool)
  | elsewhere
  deriving DecidableEq, Repr

/-- A closed-list entry (R19). -/
structure ClosedEntry where
  number : TicketNo
  closure : Closure
  deriving DecidableEq, Repr

/-- The ticket store: three collections, next serial, register owner (0: none) and the LIST TICKETS cursor (none: the
start). All but the cursor retained (R207). -/
structure Tickets where
  table : List Record
  register : List RegEntry
  owner : Nat
  closed : List ClosedEntry
  nextSerial : Nat
  cursor : Option TicketNo
  deriving DecidableEq, Repr

/-! ### Scale unit (chapter Weight Capture) -/

/-- The last well-formed sample and its age in ms (R28, R40). -/
structure LastSample where
  raw : Int
  status : SampleStatus
  age : Nat
  deriving DecidableEq, Repr

/-- What a capture is for (R35). -/
inductive Target
  | newTicket
  | ticket (t : TicketNo)
  deriving DecidableEq, Repr

/-- The kind of a capture context (R34, R35). -/
inductive CaptureKind
  | capture (target : Target)
  | zeroing
  deriving DecidableEq, Repr

/-- A sample in the window: `good` when its status is OK and it was not overloaded at its arrival (R30, R35). -/
structure WindowSample where
  raw : Int
  good : Bool
  deriving DecidableEq, Repr

/-- The capture context (R35). The window is oldest first. -/
structure CaptureContext where
  kind : CaptureKind
  window : List WindowSample
  timer : Nat
  stableSeen : Bool
  deriving DecidableEq, Repr

/-- The scale unit; only the zero offset is retained. The captured ticket may be NEW (R37). `inForce` holds the scale items
in force: CONFIGURE's new values join them with the next sample to arrive (R32, R210, log entry 59). -/
structure ScaleUnit where
  zero : Int
  last : Option LastSample
  silence : Option Nat
  deckClear : Bool
  captured : Option Target
  context : Option CaptureContext
  inForce : ScaleItems
  deriving DecidableEq, Repr

/-! ### Pricing unit (chapter Grades and Prices) -/

/-- A weight tier (R68). -/
structure Tier where
  bound : Nat
  price : Nat
  deriving DecidableEq, Repr

/-- A price version (R68). -/
structure Version where
  effective : Nat
  tiers : List Tier
  deriving DecidableEq, Repr

/-- A present grade entry, its versions oldest first (R67, R68). -/
structure Grade where
  name : Text
  kind : GradeKind
  regulated : Bool
  deduction : Nat
  versions : List Version
  deriving DecidableEq, Repr

/-- Day totals of a grade number; a held mark for each total (R80). -/
structure GradeTotals where
  lines : Nat
  paid : Nat
  amount : Int
  linesHeld : Bool
  paidHeld : Bool
  amountHeld : Bool
  deriving DecidableEq, Repr

/-- The grade table and its day totals, each a list keyed by grade number in rising order: a number not listed is an
absent entry, or totals of 0. Retained. -/
structure Pricing where
  grades : List (Nat × Grade)
  totals : List (Nat × GradeTotals)
  deriving DecidableEq, Repr

/-! ### Yard link (chapter The Yard Link) -/

/-- The link states (R102). -/
inductive LinkState
  | joining | alone | up | down | silent
  deriving DecidableEq, Repr

/-- The reason of an OBJECT (R89). -/
inductive ObjectReason
  | held | stale | closed
  deriving DecidableEq, Repr

/-- The two NOTE kinds (R89). -/
inductive NoteKind
  | tag | seller
  deriving DecidableEq, Repr

/-- The values of a HEAD (R89). -/
structure HeadValues where
  ticket : TicketNo
  issueDay : Nat
  step : Nat
  life : Life
  grossIn : Nat
  lastWeight : Nat
  weighInTime : Nat
  lastStepTime : Nat
  lineCount : Nat
  hasTag : Bool
  hasSeller : Bool
  offline : Bool
  priceEarly : Bool
  deriving DecidableEq, Repr

/-- The values of an ANNOUNCE (R109). -/
structure AnnounceValues where
  role : Role
  dayNumber : Nat
  dayOpen : Bool
  restart : Bool
  tableLoad : Nat
  deriving DecidableEq, Repr

/-- A link frame's kind and values, without its sender (R89). -/
inductive Frame
  | release (t : TicketNo)
  | closed (t : TicketNo) (how : Settlement) (cash : Nat) (transfer : Int) (seller : Bool)
  | claim (t : TicketNo) (purpose : Purpose) (step : Nat)
  | object (t : TicketNo) (claimant holder : Nat) (reason : ObjectReason) (step : Nat)
  | head (h : HeadValues)
  | line (t : TicketNo) (l : Line)
  | note (t : TicketNo) (kind : NoteKind) (text : Text)
  | ask (t : TicketNo) (step : Nat)
  | announce (a : AnnounceValues)
  deriving DecidableEq, Repr

/-- One entry of the transmit queue: a single frame, or a burst's frames still to be delivered, front first (R91, R94).
`started`: its front frame, or for a burst its HEAD, has been on the wire; `onWire`: its front frame is on the wire now;
`timeout`: the running transmit timeout of the front frame; `timedOut`: it ran out during an attempt (R93). A CLAIM
names the slot it was queued for. -/
structure QueueItem where
  frames : List Frame
  burst : Option TicketNo
  slot : Option SlotId
  started : Bool
  onWire : Bool
  attempts : Nat
  timeout : Option Nat
  timedOut : Bool
  deriving DecidableEq, Repr

/-- The frame the station is transmitting: a queued frame or a DOWN probe, with the bits it drives (R86, R106). -/
structure Wire where
  frame : Frame
  probe : Bool
  bits : List Bool
  deriving DecidableEq, Repr

/-- A COLLECTING reassembly context (R96). -/
structure Reassembly where
  peer : Nat
  head : HeadValues
  lines : List Line
  tag : Option Text
  seller : Option Text
  timer : Nat
  deriving DecidableEq, Repr

/-- A roster entry (R110). -/
structure Peer where
  id : Nat
  role : Option Role
  dayNumber : Option Nat
  dayOpen : Option Bool
  tableLoad : Option Nat
  present : Bool
  sinceHeard : Nat
  deriving DecidableEq, Repr

/-- The yard link block. `contexts` lists the COLLECTING contexts, `roster` is in ID order; none is retained (R113). -/
structure Link where
  state : LinkState
  joinTimer : Option Nat
  announceTimer : Option Nat
  upAlone : Option Nat
  queue : List QueueItem
  wire : Option Wire
  probe : Option AnnounceValues
  undelivered : Nat
  restartOwed : Bool
  contexts : List Reassembly
  roster : List Peer
  crcErrors : Nat
  ackDriven : Bool
  deriving DecidableEq, Repr

/-! ### Claim engine (chapter Custody Claims) -/

/-- The phases of a claim timer (R115). -/
inductive Phase
  | idle | queued | window | granted | committed | ended
  deriving DecidableEq, Repr

/-- The subject of a claim timer (R115). -/
structure Subject where
  ticket : TicketNo
  purpose : Purpose
  step : Nat
  deriving DecidableEq, Repr

/-- A slot's claim timer, with the running window count in ms (R115). -/
structure ClaimTimer where
  phase : Phase
  subject : Option Subject
  count : Option Nat
  deriving DecidableEq, Repr

/-! ### Slots (chapters Weighing Steps and Payout) -/

/-- How custody was granted (R44, R139). -/
inductive Grant
  | notYet
  | byFrame
  | byLink (atGrant : LinkState)
  deriving DecidableEq, Repr

/-- The states of the weigh slot other than IDLE (R43). -/
inductive WeighPhase
  | claiming | capturing | zeroing
  deriving DecidableEq, Repr

/-- Kind and command values of a weigh-slot operation (R44). -/
inductive WeighKind
  | newTicket (tag seller : Option Text)
  | weighStep (grade deduction : Nat) (final : Bool)
  | void
  | zero
  deriving DecidableEq, Repr

/-- The weigh slot's operation record; the slot is IDLE when there is none (R43, R44). `target` is the ticket of a weigh
step or void. -/
structure WeighOp where
  phase : WeighPhase
  kind : WeighKind
  target : Option TicketNo
  grant : Grant
  claimedStep : Nat
  reserved : Bool
  closing : Bool
  deriving DecidableEq, Repr

/-- The classes of an offer (R149). -/
inductive OfferClass
  | cash | allTransfer | nothingPayable | amountDue
  deriving DecidableEq, Repr

/-- An offer record (R139). -/
structure Offer where
  net : Int
  regulated : Int
  cls : OfferClass
  cash : Nat
  transfer : Int
  rPrime : Nat
  unregulated : Nat
  c0 : Nat
  c1 : Nat
  room : Nat
  c2 : Nat
  unit : Nat
  c3 : Nat
  residue : Nat
  shortfall : Nat
  breakdown : List (Nat × Nat)
  limit : Nat
  paidAtOffer : Nat
  offline : Bool
  seller : Bool
  deriving DecidableEq, Repr

/-- The pay slot's operation record; IDLE when there is none, OFFERED when it holds an offer (R138, R139). `confirm` is
the running confirm timer in ms. -/
structure PayOp where
  isVoid : Bool
  target : TicketNo
  given : Option Text
  placeholder : Option Nat
  grant : Grant
  claimedStep : Nat
  closing : Bool
  offer : Option Offer
  confirm : Option Nat
  deriving DecidableEq, Repr

/-- A denomination of the drawer table (R150). -/
structure Denomination where
  value : Nat
  enabled : Bool
  count : Nat
  lowMark : Nat
  deriving DecidableEq, Repr

/-- Window day totals (R159). -/
structure WindowTotals where
  payouts : Nat
  cash : Nat
  transfer : Nat
  residue : Nat
  shortfall : Nat
  offline : Nat
  dueCount : Nat
  dueSum : Nat
  deriving DecidableEq, Repr

/-- Drawer table (largest value first), cash limits and window day totals, all retained; `pulses` counts the pulses
given on the drawer line (log entry 33). -/
structure Drawer where
  denominations : List Denomination
  limit : Nat
  warn : Nat
  totals : WindowTotals
  pulses : Nat
  deriving DecidableEq, Repr

/-! ### Receipt unit (chapter Receipts and the Printer Port) -/

/-- Receipt kinds (R163). -/
inductive ReceiptKind
  | weighSlip | ticket | voucher | voidSlip | dayReport | text
  deriving DecidableEq, Repr

/-- Job states (R163). -/
inductive JobState
  | waiting | queued | printing | suspended
  deriving DecidableEq, Repr

/-- A print job (R163). `awaitsBusy` marks a SUSPENDED job that PRINTER FAULT suspended: it does not restart while BUSY is active
(R178, log entry 61). -/
structure Job where
  number : Nat
  kind : ReceiptKind
  ticket : Option TicketNo
  copy : Nat
  restarts : Nat
  state : JobState
  lines : List Text
  sent : Nat
  awaitsBusy : Bool
  deriving DecidableEq, Repr

/-- Port states (R175). -/
inductive PrinterState
  | ready | printing | stopped | loanPending | loaned
  deriving DecidableEq, Repr

/-- An open header load: staged lines and how many are still expected (R173). -/
structure HeaderLoad where
  staged : List Text
  expected : Nat
  deriving DecidableEq, Repr

/-- A reprint list entry (R179). -/
structure Reprint where
  ticket : TicketNo
  kind : ReceiptKind
  copies : Nat
  deriving DecidableEq, Repr

/-- The receipt unit. Only the header lines are retained. `stream` holds the codes still to hand of the receipt on the
port and `leadLine` says that its first line is the REPRINT line (R168, R174). `dataLines` is what the port drives, none
while released; `strobes` counts the strobe pulses (log entry 33). BUSY, PAPER OUT and FAULT are input pins. -/
structure Printer where
  header : List Text
  load : Option HeaderLoad
  jobs : List Job
  nextJob : Nat
  port : PrinterState
  stall : Option Nat
  stalled : Bool
  reprints : List Reprint
  stream : List Nat
  leadLine : Bool
  dataLines : Option Nat
  strobes : Nat
  busy : Bool
  paperOut : Bool
  fault : Bool
  deriving DecidableEq, Repr

/-! ### Result codes, flags and notices (chapters Flags, Scope and Notices; The Controller Port) -/

/-- Result codes (R201). -/
inductive Result
  | ok | accepted | busy | notAllowed | range | order | noTicket | stale | closed | notReady
  | tableFull | homeFull | halted | restarted | linkDown | linkBusy | homeAbsent | linesFull
  | sellerRequired | printQueueFull | openTickets
  | lost | notStable | deckNotCleared | underZero | noLoad | noNet | scaleFault | zeroRange
  | drawerShort | timeout | cancelled
  deriving DecidableEq, Repr

/-- The 14 flags in the order of R184's table. -/
inductive Flag
  | scaleFault | overload | printerFault | conflict | idConflict | retainedLost | linkDown
  | tableFull | reassemblyLost | printLost | cashWarn | cashLimit | drawerLow | noticeOverflow
  deriving DecidableEq, Repr

inductive ScaleCause
  | cellFault | converterFault | silence
  deriving DecidableEq, Repr

inductive OverloadCause
  | status | net
  deriving DecidableEq, Repr

inductive PrinterCause
  | fault | stall
  deriving DecidableEq, Repr

inductive IdConflictHow
  | announce | frame | bit
  deriving DecidableEq, Repr

/-- Kinds of notices (R192). -/
inductive NoticeKind
  | done | payable | closedElsewhere | flag | printed | peer | day
  deriving DecidableEq, Repr

/-- What a latch keeps (R184's column Detail). -/
inductive Detail
  | none
  | scale (cause : ScaleCause)
  | overload (cause : OverloadCause) (net : Int)
  | printer (cause : PrinterCause)
  | conflict (t : TicketNo) (objector : Nat) (reason : ObjectReason)
  | idConflict (how : IdConflictHow)
  | tableFull (t : TicketNo) (sender : Nat)
  | reassembly (sender : Nat) (t : TicketNo)
  | receipt (kind : ReceiptKind) (t : Option TicketNo)
  | cashPaid (n : Nat)
  | denomination (v : Nat)
  | notice (k : NoticeKind)
  deriving DecidableEq, Repr

/-- A flag record; the count is an event flag's (R184). -/
structure FlagRecord where
  latched : Bool
  count : Nat
  detail : Detail
  deriving DecidableEq, Repr

/-- The 14 flag records and RESTARTED (R184, R188). -/
structure Flags where
  scaleFault : FlagRecord
  overload : FlagRecord
  printerFault : FlagRecord
  conflict : FlagRecord
  idConflict : FlagRecord
  retainedLost : FlagRecord
  linkDown : FlagRecord
  tableFull : FlagRecord
  reassemblyLost : FlagRecord
  printLost : FlagRecord
  cashWarn : FlagRecord
  cashLimit : FlagRecord
  drawerLow : FlagRecord
  noticeOverflow : FlagRecord
  restarted : Bool
  deriving DecidableEq, Repr

/-- Loss reasons of a DONE notice (R192). -/
inductive LossReason
  | withdrawn | held | stale | closed | changed
  deriving DecidableEq, Repr

inductive PrintEvent
  | complete | paperOut
  deriving DecidableEq, Repr

inductive PeerChange
  | present | absent | role | dayState | restart
  deriving DecidableEq, Repr

inductive DayEvent
  | opened | closed | clockTop
  deriving DecidableEq, Repr

/-- A notice (R192), without its sequence number. -/
inductive Notice
  | done (slot : SlotId) (outcome : Result) (ticket : Option TicketNo) (loss : Option LossReason)
      (holder : Nat) (newZero : Int)
  | payable (t : TicketNo)
  | closedElsewhere (t : TicketNo) (c : Closure)
  | flag (f : Flag) (d : Detail)
  | printed (job : Nat) (kind : ReceiptKind) (t : Option TicketNo) (event : PrintEvent)
  | peer (id : Nat) (change : PeerChange) (role : Option Role) (dayNumber : Option Nat) (dayOpen : Option Bool)
  | day (number : Nat) (event : DayEvent) (voided : Nat)
  deriving DecidableEq, Repr

/-- The notice queue, oldest first, each notice with its sequence number; the next sequence number; ATTN enable (R193,
R194). -/
structure Notices where
  queue : List (Nat × Notice)
  seq : Nat
  attnEnable : Bool
  deriving DecidableEq, Repr

/-! ### Controller port (chapter The Controller Port) -/

/-- The frame in progress: the bytes copied when select went active, the bits clocked in so far and the select timer;
abandoned by the timer; or an activation found at start-up, which is no frame (R196, R197, R204). -/
inductive PortFrame
  | none
  | running (copied : List Byte) (clocked : List Bool) (timer : Nat)
  | abandoned
  | notAFrame
  deriving DecidableEq, Repr

/-- The controller port; `select` is the input pin, `dataOut` holds the bits shifted out since select last went active,
in their order (R196 to R198, log entry 33). -/
structure Port where
  select : Bool
  frame : PortFrame
  dataOut : List Bool
  answer : List Byte
  position : Nat
  portError : Bool
  answerNew : Bool
  deriving DecidableEq, Repr

/-! ### The whole state -/

/-- The state of the part, block by block; and its two inputs from outside, each first in first out: the bits waiting on
data in, and the queue of waiting commands (log entry 7). -/
structure State where
  powered : Bool
  identity : Identity
  day : YardDay
  settings : Settings
  tickets : Tickets
  scale : ScaleUnit
  weigh : Option WeighOp
  pricing : Pricing
  link : Link
  weighTimer : ClaimTimer
  payTimer : ClaimTimer
  payOp : Option PayOp
  drawer : Drawer
  printer : Printer
  flags : Flags
  notices : Notices
  port : Port
  dataIn : List Bool
  pending : List Instr
  deriving DecidableEq, Repr

/-- Why the machine stops with a fault. The spec's faults are latched flags (R184), which are State: no meaning answers
this reason. -/
inductive Fault
  /-- Raised by nothing: kept because the interface asks for a type of reasons. Safe: it never stands in for an effect. -/
  | unused
  deriving DecidableEq, Repr

/-- Why a command has no meaning. -/
inductive Refusal
  /-- Raised by an arm of exec whose command has no meaning yet; every arm has one. Safe: the machine stops. -/
  | notModelled (mnemonic : String)
  deriving DecidableEq, Repr

/-! ### Factory values (R207, R210) and reset -/

/-- The factory values of R210. -/
def Settings.factory : Settings :=
  { capacity := 60000, division := 20, windowLength := 10, motionBand := 20, clearThreshold := 10,
    captureTimeout := 30, claimWindow := 50, confirmTimeout := 120, faultScope := .station, lockMode := .line,
    homeCheck := true, receiptRequired := true, shortToTransfer := true, regulatedCap := 0,
    ticketCashMax := 1000000 }

def DayTotals.zero : DayTotals := { issued := 0, completed := 0, voided := 0 }

/-- The day CLOSED, number 0, clock at 0 and stopped (R207). -/
def YardDay.factory : YardDay :=
  { isOpen := false, number := 0, clock := 0, tick := none, totals := .zero }

/-- Three empty collections, next serial 1, no register owner (R207). -/
def Tickets.factory : Tickets :=
  { table := [], register := [], owner := 0, closed := [], nextSerial := 1, cursor := none }

/-- Every grade absent, all totals 0 (R84). -/
def Pricing.factory : Pricing := { grades := [], totals := [] }

def GradeTotals.zero : GradeTotals :=
  { lines := 0, paid := 0, amount := 0, linesHeld := false, paidHeld := false, amountHeld := false }

def WindowTotals.zero : WindowTotals :=
  { payouts := 0, cash := 0, transfer := 0, residue := 0, shortfall := 0, offline := 0, dueCount := 0, dueSum := 0 }

/-- Drawer empty, cash limits at their factory values (R153, R207). -/
def Drawer.factory : Drawer :=
  { denominations := [], limit := 2000000, warn := 1600000, totals := .zero, pulses := 0 }

/-- A scale unit that holds only its zero offset and the scale items in force (R26, R41). -/
def ScaleUnit.start (zero : Int) (items : ScaleItems) : ScaleUnit :=
  { zero := zero, last := none, silence := none, deckClear := false, captured := none, context := none,
    inForce := items }

/-- The yard link at power-on, its join timer not yet started (R113). -/
def Link.start : Link :=
  { state := .joining, joinTimer := none, announceTimer := none, upAlone := none, queue := [], wire := none,
    probe := none, undelivered := 0, restartOwed := true, contexts := [], roster := [], crcErrors := 0,
    ackDriven := false }

/-- A claim timer at power-on (R137). -/
def ClaimTimer.start : ClaimTimer := { phase := .idle, subject := none, count := none }

/-- The receipt unit at power-on with these header lines and these levels on its input pins (R183). -/
def Printer.start (header : List Text) (busy paperOut fault : Bool) : Printer :=
  { header := header, load := none, jobs := [], nextJob := 1, port := .ready, stall := none, stalled := false,
    reprints := [], stream := [], leadLine := false, dataLines := some 0, strobes := 0, busy := busy,
    paperOut := paperOut, fault := fault }

def FlagRecord.clear : FlagRecord := { latched := false, count := 0, detail := .none }

/-- Every flag clear and RESTARTED set (R195). -/
def Flags.start : Flags :=
  { scaleFault := .clear, overload := .clear, printerFault := .clear, conflict := .clear, idConflict := .clear,
    retainedLost := .clear, linkDown := .clear, tableFull := .clear, reassemblyLost := .clear,
    printLost := .clear, cashWarn := .clear, cashLimit := .clear, drawerLow := .clear,
    noticeOverflow := .clear, restarted := true }

/-- No notice, sequence 0, ATTN enable on (R195). -/
def Notices.start : Notices := { queue := [], seq := 0, attnEnable := true }

/-- The port at power-on with this level on select (R204). -/
def Port.start (select : Bool) : Port :=
  { select := select, frame := if select then .notAFrame else .none, dataOut := [], answer := [], position := 0,
    portError := false, answerNew := false }

/-- The part right after power-on with factory contents in a retained store that passes its check, every strap and pin
at 0, and no command waiting: WAIT ID (R205, R207; log entry 3). -/
def State.reset : State :=
  { powered := true
    identity := { straps := { id := 0, role := 0, rate := 0 }, override := none }
    day := .factory
    settings := .factory
    tickets := .factory
    scale := .start 0 Settings.factory.toScaleItems
    weigh := none
    pricing := .factory
    link := .start
    weighTimer := .start
    payTimer := .start
    payOp := none
    drawer := .factory
    printer := .start [] false false false
    flags := .start
    notices := .start
    port := .start false
    dataIn := []
    pending := [] }

end Sys2Proof.Machine
end

