-- ==== Sys2Proof/Machine/Operands.lean ====
section
/-! DEFINITION. The coding of parameters and values in bytes (R196, R198), and the parameters of each command read from
its parameter bytes. A reader answers none where the bytes do not hold the parameters' layout; ranges are judged by the
command's own rule. -/

namespace Sys2Proof.Machine

/-! ### Whole numbers: most significant byte first, two's complement when signed (R196) -/

/-- The byte of a number's low 8 bits. -/
def byte (n : Nat) : Byte := BitVec.ofNat 8 n

/-- The whole number of these bytes. -/
def natOf (bs : List Byte) : Nat := bs.foldl (fun a b => a * 256 + b.toNat) 0

/-- A whole number in `w` bytes. -/
def bytesOf : Nat → Nat → List Byte
  | 0, _ => []
  | w + 1, v => bytesOf w (v / 256) ++ [byte v]

/-- The signed number of these bytes. -/
def intOf (bs : List Byte) : Int :=
  if 256 ^ bs.length ≤ 2 * natOf bs then (natOf bs : Int) - (256 ^ bs.length : Nat) else natOf bs

/-- A signed number in `w` bytes. -/
def signedBytes (w : Nat) (v : Int) : List Byte := bytesOf w (v % (256 ^ w : Nat)).toNat

/-- A yes/no: 0 for no, 1 for yes. -/
def flagByte (b : Bool) : Byte := byte b.toNat

/-- A text: its count and its characters. -/
def textBytes (t : Text) : List Byte := byte t.length :: t.map byte

/-- A text that may be absent: count 0 when not given. -/
def optTextBytes (t : Option Text) : List Byte := textBytes (t.getD [])

/-- A ticket number: home, then serial in 2 bytes. -/
def ticketBytes (t : TicketNo) : List Byte := byte t.home :: bytesOf 2 t.serial

/-- A ticket that may be absent: 3 bytes of 0. -/
def optTicketBytes : Option TicketNo → List Byte
  | some t => ticketBytes t
  | none => [0, 0, 0]

/-! ### Ranges -/

/-- A ticket number as R1 requires: home 1-15, serial 1-65,535. -/
def ticketOk (t : TicketNo) : Bool :=
  decide (1 ≤ t.home) && decide (t.home ≤ 15) && decide (1 ≤ t.serial) && decide (t.serial ≤ 65535)

/-- A text of `lo` to `hi` characters of codes 32-126. -/
def textOk (lo hi : Nat) (t : Text) : Bool :=
  decide (lo ≤ t.length) && decide (t.length ≤ hi) && t.all (fun c => decide (32 ≤ c) && decide (c ≤ 126))

/-- A text that may be absent, in range when given. -/
def optTextOk (lo hi : Nat) : Option Text → Bool
  | none => true
  | some t => textOk lo hi t

/-- A text as given in a command: no characters means not given (R3, R196). -/
def given (t : Text) : Option Text := if t = [] then none else some t

/-! ### Reading -/

/-- The next `w` bytes as a whole number. -/
def takeNat (w : Nat) (bs : List Byte) : Option (Nat × List Byte) :=
  if w ≤ bs.length then some (natOf (bs.take w), bs.drop w) else none

/-- The next `w` bytes as a signed number. -/
def takeInt (w : Nat) (bs : List Byte) : Option (Int × List Byte) :=
  if w ≤ bs.length then some (intOf (bs.take w), bs.drop w) else none

/-- The next 3 bytes as a ticket number. -/
def takeTicket (bs : List Byte) : Option (TicketNo × List Byte) := do
  let (h, bs) ← takeNat 1 bs
  let (n, bs) ← takeNat 2 bs
  return ({ home := h, serial := n }, bs)

/-- A count byte and that many characters. -/
def takeText (bs : List Byte) : Option (Text × List Byte) := do
  let (n, bs) ← takeNat 1 bs
  if n ≤ bs.length then some ((bs.take n).map BitVec.toNat, bs.drop n) else none

/-- `n` items, each read by `f`. -/
def takeMany {α : Type} (f : List Byte → Option (α × List Byte)) : Nat → List Byte → Option (List α × List Byte)
  | 0, bs => some ([], bs)
  | n + 1, bs => do
    let (a, bs) ← f bs
    let (as, bs) ← takeMany f n bs
    return (a :: as, bs)

/-- A count byte followed by its items (R196). -/
def takeList {α : Type} (f : List Byte → Option (α × List Byte)) (bs : List Byte) : Option (List α × List Byte) := do
  let (n, bs) ← takeNat 1 bs
  takeMany f n bs

/-- The value when nothing is left over. -/
def whole {α : Type} (r : Option (α × List Byte)) : Option α :=
  match r with
  | some (a, []) => some a
  | _ => none

/-! ### Parameters of the commands -/

/-- One number of `w` bytes. -/
def readOne (w : Nat) (ps : List Byte) : Option Nat := whole (takeNat w ps)

/-- One ticket number (VOID TICKET, PAY CONFIRM). -/
def readTicketOnly (ps : List Byte) : Option TicketNo := whole (takeTicket ps)

/-- Two numbers of these widths, in order. -/
def readTwo (w v : Nat) (ps : List Byte) : Option (Nat × Nat) := whole do
  let (a, bs) ← takeNat w ps
  let (b, bs) ← takeNat v bs
  return ((a, b), bs)

/-- A ticket and one byte (READ TICKET: part; REPRINT: kind). -/
def readTicketAndByte (ps : List Byte) : Option (TicketNo × Nat) := whole do
  let (t, bs) ← takeTicket ps
  let (b, bs) ← takeNat 1 bs
  return ((t, b), bs)

/-- NEW TICKET: tag and seller reference (R47). -/
def readNewTicket (ps : List Byte) : Option (Text × Text) := whole do
  let (tag, bs) ← takeText ps
  let (seller, bs) ← takeText bs
  return ((tag, seller), bs)

/-- WEIGH STEP's parameters (R50). -/
structure WeighStepParams where
  ticket : TicketNo
  grade : Nat
  deduction : Nat
  final : Nat
  deriving DecidableEq, Repr

def readWeighStep (ps : List Byte) : Option WeighStepParams := whole do
  let (t, bs) ← takeTicket ps
  let (g, bs) ← takeNat 1 bs
  let (d, bs) ← takeNat 2 bs
  let (f, bs) ← takeNat 1 bs
  return ({ ticket := t, grade := g, deduction := d, final := f }, bs)

/-- PAY: ticket and seller reference (R141). -/
def readPay (ps : List Byte) : Option (TicketNo × Text) := whole do
  let (t, bs) ← takeTicket ps
  let (seller, bs) ← takeText bs
  return ((t, seller), bs)

/-- REFILL's parameters; a low mark of 0 is one not given (R151, R196, log entry 9). -/
structure RefillParams where
  value : Nat
  change : Int
  lowMark : Option Nat
  deriving DecidableEq, Repr

def readRefill (ps : List Byte) : Option RefillParams := whole do
  let (v, bs) ← takeNat 3 ps
  let (c, bs) ← takeInt 2 bs
  let (l, bs) ← takeNat 2 bs
  return ({ value := v, change := c, lowMark := if l = 0 then none else some l }, bs)

/-- One denomination of SET DENOMINATIONS: value, enabled mark, low mark (R152). -/
structure DenominationParams where
  value : Nat
  enabled : Nat
  lowMark : Nat
  deriving DecidableEq, Repr

def takeDenomination (bs : List Byte) : Option (DenominationParams × List Byte) := do
  let (v, bs) ← takeNat 3 bs
  let (e, bs) ← takeNat 1 bs
  let (l, bs) ← takeNat 2 bs
  return ({ value := v, enabled := e, lowMark := l }, bs)

def readDenominations (ps : List Byte) : Option (List DenominationParams) := whole (takeList takeDenomination ps)

def takeTier (bs : List Byte) : Option (Tier × List Byte) := do
  let (b, bs) ← takeNat 3 bs
  let (q, bs) ← takeNat 3 bs
  return ({ bound := b, price := q }, bs)

/-- LOAD GRADE's parameters (R69). -/
structure LoadGradeParams where
  number : Nat
  name : Text
  kind : Nat
  regulated : Nat
  deduction : Nat
  tiers : List Tier
  deriving DecidableEq, Repr

def readLoadGrade (ps : List Byte) : Option LoadGradeParams := whole do
  let (n, bs) ← takeNat 1 ps
  let (name, bs) ← takeText bs
  let (k, bs) ← takeNat 1 bs
  let (r, bs) ← takeNat 1 bs
  let (d, bs) ← takeNat 1 bs
  let (ts, bs) ← takeList takeTier bs
  return ({ number := n, name := name, kind := k, regulated := r, deduction := d, tiers := ts }, bs)

/-- ADD PRICE VERSION's parameters (R70). -/
structure AddVersionParams where
  number : Nat
  effective : Nat
  tiers : List Tier
  deriving DecidableEq, Repr

def readAddVersion (ps : List Byte) : Option AddVersionParams := whole do
  let (n, bs) ← takeNat 1 ps
  let (e, bs) ← takeNat 3 bs
  let (ts, bs) ← takeList takeTier bs
  return ({ number := n, effective := e, tiers := ts }, bs)

/-- CONFIGURE's pairs of item number (1 byte) and value (4 bytes), without a count (R210). -/
def readItems (ps : List Byte) : Option (List (Nat × Nat)) :=
  whole (takeMany (fun bs => do
    let (i, bs) ← takeNat 1 bs
    let (v, bs) ← takeNat 4 bs
    return ((i, v), bs)) (ps.length / 5) ps)

/-- One text (FIND BY TAG, PRINT TEXT, HEADER CONTINUE). -/
def readTextOnly (ps : List Byte) : Option Text := whole (takeText ps)

/-- HEADER BEGIN: a count, and the first line's text when the count is at least 1 (R173, log entry 9). -/
def readHeaderBegin (ps : List Byte) : Option (Nat × Text) :=
  match takeNat 1 ps with
  | some (0, []) => some (0, [])
  | some (n, bs) => (whole (takeText bs)).map (fun t => (n, t))
  | none => none

end Sys2Proof.Machine
end

