-- ==== Sys2Proof/Machine/Frames.lean ====
section
/-! DEFINITION. The frames of the yard link: classes, kind codes, payloads, the form check and the CRC (R86, R89). -/

namespace Sys2Proof.Machine

/-- The nine kinds (R89). -/
inductive FrameKind
  | release | closed | claim | object | head | line | note | ask | announce
  deriving DecidableEq, Repr

def Frame.kind : Frame → FrameKind
  | .release _ => .release
  | .closed .. => .closed
  | .claim .. => .claim
  | .object .. => .object
  | .head _ => .head
  | .line .. => .line
  | .note .. => .note
  | .ask .. => .ask
  | .announce _ => .announce

/-- The kind codes of R89. -/
def FrameKind.code : FrameKind → Nat
  | .release => 1
  | .closed => 2
  | .claim => 3
  | .object => 4
  | .head => 5
  | .line => 6
  | .note => 7
  | .ask => 8
  | .announce => 9

/-- The class of each kind (R89). -/
def FrameKind.cls : FrameKind → Nat
  | .release | .closed => 0
  | .claim | .object => 1
  | .head | .line | .note | .ask => 2
  | .announce => 3

/-- The ticket a frame concerns; an ANNOUNCE concerns none. -/
def Frame.ticket? : Frame → Option TicketNo
  | .release t | .closed t .. | .claim t .. | .object t .. | .line t _ | .note t .. | .ask t _ => some t
  | .head h => some h.ticket
  | .announce _ => none

/-! ### Enumerations as R89 numbers them -/

def Purpose.code : Purpose → Nat
  | .weigh => 1
  | .pay => 2
  | .void => 3

def purposeOf : Nat → Option Purpose
  | 1 => some .weigh
  | 2 => some .pay
  | 3 => some .void
  | _ => none

def ObjectReason.code : ObjectReason → Nat
  | .held => 1
  | .stale => 2
  | .closed => 3

def objectReasonOf : Nat → Option ObjectReason
  | 1 => some .held
  | 2 => some .stale
  | 3 => some .closed
  | _ => none

def Settlement.code : Settlement → Nat
  | .paid => 1
  | .voided => 2

def settlementOf : Nat → Option Settlement
  | 1 => some .paid
  | 2 => some .voided
  | _ => none

def Life.code : Life → Nat
  | .opened => 1
  | .complete => 2

def lifeOf : Nat → Option Life
  | 1 => some .opened
  | 2 => some .complete
  | _ => none

def NoteKind.code : NoteKind → Nat
  | .tag => 1
  | .seller => 2

def noteKindOf : Nat → Option NoteKind
  | 1 => some .tag
  | 2 => some .seller
  | _ => none

/-- BRIDGE 1, WINDOW 2, BOTH 3 (R89, R205). -/
def Role.code : Role → Nat
  | .bridge => 1
  | .window => 2
  | .both => 3

def roleOf : Nat → Option Role
  | 1 => some .bridge
  | 2 => some .window
  | 3 => some .both
  | _ => none

/-- Day state: 1 CLOSED, 2 OPEN (R89). -/
def dayStateCode (isOpen : Bool) : Nat := if isOpen then 2 else 1

def dayStateOf : Nat → Option Bool
  | 1 => some false
  | 2 => some true
  | _ => none

def boolOf : Nat → Option Bool
  | 0 => some false
  | 1 => some true
  | _ => none

/-- A byte of packed marks, the first in bit 0. -/
def packed (a b c d : Bool) : Nat := a.toNat + 2 * b.toNat + 4 * c.toNat + 8 * d.toNat

/-! ### Payloads (R89) -/

/-- The payload bytes of a frame, in R89's order. -/
def Frame.payload : Frame → List Byte
  | .release t => ticketBytes t
  | .closed t how cash transfer seller =>
      ticketBytes t ++ [byte how.code] ++ bytesOf 4 cash ++ signedBytes 4 transfer ++ [flagByte seller]
  | .claim t p step => ticketBytes t ++ [byte p.code, byte step]
  | .object t c h r step => ticketBytes t ++ [byte c, byte h, byte r.code, byte step]
  | .head h =>
      ticketBytes h.ticket ++ bytesOf 2 h.issueDay ++ [byte h.step, byte h.life.code] ++ bytesOf 3 h.grossIn
        ++ bytesOf 3 h.lastWeight ++ bytesOf 3 h.weighInTime ++ bytesOf 3 h.lastStepTime
        ++ [byte h.lineCount, byte (packed h.hasTag h.hasSeller false false),
            byte (packed h.offline h.priceEarly false false)]
  | .line t l =>
      ticketBytes t
        ++ [byte l.index, byte l.grade,
            byte (packed (decide (l.kind = .charge)) l.regulated l.offline l.priceEarly)]
        ++ bytesOf 3 l.net ++ bytesOf 2 l.deduction ++ bytesOf 3 l.paid ++ bytesOf 3 l.price
        ++ signedBytes 4 l.amount
  | .note t k text => ticketBytes t ++ [byte k.code] ++ text.map byte
  | .ask t step => ticketBytes t ++ [byte step]
  | .announce a =>
      [byte a.role.code] ++ bytesOf 2 a.dayNumber
        ++ [byte (dayStateCode a.dayOpen), flagByte a.restart, byte a.tableLoad]

/-- The values of a frame lie in the ranges the manual gives them (R89; the ranges of R3, R5, R79, R109; for a line's
net and paid weight see log entry 32, for the values of a VOIDED CLOSED and the sign of an amount log entry 49). -/
def Frame.inRange : Frame → Bool
  | .release t => ticketOk t
  | .closed t _ cash transfer _ =>
      ticketOk t && decide (cash ≤ Config.maxAmount) && decide (transfer.natAbs ≤ Config.maxAmount)
  | .claim t _ step => ticketOk t && decide (step ≤ 8)
  | .object t c h _ step =>
      ticketOk t && decide (1 ≤ c) && decide (c ≤ 15) && decide (h ≤ 15) && decide (step ≤ 8)
  | .head h =>
      ticketOk h.ticket && decide (1 ≤ h.issueDay) && decide (h.issueDay ≤ 65535) && decide (h.step ≤ 8)
        && decide (h.grossIn ≤ Config.maxWeight) && decide (h.lastWeight ≤ Config.maxWeight)
        && decide (h.weighInTime ≤ Config.clockTop) && decide (h.lastStepTime ≤ Config.clockTop)
        && decide (h.lineCount ≤ 8)
  | .line t l =>
      ticketOk t && decide (1 ≤ l.index) && decide (l.index ≤ 8) && decide (1 ≤ l.grade)
        && decide (l.grade ≤ 32) && decide (5 ≤ l.net) && decide (l.net ≤ Config.maxWeight)
        && decide (l.deduction ≤ 700) && decide (l.paid ≤ l.net) && decide (l.price ≤ Config.maxPrice)
        && decide (l.amount.natAbs ≤ Config.maxAmount) && decide (l.localPart = none)
  | .note t .tag text => ticketOk t && textOk 1 12 text
  | .note t .seller text => ticketOk t && textOk 1 16 text
  | .ask t step => ticketOk t && decide (step ≤ 8)
  | .announce a => decide (a.dayNumber ≤ 65535) && decide (a.tableLoad ≤ Config.tableCapacity)

/-- The values a payload of this kind holds, or none when its length or one of its coded values is not of the kind. -/
def rawFrame : FrameKind → List Byte → Option Frame
  | .release, bs => whole do
      let (t, bs) ← takeTicket bs
      return (.release t, bs)
  | .closed, bs => whole do
      let (t, bs) ← takeTicket bs
      let (o, bs) ← takeNat 1 bs
      let (cash, bs) ← takeNat 4 bs
      let (tr, bs) ← takeInt 4 bs
      let (se, bs) ← takeNat 1 bs
      return (.closed t (← settlementOf o) cash tr (← boolOf se), bs)
  | .claim, bs => whole do
      let (t, bs) ← takeTicket bs
      let (p, bs) ← takeNat 1 bs
      let (n, bs) ← takeNat 1 bs
      return (.claim t (← purposeOf p) n, bs)
  | .object, bs => whole do
      let (t, bs) ← takeTicket bs
      let (c, bs) ← takeNat 1 bs
      let (h, bs) ← takeNat 1 bs
      let (r, bs) ← takeNat 1 bs
      let (n, bs) ← takeNat 1 bs
      return (.object t c h (← objectReasonOf r) n, bs)
  | .head, bs => whole do
      let (t, bs) ← takeTicket bs
      let (day, bs) ← takeNat 2 bs
      let (step, bs) ← takeNat 1 bs
      let (life, bs) ← takeNat 1 bs
      let (gross, bs) ← takeNat 3 bs
      let (last, bs) ← takeNat 3 bs
      let (inTime, bs) ← takeNat 3 bs
      let (stepTime, bs) ← takeNat 3 bs
      let (count, bs) ← takeNat 1 bs
      let (notes, bs) ← takeNat 1 bs
      let (marks, bs) ← takeNat 1 bs
      let life ← lifeOf life
      if notes ≤ 3 ∧ marks ≤ 3 then
        return (.head { ticket := t, issueDay := day, step := step, life := life, grossIn := gross,
                        lastWeight := last, weighInTime := inTime, lastStepTime := stepTime, lineCount := count,
                        hasTag := notes.testBit 0, hasSeller := notes.testBit 1,
                        offline := marks.testBit 0, priceEarly := marks.testBit 1 }, bs)
      else none
  | .line, bs => whole do
      let (t, bs) ← takeTicket bs
      let (i, bs) ← takeNat 1 bs
      let (g, bs) ← takeNat 1 bs
      let (m, bs) ← takeNat 1 bs
      let (net, bs) ← takeNat 3 bs
      let (d, bs) ← takeNat 2 bs
      let (paid, bs) ← takeNat 3 bs
      let (price, bs) ← takeNat 3 bs
      let (amount, bs) ← takeInt 4 bs
      if m ≤ 15 then
        return (.line t { index := i, grade := g, kind := if m.testBit 0 then .charge else .buy,
                          regulated := m.testBit 1, net := net, deduction := d, paid := paid, price := price,
                          amount := amount, priceEarly := m.testBit 3, offline := m.testBit 2,
                          localPart := none }, bs)
      else none
  | .note, bs => do
      let (t, bs) ← takeTicket bs
      let (k, bs) ← takeNat 1 bs
      return .note t (← noteKindOf k) (bs.map BitVec.toNat)
  | .ask, bs => whole do
      let (t, bs) ← takeTicket bs
      let (n, bs) ← takeNat 1 bs
      return (.ask t n, bs)
  | .announce, bs => whole do
      let (r, bs) ← takeNat 1 bs
      let (n, bs) ← takeNat 2 bs
      let (d, bs) ← takeNat 1 bs
      let (m, bs) ← takeNat 1 bs
      let (load, bs) ← takeNat 1 bs
      let role ← roleOf r
      let isOpen ← dayStateOf d
      let mark ← boolOf m
      return (.announce { role := role, dayNumber := n, dayOpen := isOpen, restart := mark, tableLoad := load }, bs)

/-- The well-formed frame of this kind that a payload holds; none when the frame is malformed (R89). -/
def readFrame (k : FrameKind) (bs : List Byte) : Option Frame :=
  match rawFrame k bs with
  | some f => if f.inRange then some f else none
  | none => none

/-! ### Bits on the wire (R86, R87): `true` is recessive, `false` is dominant -/

/-- A number in `w` bits, most significant first. -/
def bitsOf : Nat → Nat → List Bool
  | 0, _ => []
  | w + 1, v => bitsOf w (v / 2) ++ [v % 2 == 1]

/-- One step of the CRC register for one bit: generator x^16 + x^12 + x^5 + 1 (R86). -/
def crcStep (r : BitVec 16) (b : Bool) : BitVec 16 :=
  if r.msb != b then (r <<< 1) ^^^ 0x1021 else r <<< 1

/-- The CRC over these bits, the register starting at all ones, sent without inversion (R86). -/
def crcOf (bits : List Bool) : BitVec 16 := bits.foldl crcStep 0xFFFF

/-- The bits the CRC covers: class, sender, kind, length, payload (R86). -/
def coveredBits (sender : Nat) (f : Frame) : List Bool :=
  bitsOf 2 f.kind.cls ++ bitsOf 4 sender ++ bitsOf 4 f.kind.code ++ bitsOf 5 f.payload.length
    ++ f.payload.flatMap (fun b => bitsOf 8 b.toNat)

/-- All bits of a frame as its sender drives them: start, covered bits, CRC, acknowledge slot, end (R86). -/
def frameBits (sender : Nat) (f : Frame) : List Bool :=
  [false] ++ coveredBits sender f ++ bitsOf 16 (crcOf (coveredBits sender f)).toNat ++ [true]
    ++ List.replicate 7 true

end Sys2Proof.Machine
end

