-- ==== Sys2Proof/Machine/Ops.lean ====
section
/-! DEFINITION. The readings of State every block uses, one setter for each block, and the passing of time. -/

namespace Sys2Proof.Machine

/-! ### Setters: each changes one block and no other -/

def State.onDay (f : YardDay → YardDay) (s : State) : State := { s with day := f s.day }
def State.onTickets (f : Tickets → Tickets) (s : State) : State := { s with tickets := f s.tickets }
def State.onScale (f : ScaleUnit → ScaleUnit) (s : State) : State := { s with scale := f s.scale }
def State.onWeigh (f : Option WeighOp → Option WeighOp) (s : State) : State := { s with weigh := f s.weigh }
def State.onPricing (f : Pricing → Pricing) (s : State) : State := { s with pricing := f s.pricing }
def State.onLink (f : Link → Link) (s : State) : State := { s with link := f s.link }
def State.onPay (f : Option PayOp → Option PayOp) (s : State) : State := { s with payOp := f s.payOp }
def State.onDrawer (f : Drawer → Drawer) (s : State) : State := { s with drawer := f s.drawer }
def State.onPrinter (f : Printer → Printer) (s : State) : State := { s with printer := f s.printer }
def State.onFlags (f : Flags → Flags) (s : State) : State := { s with flags := f s.flags }
def State.onNotices (f : Notices → Notices) (s : State) : State := { s with notices := f s.notices }
def State.onPort (f : Port → Port) (s : State) : State := { s with port := f s.port }

/-- The claim timer of a slot (R115). -/
def State.claimTimer (slot : SlotId) (s : State) : ClaimTimer :=
  match slot with
  | .weigh => s.weighTimer
  | .pay => s.payTimer

def State.onTimer (slot : SlotId) (f : ClaimTimer → ClaimTimer) (s : State) : State :=
  match slot with
  | .weigh => { s with weighTimer := f s.weighTimer }
  | .pay => { s with payTimer := f s.payTimer }

/-! ### Identity and role (R205) -/

/-- ID and role in force: the override while one is held, else the straps; none in WAIT ID. -/
def Identity.inForce (i : Identity) : Option (Nat × Role) :=
  match i.override with
  | some o => some o
  | none =>
    match roleOf i.straps.role with
    | some r => if i.straps.id = 0 then none else some (i.straps.id, r)
    | none => none

/-- The station's ID in force; 0 in WAIT ID. -/
def State.myId (s : State) : Nat :=
  match s.identity.inForce with
  | some (i, _) => i
  | none => 0

/-- The role in force; none in WAIT ID. -/
def State.role (s : State) : Option Role := s.identity.inForce.map Prod.snd

/-- WAIT ID: no ID or no role in force (R205). -/
def State.waitId (s : State) : Bool := s.identity.inForce.isNone

/-- The weigh slot and the scale unit exist at BRIDGE and BOTH (R26, R43). -/
def State.hasWeigh (s : State) : Bool := s.role == some .bridge || s.role == some .both

/-- The pay slot exists at WINDOW and BOTH (R138). -/
def State.hasPay (s : State) : Bool := s.role == some .window || s.role == some .both

/-! ### Keyed lists: the grade table and its totals -/

/-- What a keyed list holds for a key. -/
def lookup {α : Type} (k : Nat) : List (Nat × α) → Option α
  | [] => none
  | (i, a) :: rest => if i = k then some a else lookup k rest

/-- The list without the key. -/
def erased {α : Type} (k : Nat) (l : List (Nat × α)) : List (Nat × α) := l.filter (fun p => p.1 != k)

/-- The list with the key set, keys in rising order. -/
def assigned {α : Type} (k : Nat) (a : α) (l : List (Nat × α)) : List (Nat × α) :=
  (erased k l).takeWhile (fun p => decide (p.1 < k)) ++ [(k, a)]
    ++ (erased k l).dropWhile (fun p => decide (p.1 < k))

/-- The grade entry of a number, none when absent (R67). -/
def State.grade (n : Nat) (s : State) : Option Grade := lookup n s.pricing.grades

/-- The day totals of a grade number (R80). -/
def State.gradeTotals (n : Nat) (s : State) : GradeTotals := (lookup n s.pricing.totals).getD .zero

/-! ### The passing of time (log entry 1)

A running timer holds the ms it has left and stops at 0 until its expiry is taken; ages hold at 65,535. -/

/-- A running timer after `n` ms. -/
def spend (n : Nat) (t : Option Nat) : Option Nat := t.map (· - n)

/-- An age after `n` ms, holding at 65,535 (R40, R110). -/
def aged (n a : Nat) : Nat := min Config.ageTop (a + n)

def ScaleUnit.elapse (n : Nat) (u : ScaleUnit) : ScaleUnit :=
  { u with
    last := u.last.map (fun l => { l with age := aged n l.age })
    silence := spend n u.silence
    context := u.context.map (fun c => { c with timer := c.timer - n }) }

def Link.elapse (n : Nat) (l : Link) : Link :=
  { l with
    joinTimer := spend n l.joinTimer
    announceTimer := spend n l.announceTimer
    upAlone := spend n l.upAlone
    queue := l.queue.map (fun i => { i with timeout := spend n i.timeout })
    contexts := l.contexts.map (fun c => { c with timer := c.timer - n })
    roster := l.roster.map (fun p => { p with sinceHeard := aged n p.sinceHeard }) }

def PortFrame.elapse (n : Nat) : PortFrame → PortFrame
  | .running copied clocked timer => .running copied clocked (timer - n)
  | f => f

/-- `n` ms pass: every running timer counts down and every age grows. -/
def elapse (n : Nat) (s : State) : State :=
  { s with
    day := { s.day with tick := spend n s.day.tick }
    scale := s.scale.elapse n
    link := s.link.elapse n
    weighTimer := { s.weighTimer with count := spend n s.weighTimer.count }
    payTimer := { s.payTimer with count := spend n s.payTimer.count }
    payOp := s.payOp.map (fun o => { o with confirm := spend n o.confirm })
    printer := { s.printer with stall := spend n s.printer.stall }
    port := { s.port with frame := s.port.frame.elapse n } }

end Sys2Proof.Machine
end

