-- ==== Sys2Proof/Machine/Flags.lean ====
section
/-! DEFINITION. Notices, ATTN, the flags with their latching and clearing, and the fault scope gates (chapter Flags,
Scope and Notices). -/

namespace Sys2Proof.Machine

/-! ### The flag table (R184) -/

/-- Flags in the order of R184's table, number 0 first. -/
def Flag.all : List Flag :=
  [.scaleFault, .overload, .printerFault, .conflict, .idConflict, .retainedLost, .linkDown, .tableFull,
   .reassemblyLost, .printLost, .cashWarn, .cashLimit, .drawerLow, .noticeOverflow]

/-- A flag's number, 0-13 (R196, R202). -/
def Flag.number : Flag → Nat
  | .scaleFault => 0
  | .overload => 1
  | .printerFault => 2
  | .conflict => 3
  | .idConflict => 4
  | .retainedLost => 5
  | .linkDown => 6
  | .tableFull => 7
  | .reassemblyLost => 8
  | .printLost => 9
  | .cashWarn => 10
  | .cashLimit => 11
  | .drawerLow => 12
  | .noticeOverflow => 13

/-- Level STOP; the others are of level WARN (R184). -/
def Flag.isStop : Flag → Bool
  | .scaleFault | .overload | .printerFault | .conflict | .idConflict | .retainedLost => true
  | _ => false

/-- Condition flags; the others are event flags (R184). -/
def Flag.isCondition : Flag → Bool
  | .printerFault | .idConflict | .linkDown | .cashWarn | .cashLimit | .drawerLow => true
  | _ => false

def Flags.get (f : Flag) (fs : Flags) : FlagRecord :=
  match f with
  | .scaleFault => fs.scaleFault
  | .overload => fs.overload
  | .printerFault => fs.printerFault
  | .conflict => fs.conflict
  | .idConflict => fs.idConflict
  | .retainedLost => fs.retainedLost
  | .linkDown => fs.linkDown
  | .tableFull => fs.tableFull
  | .reassemblyLost => fs.reassemblyLost
  | .printLost => fs.printLost
  | .cashWarn => fs.cashWarn
  | .cashLimit => fs.cashLimit
  | .drawerLow => fs.drawerLow
  | .noticeOverflow => fs.noticeOverflow

def Flags.set (f : Flag) (r : FlagRecord) (fs : Flags) : Flags :=
  match f with
  | .scaleFault => { fs with scaleFault := r }
  | .overload => { fs with overload := r }
  | .printerFault => { fs with printerFault := r }
  | .conflict => { fs with conflict := r }
  | .idConflict => { fs with idConflict := r }
  | .retainedLost => { fs with retainedLost := r }
  | .linkDown => { fs with linkDown := r }
  | .tableFull => { fs with tableFull := r }
  | .reassemblyLost => { fs with reassemblyLost := r }
  | .printLost => { fs with printLost := r }
  | .cashWarn => { fs with cashWarn := r }
  | .cashLimit => { fs with cashLimit := r }
  | .drawerLow => { fs with drawerLow := r }
  | .noticeOverflow => { fs with noticeOverflow := r }

def State.flag (f : Flag) (s : State) : FlagRecord := s.flags.get f

def State.latched (f : Flag) (s : State) : Bool := (s.flag f).latched

def State.setFlag (f : Flag) (r : FlagRecord) (s : State) : State := s.onFlags (Flags.set f r)

/-- One more latch of an event flag: count 1 and the detail when clear, else only the count, holding at 255 (R184, R185). -/
def FlagRecord.grown (d : Detail) (r : FlagRecord) : FlagRecord :=
  if r.latched then { r with count := min 255 (r.count + 1) } else { latched := true, count := 1, detail := d }

/-- At least one STOP flag is latched (R184). -/
def State.anyStop (s : State) : Bool := Flag.all.any (fun f => f.isStop && s.latched f)

/-- At least one WARN flag is latched (R184). -/
def State.anyWarn (s : State) : Bool := Flag.all.any (fun f => !f.isStop && s.latched f)

/-! ### Notices (R192 to R194) -/

def Notice.kind : Notice → NoticeKind
  | .done .. => .done
  | .payable _ => .payable
  | .closedElsewhere .. => .closedElsewhere
  | .flag .. => .flag
  | .printed .. => .printed
  | .peer .. => .peer
  | .day .. => .day

/-- Posts a notice: it takes the next sequence number, which grows by one, 255 followed by 0; with 16 notices queued it
is dropped and NOTICE OVERFLOW latched with its kind, without a FLAG notice (R193). -/
def postNotice (n : Notice) (s : State) : State :=
  if s.notices.queue.length < Config.noticeCapacity then
    s.onNotices (fun q => { q with queue := q.queue ++ [(q.seq, n)], seq := (q.seq + 1) % 256 })
  else
    (s.onNotices (fun q => { q with seq := (q.seq + 1) % 256 })).setFlag .noticeOverflow
      ((s.flag .noticeOverflow).grown (.notice n.kind))

/-- The ATTN output is low: a notice is queued and ATTN enable is on (R194). -/
def State.attnLow (s : State) : Bool := !s.notices.queue.isEmpty && s.notices.attnEnable

/-! ### Latching (R185, R186) -/

/-- A latch of an event flag. A clear flag, and CONFLICT at every latch, posts a FLAG notice (R185). -/
def latchEvent (f : Flag) (d : Detail) (s : State) : State :=
  let s' := s.setFlag f ((s.flag f).grown d)
  if !s.latched f || decide (f = .conflict) then postNotice (.flag f d) s' else s'

/-- The value of the lowest-valued enabled denomination whose count is below its low mark (R150, R184); the drawer table
is kept largest first. -/
def lowestBelowMark : List Denomination → Option Nat
  | [] => none
  | p :: rest =>
    match lowestBelowMark rest with
    | some v => some v
    | none => if p.enabled && decide (p.count < p.lowMark) then some p.value else none

/-- A condition flag's condition holds now (R102, R108, R150, R153, R178). -/
def condition (f : Flag) (s : State) : Bool :=
  match f with
  | .linkDown => decide (s.link.state = .down)
  | .idConflict => decide (s.link.state = .silent)
  | .printerFault => s.printer.fault || s.printer.stalled
  | .cashWarn => decide (s.drawer.warn ≤ s.drawer.totals.cash)
  | .cashLimit => decide (s.drawer.limit ≤ s.drawer.totals.cash)
  | .drawerLow => (lowestBelowMark s.drawer.denominations).isSome
  | _ => false

/-- The detail of a condition at this moment (R184). ID CONFLICT's is given by its detection. -/
def conditionDetail (f : Flag) (s : State) : Detail :=
  match f with
  | .printerFault => if s.printer.fault then .printer .fault else .printer .stall
  | .cashWarn | .cashLimit => .cashPaid s.drawer.totals.cash
  | .drawerLow => .denomination ((lowestBelowMark s.drawer.denominations).getD 0)
  | _ => .none

/-- A condition flag is latched with its FLAG notice unless it is latched already (R186). -/
def latchCondition (f : Flag) (d : Detail) (s : State) : State :=
  if s.latched f then s
  else postNotice (.flag f d) (s.setFlag f { latched := true, count := 0, detail := d })

/-- A condition flag is judged: latched when its condition holds (R186). -/
def judge (f : Flag) (s : State) : State :=
  if condition f s then latchCondition f (conditionDetail f s) s else s

/-! ### Clearing (R187) -/

/-- A named flag is made clear, but a condition flag whose condition holds stays as it is. -/
def clearFlag (f : Flag) (s : State) : State :=
  if f.isCondition && condition f s then s else s.setFlag f .clear

/-- The named flags, and RESTARTED if named. -/
def clearNamed (names : Flag → Bool) (restarted : Bool) (s : State) : State :=
  (Flag.all.foldl (fun s f => if names f then clearFlag f s else s) s).onFlags
    (fun fs => if restarted then { fs with restarted := false } else fs)

/-- The set of latched flags as a mask: flag numbers as bits, RESTARTED in bit 15 (R187, R196). -/
def State.flagMask (s : State) : Nat :=
  (Flag.all.map (fun f => if s.latched f then 2 ^ f.number else 0)).sum + (if s.flags.restarted then 2 ^ 15 else 0)

/-! ### Fault scope (R189, R190) -/

/-- The slot operations the scope gates judge. -/
inductive GatedOp
  | newTicket | weighStep | zero | voidTicket | pay
  deriving DecidableEq, Repr

/-- Under BLOCK scope this latched flag refuses the operation (R190's table). -/
def blockRefuses (receiptRequired : Bool) (f : Flag) (o : GatedOp) : Bool :=
  match f, o with
  | .scaleFault, .newTicket | .scaleFault, .weighStep | .scaleFault, .zero => true
  | .overload, .newTicket | .overload, .weighStep | .overload, .zero => true
  | .printerFault, .newTicket | .printerFault, .weighStep | .printerFault, .voidTicket
  | .printerFault, .pay => receiptRequired
  | .conflict, .weighStep | .conflict, .voidTicket | .conflict, .pay => true
  | _, _ => false

/-- The scope gates pass for the operation (R189): under STATION no STOP flag is latched; under BLOCK none that refuses
it. -/
def gatePasses (o : GatedOp) (s : State) : Bool :=
  match s.settings.faultScope with
  | .station => !s.anyStop
  | .block => !(Flag.all.any (fun f => s.latched f && blockRefuses s.settings.receiptRequired f o))

/-! ### Codes -/

/-- Result codes (R201). -/
def Result.code : Result → Nat
  | .ok => 1
  | .accepted => 2
  | .busy => 3
  | .notAllowed => 4
  | .range => 5
  | .order => 6
  | .noTicket => 7
  | .stale => 8
  | .closed => 9
  | .notReady => 10
  | .tableFull => 11
  | .homeFull => 12
  | .halted => 13
  | .restarted => 14
  | .linkDown => 15
  | .linkBusy => 16
  | .homeAbsent => 17
  | .linesFull => 18
  | .sellerRequired => 19
  | .printQueueFull => 20
  | .openTickets => 21
  | .lost => 32
  | .notStable => 33
  | .deckNotCleared => 34
  | .underZero => 35
  | .noLoad => 36
  | .noNet => 37
  | .scaleFault => 38
  | .zeroRange => 39
  | .drawerShort => 40
  | .timeout => 41
  | .cancelled => 42

/-- Slots in a DONE notice (R202). -/
def slotCode : SlotId → Nat
  | .weigh => 1
  | .pay => 2

def LossReason.code : LossReason → Nat
  | .withdrawn => 1
  | .held => 2
  | .stale => 3
  | .closed => 4
  | .changed => 5

/-- Notice kinds (R202). -/
def NoticeKind.code : NoticeKind → Nat
  | .done => 1
  | .payable => 2
  | .closedElsewhere => 3
  | .flag => 4
  | .printed => 5
  | .peer => 6
  | .day => 7

/-- Receipt kinds (R202). -/
def ReceiptKind.code : ReceiptKind → Nat
  | .weighSlip => 1
  | .ticket => 2
  | .voucher => 3
  | .voidSlip => 4
  | .dayReport => 5
  | .text => 6

/-- The outcome bytes of a closure: outcome, cash, transfer (R202; absent values 0). -/
def Closure.bytes : Closure → List Byte
  | .settled how cash transfer _ _ => [byte how.code] ++ bytesOf 4 cash ++ signedBytes 4 transfer
  | .elsewhere => [byte 3] ++ bytesOf 4 0 ++ bytesOf 4 0

/-- The seller-present byte of a closure. -/
def Closure.sellerByte : Closure → Byte
  | .settled _ _ _ _ seller => flagByte seller
  | .elsewhere => 0

def optCode {α : Type} (code : α → Nat) : Option α → Nat
  | some a => code a
  | none => 0

/-- A detail's bytes: its values in the order of the flag table, numbers in 4 bytes, causes numbered from 1 (R202). -/
def Detail.bytes : Detail → List Byte
  | .none => []
  | .scale .cellFault => [1]
  | .scale .converterFault => [2]
  | .scale .silence => [3]
  | .overload .status net => [1] ++ signedBytes 4 net
  | .overload .net net => [2] ++ signedBytes 4 net
  | .printer .fault => [1]
  | .printer .stall => [2]
  | .conflict t o r => ticketBytes t ++ [byte o, byte r.code]
  | .idConflict .announce => [1]
  | .idConflict .frame => [2]
  | .idConflict .bit => [3]
  | .tableFull t x => ticketBytes t ++ [byte x]
  | .reassembly x t => [byte x] ++ ticketBytes t
  | .receipt k t => [byte k.code] ++ optTicketBytes t
  | .cashPaid n => bytesOf 4 n
  | .denomination v => bytesOf 4 v
  | .notice k => [byte k.code]

/-- Bytes filled with 0 to a width. -/
def fill (w : Nat) (bs : List Byte) : List Byte := (bs ++ List.replicate w 0).take w

/-- The fields of a notice from byte 2 of its record (R202). -/
def Notice.fields : Notice → List Byte
  | .done slot outcome t loss holder z =>
      [byte (slotCode slot), byte outcome.code] ++ optTicketBytes t ++ [byte (optCode LossReason.code loss), byte holder]
        ++ signedBytes 4 z
  | .payable t => ticketBytes t
  | .closedElsewhere t c => ticketBytes t ++ c.bytes ++ [c.sellerByte]
  | .flag f d => [byte f.number, if f.isStop then 1 else 2] ++ fill 5 d.bytes
  | .printed job k t e =>
      [byte job, byte k.code] ++ optTicketBytes t ++ [match e with | .complete => 1 | .paperOut => 2]
  | .peer id c r n d =>
      [byte id, match c with | .present => 1 | .absent => 2 | .role => 3 | .dayState => 4 | .restart => 5,
        byte (optCode Role.code r)] ++ bytesOf 2 (n.getD 0) ++ [byte (optCode dayStateCode d)]
  | .day n e v =>
      bytesOf 2 n ++ [match e with | .opened => 1 | .closed => 2 | .clockTop => 3] ++ bytesOf 2 v

/-- The 15-byte record of a notice (R202). -/
def noticeBytes (seq : Nat) (n : Notice) : List Byte :=
  [byte n.kind.code, byte seq] ++ fill 13 n.fields

end Sys2Proof.Machine
end

