-- ==== Sys2Proof/Machine/Store.lean ====
section
/-! DEFINITION. The ticket store: the ticket table, the home register and the closed list (chapter Tickets). -/

namespace Sys2Proof.Machine

/-! ### The ticket table -/

/-- The full record of a ticket (R11). -/
def State.findRecord (t : TicketNo) (s : State) : Option Record :=
  s.tickets.table.find? (fun r => decide (r.number = t))

/-- Changes the record of a ticket in place (R11). -/
def modifyRecord (t : TicketNo) (f : Record → Record) (s : State) : State :=
  s.onTickets (fun k => { k with table := k.table.map (fun r => if r.number = t then f r else r) })

/-- Puts a record after every record present (R11). -/
def appendRecord (r : Record) (s : State) : State :=
  s.onTickets (fun k => { k with table := k.table ++ [r] })

/-- The number of the record before the ticket's record; none when it is the first (R15, R23). -/
def recordBefore (t : TicketNo) : Option TicketNo → List Record → Option TicketNo
  | _, [] => none
  | before, r :: rest => if r.number = t then before else recordBefore t (some r.number) rest

/-- The record leaves the table, with its marks; a cursor at it moves to the record before it, or to the start (R15). -/
def removeRecord (t : TicketNo) (s : State) : State :=
  s.onTickets (fun k =>
    { k with
      table := k.table.filter (fun r => decide (r.number ≠ t))
      cursor := if k.cursor = some t then recordBefore t none k.table else k.cursor })

/-- Places reserved by a NEW TICKET in progress (R13). -/
def State.reservations (s : State) : Nat :=
  match s.weigh with
  | some o => o.reserved.toNat
  | none => 0

/-- The table has a place that is neither a record nor reserved (R13). -/
def State.tableRoom (s : State) : Bool :=
  decide (s.tickets.table.length + s.reservations < Config.tableCapacity)

/-- The register has a place that is neither an entry nor reserved (R13). -/
def State.registerRoom (s : State) : Bool :=
  decide (s.tickets.register.length + s.reservations < Config.registerCapacity)

/-! ### Role filter and last-writer test (R12) -/

/-- The role filter's table (R12). -/
def passesFilter : Role → Life → Bool
  | .bridge, .opened => true
  | .bridge, .complete => false
  | .window, .opened => false
  | .window, .complete => true
  | .both, _ => true

/-- The custody is CLAIMING or HELD by one of this station's slots (R8). -/
def Custody.isOwn : Custody → Bool
  | .claiming .. | .held .. => true
  | _ => false

/-- The record passes the role filter or was last written here. In WAIT ID the collections stay as they are (R205). -/
def State.keeps (s : State) (r : Record) : Bool :=
  match s.role with
  | none => true
  | some role => passesFilter role r.life || decide (r.lastWriter = s.myId)

/-- The two tests applied to one record; the removal waits while the custody is CLAIMING or HELD (R12, R15). -/
def applyFilter (t : TicketNo) (s : State) : State :=
  match s.findRecord t with
  | some r => if r.custody.isOwn || s.keeps r then s else removeRecord t s
  | none => s

/-- The two tests applied to every record, as when the role changes (R12). -/
def filterAll (s : State) : State :=
  (s.tickets.table.map Record.number).foldl (fun s t => applyFilter t s) s

/-- Sets a record's custody; when custody leaves this station's slots, the two tests are applied again (R12). -/
def setCustody (t : TicketNo) (c : Custody) (s : State) : State :=
  match s.findRecord t with
  | none => s
  | some r =>
    let s' := modifyRecord t (fun r => { r with custody := c }) s
    if r.custody.isOwn && !c.isOwn then applyFilter t s' else s'

/-- A record TAKEN by peer x becomes FREE (R97, R98, R132). -/
def freeTakenBy (x : Nat) (t : TicketNo) (s : State) : State :=
  match s.findRecord t with
  | some r =>
    match r.custody with
    | .taken h _ => if h = x then setCustody t .free s else s
    | _ => s
  | none => s

/-! ### The home register (R16 to R18) -/

/-- The register speaks for tickets whose home part is the register owner (R16). -/
def State.speaksFor (t : TicketNo) (s : State) : Bool :=
  decide (t.home = s.tickets.owner) && decide (s.tickets.owner ≠ 0)

/-- The home register entry of one of this station's tickets (R16). -/
def State.regEntry (t : TicketNo) (s : State) : Option RegEntry :=
  if s.speaksFor t then s.tickets.register.find? (fun e => decide (e.serial = t.serial)) else none

/-- Changes the register entry of a ticket, at its home (R17). -/
def modifyEntry (t : TicketNo) (f : RegEntry → RegEntry) (s : State) : State :=
  if s.speaksFor t then
    s.onTickets (fun k => { k with register := k.register.map (fun e => if e.serial = t.serial then f e else e) })
  else s

/-- At the home station the entry takes this holder (R17). -/
def setHolder (t : TicketNo) (h : Nat) (s : State) : State := modifyEntry t (fun e => { e with holder := h }) s

/-- At the home station an entry whose holder is `from_` takes this holder (R17). -/
def moveHolder (t : TicketNo) (from_ h : Nat) (s : State) : State :=
  modifyEntry t (fun e => if e.holder = from_ then { e with holder := h } else e) s

/-- A new entry in ascending order of serial (R16). -/
def insertEntry (e : RegEntry) (l : List RegEntry) : List RegEntry :=
  l.takeWhile (fun x => decide (x.serial < e.serial)) ++ [e] ++ l.dropWhile (fun x => decide (x.serial < e.serial))

/-- The entry says that its ticket is closed: PAID, VOIDED or CLOSED. -/
def RegLife.isClosed : RegLife → Bool
  | .paid | .voided | .closed => true
  | _ => false

/-- The register life of a settlement (R17). -/
def Settlement.life : Settlement → RegLife
  | .paid => .paid
  | .voided => .voided

/-- The register life of a record's life (R17). -/
def Life.reg : Life → RegLife
  | .opened => .opened
  | .complete => .complete

/-- What a closure does to the register entry: a settlement gives its outcome, CLOSED only replaces OPEN and COMPLETE;
holder 0 (R17). -/
def RegEntry.close (c : Closure) (e : RegEntry) : RegEntry :=
  match c with
  | .settled how _ _ _ _ => { e with life := how.life, holder := 0 }
  | .elsewhere =>
    { e with life := if e.life = .paid ∨ e.life = .voided then e.life else .closed, holder := 0 }

/-- What a complete burst does to the register entry (R17). -/
def RegEntry.onBurst (step : Nat) (life : Life) (e : RegEntry) : RegEntry :=
  if e.life.isClosed then e
  else { e with
         step := max e.step step
         life := if e.step ≤ step then life.reg else e.life
         holder := 0 }

/-- An ID in force that is not the register owner empties the register, makes it the owner and returns the next serial
to 1; in WAIT ID nothing changes (R18). -/
def claimRegister (s : State) : State :=
  if s.myId = 0 ∨ s.tickets.owner = s.myId then s
  else s.onTickets (fun k => { k with register := [], owner := s.myId, nextSerial := 1 })

/-! ### The closed list (R19, R20) -/

/-- The closed-list entry of a ticket. -/
def State.closedEntry (t : TicketNo) (s : State) : Option ClosedEntry :=
  s.tickets.closed.find? (fun e => decide (e.number = t))

/-- T is in the closed list, or is one of this station's tickets whose entry is PAID, VOIDED or CLOSED (R20). -/
def State.isClosed (t : TicketNo) (s : State) : Bool :=
  (s.closedEntry t).isSome ||
    (match s.regEntry t with
     | some e => e.life.isClosed
     | none => false)

/-- T enters the closed list, the oldest of 32 entries leaving first; an entry CLOSED takes a later outcome in its
place, any other entry stays (R19). -/
def closedWith (t : TicketNo) (c : Closure) (l : List ClosedEntry) : List ClosedEntry :=
  if l.any (fun e => decide (e.number = t)) then
    l.map (fun e => if e.number = t ∧ e.closure = .elsewhere then { e with closure := c } else e)
  else
    (if Config.closedCapacity ≤ l.length then l.drop 1 else l) ++ [{ number := t, closure := c }]

/-- T enters the closed list and, in the same change, leaves the ticket table; its register entry takes the closure
(R17, R19). -/
def closeTicket (t : TicketNo) (c : Closure) (s : State) : State :=
  modifyEntry t (RegEntry.close c)
    (removeRecord t (s.onTickets (fun k => { k with closed := closedWith t c k.closed })))

/-! ### Serial allocation (R2) -/

/-- The serial is live: in the register, or its ticket in the table or the closed list (R2). -/
def State.serialLive (n : Nat) (s : State) : Bool :=
  let t : TicketNo := { home := s.myId, serial := n }
  s.tickets.register.any (fun e => decide (e.serial = n)) || (s.findRecord t).isSome || (s.closedEntry t).isSome

/-- The serial after this one, 65,535 followed by 1 (R2). -/
def nextSerialAfter (n : Nat) : Nat := if 65535 ≤ n then 1 else n + 1

/-- The first serial from `n` on that is not live, within so many tests (R2). -/
def allocateFrom (s : State) : Nat → Nat → Nat
  | 0, n => n
  | fuel + 1, n => if s.serialLive n then allocateFrom s fuel (nextSerialAfter n) else n

/-- The serial that NEW TICKET allocates (R2). -/
def State.allocated (s : State) : Nat := allocateFrom s Config.serialTests s.tickets.nextSerial

/-! ### Derived totals of a record (R78) -/

/-- The net amount: the sum of the amounts of all lines. -/
def Record.netAmount (r : Record) : Int := (r.lines.map Line.amount).sum

/-- The regulated amount: the sum of the amounts of the lines marked regulated and of kind BUY. -/
def Record.regulatedAmount (r : Record) : Int :=
  ((r.lines.filter (fun l => l.regulated && decide (l.kind = .buy))).map Line.amount).sum

/-- The record has a regulated line, whatever its kind. -/
def Record.hasRegulated (r : Record) : Bool := r.lines.any Line.regulated

/-! ### Codes for answers (log entry 10) -/

def RegLife.code : RegLife → Nat
  | .opened => 1
  | .complete => 2
  | .paid => 3
  | .voided => 4
  | .closed => 5

/-- Custody with its parts: value, slot, holder, purpose, an absent part 0. -/
def Custody.bytes : Custody → List Byte
  | .free => [1, 0, 0, 0]
  | .claiming slot p => [2, byte (slotCode slot), 0, byte p.code]
  | .held slot p => [3, byte (slotCode slot), 0, byte p.code]
  | .taken h p => [4, 0, byte h, byte p.code]

end Sys2Proof.Machine
end

