-- ==== Sys2Proof/Machine/Queue.lean ====
section
/-! DEFINITION. The transmit queue: places, order, admission, eviction, bursts, ASK, ANNOUNCE and pending broadcasts
(chapter The Yard Link, R91 to R95, R100, R101). -/

namespace Sys2Proof.Machine

/-! ### Places (R91) -/

/-- Frames in the queue, a burst counting one place per frame. -/
def Link.framesQueued (l : Link) : Nat := (l.queue.map (fun i => i.frames.length)).sum

/-- Places reserved as closing places of holds (R51). -/
def State.closingPlaces (s : State) : Nat :=
  (match s.weigh with
   | some o => o.closing.toNat
   | none => 0) +
  (match s.payOp with
   | some o => o.closing.toNat
   | none => 0)

/-- Occupied places: frames and closing places. -/
def State.occupied (s : State) : Nat := s.link.framesQueued + s.closingPlaces

/-- Empty places. -/
def State.freePlaces (s : State) : Nat := Config.queuePlaces - s.occupied

/-! ### Order (R91) -/

/-- The class of the frame an item would send next. -/
def QueueItem.cls (i : QueueItem) : Nat :=
  match i.frames with
  | f :: _ => f.kind.cls
  | [] => 3

/-- An item that holds one frame. -/
def QueueItem.single (f : Frame) : QueueItem :=
  { frames := [f], burst := none, slot := none, started := false, onWire := false, attempts := 0,
    timeout := none, timedOut := false }

/-- The kind of the frame an item would send next. -/
def QueueItem.kind? (i : QueueItem) : Option FrameKind := i.frames.head?.map Frame.kind

/-- RELEASE and CLOSED frames are the ones held in DOWN and SILENT (R106, R108). -/
def QueueItem.isHeld (i : QueueItem) : Bool := i.kind? == some .release || i.kind? == some .closed

/-- Behind every item of its class and of lower classes (R91). -/
def placed (i : QueueItem) (q : List QueueItem) : List QueueItem :=
  q.takeWhile (fun x => decide (x.cls ≤ i.cls)) ++ [i] ++ q.dropWhile (fun x => decide (x.cls ≤ i.cls))

/-- Queues an item. -/
def enqueue (i : QueueItem) (s : State) : State := s.onLink (fun l => { l with queue := placed i l.queue })

/-- The link passes frames of other kinds than RELEASE and CLOSED by: DOWN and SILENT (R106, R108). -/
def State.linkHolds (s : State) : Bool := decide (s.link.state = .down) || decide (s.link.state = .silent)

/-! ### Closing places (R51) -/

/-- The slot keeps a closing place. -/
def State.closingHeld (slot : SlotId) (s : State) : Bool :=
  match slot with
  | .weigh =>
    match s.weigh with
    | some o => o.closing
    | none => false
  | .pay =>
    match s.payOp with
    | some o => o.closing
    | none => false

/-- Sets whether the slot keeps a closing place. -/
def setClosing (slot : SlotId) (b : Bool) (s : State) : State :=
  match slot with
  | .weigh => s.onWeigh (Option.map (fun o => { o with closing := b }))
  | .pay => s.onPay (Option.map (fun o => { o with closing := b }))

/-- The frame that ends a hold takes the slot's closing place; a slot without one sends nothing (R51). -/
def sendOnClosing (slot : SlotId) (f : Frame) (s : State) : State :=
  if s.closingHeld slot then enqueue (.single f) (setClosing slot false s) else s

/-! ### Bursts (R94, R95) -/

/-- The HEAD of a record's burst (R89, R94). -/
def Record.headValues (r : Record) : HeadValues :=
  { ticket := r.number, issueDay := r.issueDay, step := r.step, life := r.life, grossIn := r.grossIn,
    lastWeight := r.lastWeight, weighInTime := r.weighInTime, lastStepTime := r.lastStepTime,
    lineCount := r.lines.length, hasTag := r.tag.isSome, hasSeller := r.seller.isSome,
    offline := r.offline, priceEarly := r.priceEarly }

/-- A record's burst: HEAD, LINEs in index order, NOTE for the tag, NOTE for the seller reference (R94). -/
def Record.burst (r : Record) : List Frame :=
  [.head r.headValues] ++ r.lines.map (fun l => .line r.number { l with localPart := none })
    ++ (match r.tag with
        | some t => [.note r.number .tag t]
        | none => [])
    ++ (match r.seller with
        | some t => [.note r.number .seller t]
        | none => [])

/-- An unstarted burst of the ticket: its HEAD is not and has not been on the wire (R94). -/
def QueueItem.isUnstarted (t : TicketNo) (i : QueueItem) : Bool :=
  decide (i.burst = some t) && !i.started && !i.onWire

/-- Queues a record's burst whole, an earlier unstarted burst of the ticket leaving first; none when it does not fit, or
in DOWN and SILENT (R94, R106, R108). -/
def queueBurst (r : Record) (s : State) : Option State :=
  if s.linkHolds then none
  else
    let s' := s.onLink (fun l => { l with queue := l.queue.filter (fun i => !i.isUnstarted r.number) })
    if r.burst.length ≤ s'.freePlaces then
      some (enqueue { QueueItem.single (.head r.headValues) with frames := r.burst, burst := some r.number } s')
    else none

/-- The record is marked pending broadcast if it is in the table with this station as last writer (R10, R95); in WAIT ID this
station is no record's last writer (log entry 50). -/
def markPending (t : TicketNo) (s : State) : State :=
  modifyRecord t (fun r => if r.lastWriter = s.myId then { r with pendingBroadcast := true } else r) s

/-- A burst of the ticket is in the queue (R101). -/
def State.burstQueued (t : TicketNo) (s : State) : Bool := s.link.queue.any (fun i => decide (i.burst = some t))

/-- Pending records in table order, those whose burst is queued skipped, as far as bursts fit (R101). -/
def feed : List Record → State → State
  | [], s => s
  | r :: rest, s =>
    if r.pendingBroadcast && !s.burstQueued r.number then
      match queueBurst r s with
      | some s' => feed rest s'
      | none => s
    else feed rest s

/-- The feed of pending broadcasts; it runs in UP and ALONE (R101). -/
def feedPending (s : State) : State :=
  if s.link.state = .up ∨ s.link.state = .alone then feed s.tickets.table s else s

/-! ### Admission and eviction (R91, R92) -/

/-- The youngest burst whose HEAD has not been on the wire leaves the list of queued items. -/
def withoutYoungest : List QueueItem → Option (List QueueItem × TicketNo)
  | [] => none
  | i :: rest =>
    match withoutYoungest rest with
    | some (l, t) => some (i :: l, t)
    | none =>
      match i.burst with
      | some t => if i.started || i.onWire then none else some (rest, t)
      | none => none

/-- An ANNOUNCE that is queued and not on the wire. -/
def QueueItem.isIdleAnnounce (i : QueueItem) : Bool := i.kind? == some .announce && !i.onWire

/-- One frame is evicted: the waiting ANNOUNCE, else the youngest unstarted burst whole, its record marked pending; none
when there is neither (R92). -/
def evict (s : State) : Option State :=
  if s.link.queue.any QueueItem.isIdleAnnounce then
    some (s.onLink (fun l => { l with queue := l.queue.filter (fun i => !i.isIdleAnnounce) }))
  else
    match withoutYoungest s.link.queue with
    | some (q, t) => some (markPending t (s.onLink (fun l => { l with queue := q })))
    | none => none

/-- An OBJECT, or a RELEASE or CLOSED without a closing place, asks for a place: it takes an empty one, evicts, or is
dropped undelivered (R91, R92). In DOWN and SILENT an OBJECT is lost, the others are held (R106, R108). -/
def sendAsking (f : Frame) (s : State) : State :=
  if s.linkHolds && decide (f.kind = .object) then s
  else if 0 < s.freePlaces then enqueue (.single f) s
  else
    match evict s with
    | some s' => enqueue (.single f) s'
    | none => s

/-- An ASK is queued when a place is empty; it is lost in DOWN and SILENT (R91, R100, R106, R108). -/
def sendAsk (t : TicketNo) (step : Nat) (s : State) : State :=
  if s.linkHolds then s
  else if 0 < s.freePlaces then enqueue (.single (.ask t step)) s
  else s

/-- An ASK for the ticket is queued (R100). -/
def State.askQueued (t : TicketNo) (s : State) : Bool :=
  s.link.queue.any (fun i => i.frames.any (fun f => match f with | .ask t' _ => decide (t' = t) | _ => false))

/-- A RELEASE for the ticket is queued (R131). -/
def State.releaseQueued (t : TicketNo) (s : State) : Bool :=
  s.link.queue.any (fun i => i.frames.any (fun f => match f with | .release t' => decide (t' = t) | _ => false))

/-! ### ANNOUNCE (R109) -/

/-- The values an ANNOUNCE carries now. A station without a role announces nothing: its link stays in JOINING. -/
def State.announceValues (s : State) : AnnounceValues :=
  { role := s.role.getD .both, dayNumber := s.day.number, dayOpen := s.day.isOpen, restart := s.link.restartOwed,
    tableLoad := s.tickets.table.length }

/-- An ANNOUNCE falls due in ALONE or UP: the one in the queue takes the new values, or one is queued when a place is
empty, or it is skipped (R91). One on the wire or already tried counts as the one in the queue (log entry 47). -/
def sendAnnounce (s : State) : State :=
  if s.link.queue.any (fun i => i.kind? == some .announce) then
    s.onLink (fun l =>
      { l with
        queue := l.queue.map (fun i =>
          if i.kind? == some .announce then { i with frames := [.announce s.announceValues] } else i) })
  else if 0 < s.freePlaces then enqueue (.single (.announce s.announceValues)) s
  else s

/-! ### Starting frames (R91, R94) -/

/-- A burst whose HEAD is on the wire or has been: it takes precedence over every other item (R91, R94, log entry 25). -/
def QueueItem.underWay (i : QueueItem) : Bool := i.burst.isSome && (i.started || i.onWire)

/-- The head, the item the station starts next: the burst under way, else the first (R91, log entry 60). -/
def Link.head? (l : Link) : Option QueueItem :=
  match l.queue.find? QueueItem.underWay with
  | some i => some i
  | none => l.queue.head?

/-- Changes the first item that a test picks. -/
def modifyFirst (p : QueueItem → Bool) (f : QueueItem → QueueItem) : List QueueItem → List QueueItem
  | [] => []
  | i :: rest => if p i then f i :: rest else i :: modifyFirst p f rest

/-- Changes the head. -/
def Link.onHead (f : QueueItem → QueueItem) (l : Link) : List QueueItem :=
  if l.queue.any QueueItem.underWay then modifyFirst QueueItem.underWay f l.queue
  else modifyFirst (fun _ => true) f l.queue

/-- The transmit timeout starts when a frame first becomes the head, in ALONE and UP (R93, R103). While a burst is under way it
is the head, and a frame of lower class in front of it waits without a timeout (log entry 60). -/
def touchHead (s : State) : State :=
  if s.link.state = .up ∨ s.link.state = .alone then
    s.onLink (fun l =>
      { l with
        queue := l.onHead (fun i => if i.timeout.isNone && !i.timedOut then { i with timeout := some Config.transmitMs } else i) })
  else s

end Sys2Proof.Machine
end

