-- ==== Sys2Proof/Machine/Receipts.lean ====
section
/-! DEFINITION. What receipts say: numbers, times and the line records of each receipt kind (R167 to R172). Spacing that
the rules leave open is in log entry 11. -/

namespace Sys2Proof.Machine

/-! ### Numbers and times (R167) -/

/-- Decimal digits of a number, most significant first, before `acc`; `fuel` bounds their count. -/
def digitsOnto : Nat → Nat → Text → Text
  | 0, _, acc => acc
  | fuel + 1, n, acc => if n < 10 then (48 + n) :: acc else digitsOnto fuel (n / 10) ((48 + n % 10) :: acc)

/-- A whole number in decimal; no number the part prints has over 20 digits. -/
def decimal (n : Nat) : Text := digitsOnto 20 n []

/-- Digits, last first, with a comma (44) after each three that are followed by more. -/
def commaed : Text → Text
  | a :: b :: c :: d :: rest => a :: b :: c :: 44 :: commaed (d :: rest)
  | l => l

/-- A whole number with groups of three digits (R167). -/
def grouped (n : Nat) : Text := (commaed (decimal n).reverse).reverse

/-- A signed amount with groups of three digits and a leading minus sign when negative (R167). -/
def amountText (v : Int) : Text := (if v < 0 then codesOf "-" else []) ++ grouped v.natAbs

/-- A number with leading zeros to a width. -/
def zeroed (w n : Nat) : Text := List.replicate (w - (decimal n).length) 48 ++ decimal n

/-- A yard time as HH:MM:SS (R167). -/
def clockText (t : Nat) : Text :=
  zeroed 2 (t / 3600) ++ codesOf ":" ++ zeroed 2 (t / 60 % 60) ++ codesOf ":" ++ zeroed 2 (t % 60)

/-- A ticket number as SS-NNNNN (R1). -/
def ticketText (t : TicketNo) : Text := zeroed 2 t.home ++ codesOf "-" ++ zeroed 5 t.serial

/-- Fields separated by single spaces, an empty field left out, cut at 40 characters (R167). -/
def fieldsText (fields : List Text) : Text :=
  (List.intercalate (codesOf " ") (fields.filter (fun f => decide (f ≠ [])))).take Config.lineWidth

/-- A weight: the number and KG (R167). KG as a field of its own is the model's choice (log entry 11). -/
def weightFields (n : Nat) : List Text := [grouped n, codesOf "KG"]

/-- A text that is given only when the condition holds. -/
def onlyIf (c : Bool) (t : Text) : Text := if c then t else []

/-- Line records that are given only when the condition holds. -/
def linesIf (c : Bool) (l : List Text) : List Text := if c then l else []

/-! ### Opening lines (R168) -/

/-- Header lines, station line, and the COPY line of a copy (copy number above 0). -/
def openingLines (copy : Nat) (s : State) : List Text :=
  s.printer.header
    ++ [fieldsText [codesOf "STN", zeroed 2 s.myId, codesOf "DAY", zeroed 5 s.day.number, clockText s.day.clock]]
    ++ linesIf (decide (0 < copy)) [fieldsText [codesOf "COPY", decimal copy]]

/-- The name the station's grade table holds for a grade, or GRADE and its number (R168). -/
def gradeText (n : Nat) (s : State) : Text :=
  match s.grade n with
  | some g => g.name
  | none => codesOf "GRADE " ++ zeroed 2 n

/-- A line of one word and a text when the text is present (R169). -/
def presentLine (word : String) : Option Text → List Text
  | some t => [fieldsText [codesOf word, t]]
  | none => []

/-! ### WEIGH SLIP and TICKET (R169) -/

/-- The three records of a line's block. The grouped price and the `*` as a field of its own are the model's choices (log
entry 11). -/
def lineBlock (s : State) (l : Line) : List Text :=
  [fieldsText [codesOf "L" ++ decimal l.index, gradeText l.grade s],
   fieldsText ([codesOf "NET"] ++ weightFields l.net ++ [codesOf "D", decimal l.deduction]
     ++ (match l.localPart with
         | some p => [codesOf "(" ++ decimal p.lineDeduction ++ codesOf "+" ++ decimal p.gradeDeduction ++ codesOf ")"]
         | none => [])
     ++ [codesOf "PAID"] ++ weightFields l.paid),
   fieldsText [grouped l.price, codesOf "/T", amountText l.amount, onlyIf (l.priceEarly || l.offline) (codesOf "*")]]

/-- The marks of the record flags, each on its own line. -/
def markLines (r : Record) : List Text :=
  linesIf r.offline [codesOf "OFFLINE"] ++ linesIf r.priceEarly [codesOf "PRICE EARLY"]

/-- A WEIGH SLIP from a full record. -/
def weighSlipLines (copy : Nat) (r : Record) (s : State) : List Text :=
  openingLines copy s ++ [codesOf "WEIGH SLIP", fieldsText [codesOf "TICKET", ticketText r.number]]
    ++ presentLine "TAG" r.tag
    ++ [fieldsText ([codesOf "IN"] ++ weightFields r.grossIn ++ [clockText r.weighInTime])]
    ++ (match r.lines.getLast? with
        | some l => lineBlock s l
        | none => [])
    ++ [fieldsText ([codesOf "STEP", decimal r.step] ++ weightFields r.lastWeight ++ [clockText r.lastStepTime])]
    ++ markLines r

/-- A TICKET from a full record. -/
def ticketLines (copy : Nat) (r : Record) (s : State) : List Text :=
  openingLines copy s ++ [codesOf "TICKET", fieldsText [codesOf "TICKET", ticketText r.number]]
    ++ presentLine "TAG" r.tag ++ presentLine "SELLER" r.seller
    ++ [fieldsText ([codesOf "IN"] ++ weightFields r.grossIn ++ [clockText r.weighInTime])]
    ++ r.lines.flatMap (lineBlock s)
    ++ [fieldsText ([codesOf "OUT"] ++ weightFields r.lastWeight ++ [clockText r.lastStepTime]),
        fieldsText [codesOf "NET AMOUNT", amountText r.netAmount]]
    ++ linesIf (decide (r.regulatedAmount ≠ 0)) [fieldsText [codesOf "REGULATED", amountText r.regulatedAmount]]
    ++ markLines r

/-! ### VOUCHER and VOID SLIP (R170) -/

/-- The class of an offer as printed. -/
def OfferClass.text : OfferClass → Text
  | .cash => codesOf "CASH"
  | .allTransfer => codesOf "ALL TRANSFER"
  | .nothingPayable => codesOf "NOTHING PAYABLE"
  | .amountDue => codesOf "AMOUNT DUE"

/-- A VOUCHER from the record, the offer and the seller reference the payout used (R170). OFFLINE of the offer and OFFLINE of
the record print as one line (log entry 57). -/
def voucherLines (r : Record) (o : Offer) (seller : Option Text) (s : State) : List Text :=
  openingLines 0 s ++ [codesOf "VOUCHER", fieldsText [codesOf "TICKET", ticketText r.number]]
    ++ presentLine "TAG" r.tag ++ presentLine "SELLER" seller
    ++ r.lines.map (fun l => fieldsText [codesOf "L" ++ decimal l.index, gradeText l.grade s, amountText l.amount])
    ++ [fieldsText [codesOf "NET AMOUNT", amountText o.net]]
    ++ linesIf (decide (0 < o.regulated)) [fieldsText [codesOf "REGULATED", amountText o.regulated]]
    ++ (if 0 < o.cash then
          [fieldsText [codesOf "CASH", amountText o.cash]]
            ++ o.breakdown.map (fun p => fieldsText [decimal p.2, codesOf "X", grouped p.1])
        else [o.cls.text])
    ++ [fieldsText [codesOf "TRANSFER", amountText o.transfer]]
    ++ linesIf (decide (0 < o.residue)) [fieldsText [codesOf "RESIDUE", grouped o.residue]]
    ++ linesIf (decide (0 < o.shortfall)) [fieldsText [codesOf "SHORTFALL", grouped o.shortfall]]
    ++ linesIf (o.offline || r.offline) [codesOf "OFFLINE"] ++ linesIf r.priceEarly [codesOf "PRICE EARLY"]
    ++ [fieldsText [codesOf "PAID AT STN", zeroed 2 s.myId]]

/-- A VOID SLIP from the record just before it leaves the table. -/
def voidSlipLines (r : Record) (offline : Bool) (s : State) : List Text :=
  openingLines 0 s ++ [codesOf "VOID SLIP", fieldsText [codesOf "TICKET", ticketText r.number]]
    ++ presentLine "TAG" r.tag ++ presentLine "SELLER" r.seller
    ++ [fieldsText [codesOf "STEP", decimal r.step, codesOf "LINES", decimal r.lines.length]]
    ++ linesIf offline [codesOf "OFFLINE"]
    ++ [fieldsText [codesOf "VOIDED AT STN", zeroed 2 s.myId]]

/-- A copy of a VOUCHER from a closed-list entry's values (R170). -/
def voucherCopyLines (copy : Nat) (t : TicketNo) (cash : Nat) (transfer : Int) (station : Nat) (s : State) : List Text :=
  openingLines copy s
    ++ [codesOf "VOUCHER", fieldsText [codesOf "TICKET", ticketText t], fieldsText [codesOf "CASH", amountText cash],
        fieldsText [codesOf "TRANSFER", amountText transfer], fieldsText [codesOf "PAID AT STN", zeroed 2 station]]

/-- A copy of a VOID SLIP from a closed-list entry's values (R170). -/
def voidCopyLines (copy : Nat) (t : TicketNo) (station : Nat) (s : State) : List Text :=
  openingLines copy s
    ++ [codesOf "VOID SLIP", fieldsText [codesOf "TICKET", ticketText t],
        fieldsText [codesOf "VOIDED AT STN", zeroed 2 station]]

/-! ### TEXT and DAY REPORT (R171, R172) -/

/-- A TEXT job. -/
def textLines (t : Text) (s : State) : List Text := openingLines 0 s ++ [t]

/-- The two records of a grade with at least one line in its day totals. The `*` as a field of its own, and KG once,
before the paid kg, are the model's choices (log entry 11). -/
def gradeReport (s : State) (n : Nat) : List Text :=
  let g := s.gradeTotals n
  linesIf (decide (0 < g.lines))
    [fieldsText [decimal n, gradeText n s],
     fieldsText [codesOf "LINES", decimal g.lines, codesOf "KG", grouped g.paid, amountText g.amount,
       onlyIf (g.linesHeld || g.paidHeld || g.amountHeld) (codesOf "*")]]

/-- The window part, at WINDOW and BOTH. -/
def windowReport (s : State) : List Text :=
  let w := s.drawer.totals
  [codesOf "WINDOW",
   fieldsText [codesOf "PAYOUTS", decimal w.payouts],
   fieldsText [codesOf "CASH", grouped w.cash],
   fieldsText [codesOf "TRANSFER", grouped w.transfer],
   fieldsText [codesOf "RESIDUE", grouped w.residue],
   fieldsText [codesOf "SHORTFALL", grouped w.shortfall],
   fieldsText [codesOf "OFFLINE PAYOUTS", decimal w.offline],
   fieldsText [codesOf "AMOUNTS DUE", decimal w.dueCount, grouped w.dueSum]]

/-- The drawer part, at WINDOW and BOTH. -/
def drawerReport (s : State) : List Text :=
  [codesOf "DRAWER"]
    ++ s.drawer.denominations.map (fun p =>
         fieldsText [grouped p.value, codesOf "X", decimal p.count, onlyIf (!p.enabled) (codesOf "OFF")])
    ++ [fieldsText [codesOf "LIMIT", grouped s.drawer.limit]]

/-- The DAY REPORT. -/
def dayReportLines (s : State) : List Text :=
  openingLines 0 s
    ++ [codesOf "DAY REPORT",
        fieldsText [codesOf "DAY", zeroed 5 s.day.number, codesOf "CLOSED", clockText s.day.clock],
        fieldsText [codesOf "ISSUED", decimal s.day.totals.issued],
        fieldsText [codesOf "COMPLETED", decimal s.day.totals.completed],
        fieldsText [codesOf "VOIDED", decimal s.day.totals.voided],
        codesOf "GRADES"]
    ++ (List.range 32).flatMap (fun i => gradeReport s (i + 1))
    ++ linesIf s.hasPay (windowReport s ++ drawerReport s)
    ++ [fieldsText [codesOf "END OF DAY", zeroed 5 s.day.number]]

end Sys2Proof.Machine
end

