-- ==== Sys2Proof/Machine/PrintQueue.lean ====
section
/-! DEFINITION. The print queue and the printer port: making jobs, taking, suspending, restarting and completing them
(R163 to R166, R174 to R178, R180). -/

namespace Sys2Proof.Machine

/-! ### Making jobs -/

/-- The queue has room for one job (R163). -/
def State.printRoom (s : State) : Bool := decide (s.printer.jobs.length < Config.jobCapacity)

/-- Job number after this one, 255 followed by 1 (R163). -/
def jobAfter (n : Nat) : Nat := if 255 ≤ n then 1 else n + 1

/-- The first job number from `n` on that no job in the queue holds; at most 8 are held (R163). -/
def freeJobNumber (jobs : List Job) : Nat → Nat → Nat
  | 0, n => n
  | fuel + 1, n => if jobs.any (fun j => decide (j.number = n)) then freeJobNumber jobs fuel (jobAfter n) else n

/-- The number the next job gets (R163). -/
def Printer.nextNumber (p : Printer) : Nat := freeJobNumber p.jobs Config.jobCapacity p.nextJob

/-- A job is made: it takes its number and is placed after every job present (R163). -/
def makeJob (kind : ReceiptKind) (t : Option TicketNo) (copy : Nat) (state : JobState) (lines : List Text)
    (s : State) : State :=
  s.onPrinter (fun p =>
    { p with
      jobs := p.jobs ++ [{ number := p.nextNumber, kind := kind, ticket := t, copy := copy, restarts := 0,
                           state := state, lines := lines, sent := 0, awaitsBusy := false }]
      nextJob := jobAfter p.nextNumber })

/-- An operation's receipt: a QUEUED original, or PRINT LOST when the queue is full (R164, R165). -/
def makeReceipt (kind : ReceiptKind) (t : Option TicketNo) (lines : List Text) (s : State) : State :=
  if s.printRoom then makeJob kind t 0 .queued lines s else latchEvent .printLost (.receipt kind t) s

/-- The number the next job gets, or 0 where the queue has no room for it. -/
def State.jobOrNone (s : State) : Nat := if s.printRoom then s.printer.nextNumber else 0

/-- The job leaves the queue. -/
def removeJob (n : Nat) (s : State) : State :=
  s.onPrinter (fun p => { p with jobs := p.jobs.filter (fun j => decide (j.number ≠ n)) })

/-- The placeholder is filled and becomes QUEUED in its own place (R166). -/
def fillPlaceholder (n : Nat) (lines : List Text) (s : State) : State :=
  s.onPrinter (fun p =>
    { p with jobs := p.jobs.map (fun j => if j.number = n then { j with state := .queued, lines := lines } else j) })

/-! ### The port (R174, R175) -/

/-- The printer is fit (R175). -/
def State.fit (s : State) : Bool := !s.printer.paperOut && !s.printer.fault && !s.latched .printerFault

/-- The codes of a receipt: the REPRINT line of a restarted job, each line record and its line end, end of receipt
(R168, R174, R177). -/
def Job.codes (j : Job) : List Nat :=
  (if 0 < j.restarts then fieldsText [codesOf "REPRINT", decimal j.restarts] ++ [10] else [])
    ++ j.lines.flatMap (fun l => l ++ [10]) ++ [12]

/-- The job goes on the port: PRINTING with 0 lines sent, its codes to hand (R175). -/
def startJob (j : Job) (p : Printer) : Printer :=
  { p with
    jobs := p.jobs.map (fun x => if x.number = j.number then { j with state := .printing, sent := 0 } else x)
    port := .printing
    stream := j.codes
    leadLine := decide (0 < j.restarts) }

/-- READY with the printer fit takes the oldest QUEUED job; STOPPED with the printer fit restarts the SUSPENDED job, its
restart count grown (R175, R177). A job that PRINTER FAULT suspended does not restart while BUSY is active (R178, log
entry 61). -/
def takeJobs (s : State) : State :=
  if s.fit then
    match s.printer.port with
    | .ready =>
      match s.printer.jobs.find? (fun j => decide (j.state = .queued)) with
      | some j => s.onPrinter (startJob j)
      | none => s
    | .stopped =>
      match s.printer.jobs.find? (fun j => decide (j.state = .suspended)) with
      | some j =>
        if j.awaitsBusy && s.printer.busy then s
        else s.onPrinter (startJob { j with restarts := min 255 (j.restarts + 1), awaitsBusy := false })
      | none => s
    | _ => s
  else s

/-- The stall timer runs while the port has a code to hand and BUSY is active; its count is dropped when either ends (R178, log
entry 58). -/
def settleStall (s : State) : State :=
  s.onPrinter (fun p =>
    { p with
      stall :=
        if p.busy && !p.stream.isEmpty && (decide (p.port = .printing) || decide (p.port = .loanPending)) then
          some (p.stall.getD Config.stallMs)
        else none })

/-- The job on the port, if a job is PRINTING. -/
def Printer.printingJob (p : Printer) : Option Job := p.jobs.find? (fun j => decide (j.state = .printing))

/-- The port leaves PRINTING or LOAN PENDING: to `idle`, or to LOANED, where the lines are released (R174, R175). -/
def Printer.leave (idle : PrinterState) (p : Printer) : Printer :=
  match p.port with
  | .printing => { p with port := idle, stream := [], leadLine := false }
  | .loanPending => { p with port := .loaned, stream := [], leadLine := false, dataLines := none }
  | _ => p

/-- The printer becomes unfit or the port stalls: the printing job becomes SUSPENDED; the cut of a cancelled job is
dropped (R175, R180). With PRINTER FAULT as the cause the job restarts only while BUSY is
inactive (R178, log entry 61). -/
def suspendJob (byFault : Bool) (s : State) : State :=
  s.onPrinter (fun p =>
    if p.port = .printing ∨ p.port = .loanPending then
      match p.printingJob with
      | some j =>
        Printer.leave .stopped
          { p with jobs := p.jobs.map (fun x => if x.number = j.number then
              { x with state := .suspended, awaitsBusy := byFault } else x) }
      | none => p.leave .ready
    else p)

/-- The end-of-receipt code has been taken: the job completes and its PRINTED notice is posted, or a cancelled job's cut
ends (R176, R180). -/
def finishReceipt (s : State) : State :=
  match s.printer.printingJob with
  | some j =>
    postNotice (.printed j.number j.kind j.ticket .complete)
      ((removeJob j.number s).onPrinter (Printer.leave .ready))
  | none => s.onPrinter (Printer.leave .ready)

/-- A line end has been taken: one more line record of the printing job is sent, unless it ended the REPRINT line
(R163, R168, log entry 24). -/
def countLine (p : Printer) : Printer :=
  if p.leadLine then { p with leadLine := false }
  else
    { p with jobs := p.jobs.map (fun j => if j.state = .printing then { j with sent := j.sent + 1 } else j) }

end Sys2Proof.Machine
end

