-- ==== Sys2Proof/Machine/Pricing.lean ====
section
/-! DEFINITION. The pricing unit: lock time, version, tier, amount, day totals per grade, and the checks and changes of
the grade table (chapter Grades and Prices). -/

namespace Sys2Proof.Machine

/-! ### Pricing a line (R73 to R77) -/

/-- The lock time of a line (R73). -/
def State.lockTime (stepTime weighIn issueDay : Nat) (s : State) : Nat :=
  match s.settings.lockMode with
  | .line => stepTime
  | .weighIn => if issueDay = s.day.number then weighIn else 0

/-- The newest version whose effective time is at most the lock time; else the oldest, and PRICE EARLY (R74). -/
def chooseVersion (lock : Nat) (vs : List Version) : Option Version × Bool :=
  match (vs.filter (fun v => decide (v.effective ≤ lock))).getLast? with
  | some v => (some v, false)
  | none => (vs.head?, true)

/-- Number and tier with the largest lower bound at most the paid weight; bounds rise from tier to tier (R75). -/
def chooseTier (paid : Nat) (ts : List Tier) : Option (Nat × Tier) :=
  ((ts.zipIdx 1).filter (fun p => decide (p.1.bound ≤ paid))).getLast?.map (fun p => (p.2, p.1))

/-- The signed amount of a line: p × q / 1000, nearest, halves up, negated for a CHARGE (R76). -/
def lineAmount (kind : GradeKind) (paid price : Nat) : Int :=
  match kind with
  | .buy => (roundHalfUp (paid * price) 1000 : Nat)
  | .charge => -((roundHalfUp (paid * price) 1000 : Nat) : Int)

/-- What the pricing unit hands back (R77). -/
structure Priced where
  kind : GradeKind
  regulated : Bool
  price : Nat
  tier : Nat
  amount : Int
  priceEarly : Bool
  deriving DecidableEq, Repr

/-- Prices a line from the grade table as it stands (R55, R72, R77). A grade that is absent or has nothing to choose
does not arise; its values are then free (log entry 31). -/
def priceLine (grade paid stepTime weighIn issueDay : Nat) (s : State) : Priced :=
  let kindAndMark : GradeKind × Bool :=
    match s.grade grade with
    | some g => (g.kind, g.regulated)
    | none => (if (Config.unstatedKind grade).1 then .charge else .buy, (Config.unstatedKind grade).2)
  let chosen := chooseVersion (s.lockTime stepTime weighIn issueDay) ((s.grade grade).elim [] Grade.versions)
  let tierAndPrice : Nat × Nat :=
    match chosen.1.bind (fun v => chooseTier paid v.tiers) with
    | some (n, t) => (n, t.price)
    | none => ((Config.unstatedTier grade).2, (Config.unstatedTier grade).1)
  { kind := kindAndMark.1, regulated := kindAndMark.2, price := tierAndPrice.2, tier := tierAndPrice.1,
    amount := lineAmount kindAndMark.1 paid tierAndPrice.2, priceEarly := chosen.2 }

/-- The grade deduction the grade table holds for the grade at this moment (R54). -/
def State.gradeDeduction (grade : Nat) (s : State) : Nat :=
  match s.grade grade with
  | some g => g.deduction
  | none => Config.unstatedDeduction grade

/-- The deduction weight: net × D / 1000, nearest, halves up (R54). -/
def deductionWeight (net d : Nat) : Nat := roundHalfUp (net * d) 1000

/-! ### Day totals per grade (R80) -/

/-- A total that grows within its range, or holds at the end it would pass; a held total takes no change. -/
def growHeld (lo hi : Int) (held : Bool) (v change : Int) : Int × Bool :=
  if held then (v, true)
  else if hi < v + change then (hi, true)
  else if v + change < lo then (lo, true)
  else (v + change, false)

/-- One more line of a grade. -/
def GradeTotals.add (paid : Nat) (amount : Int) (g : GradeTotals) : GradeTotals :=
  let n := growHeld 0 65535 g.linesHeld g.lines 1
  let p := growHeld 0 999999999 g.paidHeld g.paid paid
  let a := growHeld (-999999999999) 999999999999 g.amountHeld g.amount amount
  { lines := n.1.toNat, paid := p.1.toNat, amount := a.1, linesHeld := n.2, paidHeld := p.2, amountHeld := a.2 }

/-- The grade's totals carry a held mark. -/
def GradeTotals.isHeld (g : GradeTotals) : Bool := g.linesHeld || g.paidHeld || g.amountHeld

/-- A committed line is counted in its grade's day totals. -/
def countLineOfGrade (grade paid : Nat) (amount : Int) (s : State) : State :=
  s.onPricing (fun p => { p with totals := assigned grade ((s.gradeTotals grade).add paid amount) p.totals })

/-! ### The grade table (R68 to R71, R82) -/

/-- Bounds strictly increase from tier to tier. -/
def boundsRise : List Tier → Bool
  | a :: b :: rest => decide (a.bound < b.bound) && boundsRise (b :: rest)
  | _ => true

/-- Tiers valid as R68 states: 1-4 of them, first bound 0, bounds and prices in range, bounds rising. -/
def tiersOk (ts : List Tier) : Bool :=
  decide (1 ≤ ts.length) && decide (ts.length ≤ Config.tierCapacity)
    && (match ts with
        | t :: _ => decide (t.bound = 0)
        | [] => false)
    && ts.all (fun t => decide (t.bound ≤ Config.maxWeight) && decide (t.price ≤ Config.maxPrice)) && boundsRise ts

/-- The effective time of the newest version. -/
def newestEffective (vs : List Version) : Nat := (vs.getLast?.map Version.effective).getD 0

/-- The version list after an ADD PRICE VERSION that passed, and the effective time of a version replaced or evicted
(R71). -/
def withVersion (v : Version) (vs : List Version) : List Version × Option Nat :=
  if v.effective = newestEffective vs ∧ vs ≠ [] then (vs.dropLast ++ [v], some v.effective)
  else if Config.versionCapacity ≤ vs.length then (vs.drop 1 ++ [v], vs.head?.map Version.effective)
  else (vs ++ [v], none)

/-- DAY OPEN keeps the newest version of a grade, effective from 0 (R82). -/
def Grade.collapse (g : Grade) : Grade :=
  { g with versions := (g.versions.getLast?.map (fun v => { v with effective := 0 })).toList }

/-- The grade table with an entry set or made absent. -/
def setGrade (n : Nat) (g : Option Grade) (s : State) : State :=
  s.onPricing (fun p =>
    { p with
      grades :=
        match g with
        | some g => assigned n g p.grades
        | none => erased n p.grades })

end Sys2Proof.Machine
end

