-- ==== Sys2Proof/Machine/Payout.lean ====
section
/-! DEFINITION. The payout's arithmetic: the offer, the breakdown, the drawer and the window day totals (chapter Payout). -/

namespace Sys2Proof.Machine

/-! ### The breakdown (R147, R148) -/

/-- The smallest value among the enabled denominations, whatever its count (R147). -/
def smallestEnabled : List Denomination → Option Nat
  | [] => none
  | p :: rest =>
    if p.enabled then
      match smallestEnabled rest with
      | some v => some (min p.value v)
      | none => some p.value
    else smallestEnabled rest

/-- The greedy breakdown of a remainder over the enabled denominations in the order of the table, largest first: the
pairs (value, count taken above 0) and the remainder left (R148). -/
def greedy : List Denomination → Nat → List (Nat × Nat) × Nat
  | [], rem => ([], rem)
  | p :: rest, rem =>
    if p.enabled then
      let n := min p.count (rem / p.value)
      let r := greedy rest (rem - n * p.value)
      (if 0 < n then (p.value, n) :: r.1 else r.1, r.2)
    else greedy rest rem

/-- The sum of a breakdown. -/
def breakdownSum (b : List (Nat × Nat)) : Nat := (b.map (fun p => p.1 * p.2)).sum

/-! ### The offer (R145 to R149) -/

/-- The class of a made offer (R149). -/
def offerClass (net : Int) (cash : Nat) : OfferClass :=
  if net = 0 then .nothingPayable
  else if net < 0 then .amountDue
  else if 0 < cash then .cash
  else .allTransfer

/-- What the drawer and the limits give the offer of a ticket with this net and regulated amount. -/
structure OfferInput where
  net : Int
  regulated : Int
  offline : Bool
  seller : Bool
  deriving DecidableEq, Repr

/-- The offer of a ticket, before SHORT TO TRANSFER is asked: a shortfall above 0 goes to transfer (R145 to R149). -/
def computeOffer (i : OfferInput) (s : State) : Offer :=
  let paidToday := s.drawer.totals.cash
  if i.net ≤ 0 then
    { net := i.net, regulated := i.regulated, cls := offerClass i.net 0, cash := 0, transfer := i.net, rPrime := 0,
      unregulated := 0, c0 := 0, c1 := 0, room := 0, c2 := 0, unit := 0, c3 := 0, residue := 0, shortfall := 0,
      breakdown := [], limit := s.drawer.limit, paidAtOffer := paidToday, offline := i.offline,
      seller := i.seller }
  else
    let a := i.net.toNat
    let rPrime := min i.regulated.toNat a
    let u := a - rPrime
    let c0 := u + min rPrime s.settings.regulatedCap
    let c1 := min c0 s.settings.ticketCashMax
    let room := s.drawer.limit - paidToday
    let c2 := min c1 room
    let smallest := (smallestEnabled s.drawer.denominations).getD 0
    let c3 := if smallest = 0 then 0 else c2 - c2 % smallest
    let counted := greedy s.drawer.denominations c3
    let cash := c3 - counted.2
    { net := i.net, regulated := i.regulated, cls := offerClass i.net cash, cash := cash,
      transfer := i.net - cash, rPrime := rPrime, unregulated := u, c0 := c0, c1 := c1, room := room, c2 := c2,
      unit := smallest, c3 := c3, residue := c2 - c3, shortfall := counted.2, breakdown := counted.1,
      limit := s.drawer.limit, paidAtOffer := paidToday, offline := i.offline, seller := i.seller }

/-! ### The drawer table (R150 to R152) -/

/-- The count of a value in a breakdown. -/
def countIn (b : List (Nat × Nat)) (v : Nat) : Nat := ((b.filter (fun q => decide (q.1 = v))).map Prod.snd).sum

/-- Takes a breakdown's notes and coins out of the counts (R154). -/
def payOut (b : List (Nat × Nat)) (d : Drawer) : Drawer :=
  { d with denominations := d.denominations.map (fun p => { p with count := p.count - countIn b p.value }) }

/-- A denomination in its place, largest value first. -/
def insertDenomination (p : Denomination) (l : List Denomination) : List Denomination :=
  l.takeWhile (fun x => decide (p.value < x.value)) ++ [p] ++ l.dropWhile (fun x => decide (p.value < x.value))

/-- The denomination of a value. -/
def findDenomination (v : Nat) (l : List Denomination) : Option Denomination :=
  l.find? (fun p => decide (p.value = v))

/-! ### Window day totals (R159) -/

/-- The window day totals after a confirmed payout, each holding at the end of its range. -/
def WindowTotals.add (o : Offer) (w : WindowTotals) : WindowTotals :=
  { payouts := min 65535 (w.payouts + 1)
    cash := min 999999999 (w.cash + o.cash)
    transfer := if 0 < o.net then min 999999999999 (w.transfer + o.transfer.toNat) else w.transfer
    residue := min 999999999 (w.residue + o.residue)
    shortfall := min 999999999 (w.shortfall + o.shortfall)
    offline := min 65535 (w.offline + o.offline.toNat)
    dueCount := if o.net < 0 then min 65535 (w.dueCount + 1) else w.dueCount
    dueSum := if o.net < 0 then min 999999999 (w.dueSum + o.net.natAbs) else w.dueSum }

/-- CASH WARN, CASH LIMIT, DRAWER LOW are judged in that order (R154). -/
def judgeDrawer (s : State) : State := judge .drawerLow (judge .cashLimit (judge .cashWarn s))

end Sys2Proof.Machine
end

