-- ==== Sys2Proof/Machine/Slots.lean ====
section
/-! DEFINITION. The operations of the two slots: their grants, commits and ends (chapters Weighing Steps and Payout). -/

namespace Sys2Proof.Machine

/-! ### Readings of the slots -/

/-- The slot is not IDLE (R43, R138). -/
def State.slotBusy (slot : SlotId) (s : State) : Bool :=
  match slot with
  | .weigh => s.weigh.isSome
  | .pay => s.payOp.isSome

/-- The ticket of the slot's operation; none for ZERO, and for NEW TICKET, whose record does not exist yet (R44, R139). -/
def State.slotTicket (slot : SlotId) (s : State) : Option TicketNo :=
  match slot with
  | .weigh => s.weigh.bind WeighOp.target
  | .pay => s.payOp.map PayOp.target

/-- The pay slot is OFFERED (R138). -/
def State.offered (s : State) : Bool :=
  match s.payOp with
  | some o => o.offer.isSome
  | none => false

/-- The receipt of an operation has no room while RECEIPT REQUIRED is on (R165). -/
def State.receiptBlocked (s : State) : Bool := s.settings.receiptRequired && !s.printRoom

/-! ### Ending an operation -/

/-- The claim timer leaves its phase for COMMITTED or ENDED; its window count stops (R115). -/
def stopTimer (slot : SlotId) (p : Phase) (s : State) : State :=
  s.onTimer slot (fun t => { t with phase := p, count := none })

/-- The slot returns to IDLE: its record is discarded, a capture is abandoned, a closing place is given back, a
placeholder is removed, and the timer of a claim enters the phase given (R39, R45, R51, R115, R156, R166). -/
def closeSlot (slot : SlotId) (p : Phase) (s : State) : State :=
  match slot with
  | .weigh =>
    match s.weigh with
    | none => s
    | some o =>
      let s := (s.onWeigh (fun _ => none)).onScale (fun u => { u with context := none })
      if o.target.isSome then stopTimer .weigh p s else s
  | .pay =>
    match s.payOp with
    | none => s
    | some o =>
      let s := stopTimer .pay p (s.onPay (fun _ => none))
      match o.placeholder with
      | some n => removeJob n s
      | none => s

/-- The slot's operation ends before its commit with a DONE notice (R45, R140). -/
def endOp (slot : SlotId) (outcome : Result) (loss : Option LossReason) (holder : Nat) (s : State) : State :=
  postNotice (.done slot outcome (s.slotTicket slot) loss holder 0) (closeSlot slot .ended s)

/-- A hold ends before the commit: RELEASE on the closing place when there is one, custody FREE, register holder 0
(R52, R120, R156). -/
def releaseHold (slot : SlotId) (t : TicketNo) (s : State) : State :=
  setHolder t 0 (setCustody t .free (sendOnClosing slot (.release t) s))

/-- The hold of the slot's ticket is released and its operation ends (R52, R144). -/
def endHold (slot : SlotId) (t : TicketNo) (outcome : Result) (loss : Option LossReason) (holder : Nat) (s : State) : State :=
  endOp slot outcome loss holder (releaseHold slot t s)

/-- The slot's committed operation ends OK (R45, R115). -/
def endCommitted (slot : SlotId) (t : TicketNo) (s : State) : State :=
  postNotice (.done slot .ok (some t) none 0 0) (closeSlot slot .committed s)

/-- A capture or zeroing has failed with this outcome; a weigh step's hold is released (R34, R38, R47, R52). -/
def failCapture (outcome : Result) (s : State) : State :=
  match s.slotTicket .weigh with
  | some t => endHold .weigh t outcome none 0 s
  | none => endOp .weigh outcome none 0 s

/-! ### Counting (R215) -/

/-- A station day count grows by one, holding at 65,535. -/
def countDay (f : DayTotals → DayTotals) (s : State) : State := s.onDay (fun d => { d with totals := f d.totals })

def DayTotals.oneIssued (t : DayTotals) : DayTotals := { t with issued := min 65535 (t.issued + 1) }
def DayTotals.oneCompleted (t : DayTotals) : DayTotals := { t with completed := min 65535 (t.completed + 1) }
def DayTotals.oneVoided (t : DayTotals) : DayTotals := { t with voided := min 65535 (t.voided + 1) }

/-! ### The creation of a ticket (R47 to R49) -/

/-- The record NEW TICKET creates (R48). -/
def newRecord (s : State) (w : Nat) (tag seller : Option Text) : Record :=
  { number := { home := s.myId, serial := s.allocated }, issueDay := s.day.number, life := .opened, step := 0,
    grossIn := w, lastWeight := w, weighInTime := s.day.clock, lastStepTime := s.day.clock, lines := [], tag := tag,
    seller := seller, offline := decide (s.link.state = .down), priceEarly := false, lastWriter := s.myId,
    custody := .free, stale := false, pendingBroadcast := false }

/-- The record enters the table and the register, and the next serial follows its own (R2, R13, R16, R48). -/
def storeNew (r : Record) (s : State) : State :=
  s.onTickets (fun k =>
    { k with
      table := k.table ++ [r]
      register := insertEntry { serial := r.number.serial, life := .opened, step := 0, holder := 0,
                                issueDay := r.issueDay } k.register
      nextSerial := nextSerialAfter r.number.serial })

/-- The record's burst is queued, or its record is marked pending broadcast (R10, R49). -/
def broadcast (r : Record) (s : State) : State :=
  match queueBurst r s with
  | some s' => s'
  | none => modifyRecord r.number (fun r => { r with pendingBroadcast := true }) s

/-- What follows a NEW TICKET's successful capture of weight `w` (R47 to R49). -/
def commitNew (tag seller : Option Text) (w : Nat) (s : State) : State :=
  if w < 20 * s.scale.inForce.division then endOp .weigh .noLoad none 0 s
  else if s.receiptBlocked then endOp .weigh .printQueueFull none 0 s
  else
    let r := newRecord s w tag seller
    let s := closeSlot .weigh .ended s
    let s := storeNew r s
    let s := s.onScale (fun u => { u with captured := some (.ticket r.number) })
    let s := countDay DayTotals.oneIssued s
    let s := broadcast r s
    let s := makeReceipt .weighSlip (some r.number) (weighSlipLines 0 r s) s
    postNotice (.done .weigh .ok (some r.number) none 0 0) s

/-! ### The commit of a weigh step (R53 to R58) -/

/-- The line a weigh step builds from the record and the captured weight (R53 to R55). -/
def buildLine (r : Record) (grade lineDeduction w : Nat) (offline : Bool) (s : State) : Line :=
  let net := r.lastWeight - w
  let gd := s.gradeDeduction grade
  let paid := net - deductionWeight net (lineDeduction + gd)
  let p := priceLine grade paid s.day.clock r.weighInTime r.issueDay s
  { index := r.step + 1, grade := grade, kind := p.kind, regulated := p.regulated, net := net,
    deduction := lineDeduction + gd, paid := paid, price := p.price, amount := p.amount, priceEarly := p.priceEarly,
    offline := offline,
    localPart := some { lineDeduction := lineDeduction, gradeDeduction := gd, tier := p.tier } }

/-- The record with a committed line (R57, R58). -/
def Record.withLine (r : Record) (l : Line) (w time writer : Nat) (final : Bool) : Record :=
  { r with
    lines := r.lines ++ [l]
    step := r.step + 1
    lastWeight := w
    lastStepTime := time
    life := if final then .complete else r.life
    offline := r.offline || l.offline
    priceEarly := r.priceEarly || l.priceEarly
    lastWriter := writer
    custody := .free }

/-- The register entry at the commit of a weigh step: new step, life COMPLETE when final, holder 0 (R57, R58). -/
def RegEntry.onCommit (step : Nat) (final : Bool) (e : RegEntry) : RegEntry :=
  { e with step := step, life := if final then .complete else e.life, holder := 0 }

/-- The burst goes out on the closing place, or a RELEASE takes the place in its stead and the record is pending
broadcast (R58). -/
def burstOnClosing (r : Record) (s : State) : State :=
  match queueBurst r (setClosing .weigh false s) with
  | some s' => s'
  | none =>
    modifyRecord r.number (fun r => { r with pendingBroadcast := true }) (sendOnClosing .weigh (.release r.number) s)

/-- PAYABLE is posted when a ticket becomes COMPLETE here (R14, R57). -/
def postPayable (t : TicketNo) (becameComplete : Bool) (s : State) : State :=
  if becameComplete && s.hasPay then postNotice (.payable t) s else s

/-- The commit of a weigh step and what follows it in the same event (R57, R58). -/
def commitLine (r : Record) (l : Line) (w : Nat) (final downGrant : Bool) (s : State) : State :=
  let r' := r.withLine l w s.day.clock s.myId final
  let s := modifyRecord r.number (fun _ => { r' with pendingBroadcast := r.pendingBroadcast || downGrant }) s
  let s := modifyEntry r.number (RegEntry.onCommit r'.step final) s
  let s := countLineOfGrade l.grade l.paid l.amount s
  let s := if final then countDay DayTotals.oneCompleted s else s
  let s := postPayable r.number final s
  let s := applyFilter r.number s
  let s := burstOnClosing r' s
  let s :=
    if final then makeReceipt .ticket (some r.number) (ticketLines 0 r' s) s
    else makeReceipt .weighSlip (some r.number) (weighSlipLines 0 r' s) s
  endCommitted .weigh r.number s

/-- Why a hold may not be committed: the record's step is no longer the claimed step, or it is stale (R56, R62, R144). -/
def commitLoss (r : Record) (claimedStep : Nat) : Option LossReason :=
  if r.step ≠ claimedStep then some .changed else if r.stale then some .stale else none

/-- What follows a weigh step's successful capture of weight `w` (R53 to R58). A record not HELD by the slot is left as it
is (R56, log entry 20). -/
def commitStep (o : WeighOp) (t : TicketNo) (grade lineDeduction : Nat) (final : Bool) (w : Nat) (s : State) : State :=
  match s.findRecord t with
  | none => endOp .weigh .lost (some .closed) 0 s
  | some r =>
    if r.custody ≠ .held .weigh .weigh then endOp .weigh .lost (some .changed) 0 s
    else if (r.lastWeight : Int) - w < s.scale.inForce.division then endHold .weigh t .noNet none 0 s
    else
      match commitLoss r o.claimedStep with
      | some loss => endHold .weigh t .lost (some loss) 0 s
      | none =>
        if s.receiptBlocked then endHold .weigh t .printQueueFull none 0 s
        else
          let down := decide (o.grant = .byLink .down)
          commitLine r (buildLine r grade lineDeduction w down s) w final down s

/-- The scale unit hands the weigh slot a captured weight (R36, R47, R52). -/
def deliverWeight (w : Nat) (s : State) : State :=
  match s.weigh with
  | none => s
  | some o =>
    match o.kind, o.target with
    | .newTicket tag seller, _ => commitNew tag seller w s
    | .weighStep g d final, some t => commitStep o t g d final w s
    | _, _ => s

/-! ### The commit of a void (R62) -/

/-- A grant to a void: it commits in the same event, or its hold is released. -/
def commitVoid (slot : SlotId) (t : TicketNo) (claimedStep : Nat) (grant : Grant) (s : State) : State :=
  match s.findRecord t with
  | none => endOp slot .lost (some .closed) 0 s
  | some r =>
    match commitLoss r claimedStep with
    | some loss => endHold slot t .lost (some loss) 0 s
    | none =>
      if s.receiptBlocked then endHold slot t .printQueueFull none 0 s
      else
        let f := Frame.closed t .voided 0 0 r.seller.isSome
        let s := if grant = .byFrame then sendOnClosing slot f s else sendAsking f s
        let s := makeReceipt .voidSlip (some t) (voidSlipLines r (decide (grant = .byLink .down)) s) s
        let s := closeTicket t (.settled .voided 0 0 s.myId r.seller.isSome) s
        endCommitted slot t (countDay DayTotals.oneVoided s)

/-! ### The offer (R144, R149, R154) -/

/-- The pay slot holds this offer, its confirm timer started (R144). -/
def PayOp.withOffer (o : PayOp) (f : Offer) (confirmMs : Nat) : PayOp :=
  { o with offer := some f, confirm := some confirmMs }

/-- A grant to a PAY: the offer is made, or the PAY ends (R144). -/
def grantPay (o : PayOp) (s : State) : State :=
  match s.findRecord o.target with
  | none => endOp .pay .lost (some .closed) 0 s
  | some r =>
    match commitLoss r o.claimedStep with
    | some loss => endHold .pay o.target .lost (some loss) 0 s
    | none =>
      let f := computeOffer { net := r.netAmount, regulated := r.regulatedAmount,
                              offline := decide (o.grant = .byLink .down),
                              seller := r.seller.isSome || o.given.isSome } s
      if 0 < f.shortfall ∧ s.settings.shortToTransfer = false then endHold .pay o.target .drawerShort none 0 s
      else
        let s := s.onPay (fun _ => some (o.withOffer f (1000 * s.settings.confirmTimeout)))
        let s := if 0 < f.cash then s.onDrawer (fun d => { d with pulses := d.pulses + 1 }) else s
        postNotice (.done .pay .ok (some o.target) none 0 0) s

/-- The voucher is settled: its placeholder is filled, or a job is made (R154). -/
def settleVoucher (o : PayOp) (r : Record) (f : Offer) (s : State) : State :=
  let seller := match r.seller with
    | some t => some t
    | none => o.given
  match o.placeholder with
  | some n => fillPlaceholder n (voucherLines r f seller s) s
  | none => makeReceipt .voucher (some r.number) (voucherLines r f seller s) s

/-- The commit of a payout (R154, R155, R159). -/
def commitPay (o : PayOp) (r : Record) (f : Offer) (s : State) : State :=
  let t := o.target
  let s := settleVoucher o r f s
  let s := s.onDrawer (fun d => { payOut f.breakdown d with totals := d.totals.add f })
  let c := Frame.closed t .paid f.cash f.transfer f.seller
  let s := if o.grant = .byFrame then sendOnClosing .pay c s else sendAsking c s
  let s := closeTicket t (.settled .paid f.cash f.transfer s.myId f.seller) s
  judgeDrawer (stopTimer .pay .committed (s.onPay (fun _ => none)))

/-- An offer on this ticket ends with outcome LOST: the hold is released (R158). -/
def endOffer (t : TicketNo) (loss : LossReason) (s : State) : State :=
  match s.payOp with
  | some o => if o.offer.isSome && decide (o.target = t) then endHold .pay t .lost (some loss) 0 s else s
  | none => s

end Sys2Proof.Machine
end

