-- ==== Sys2Proof/Machine/Claims.lean ====
section
/-! DEFINITION. The claim engine: claims and grants, the stale mark with its ASK, closures, and the judging of observed
CLAIM, OBJECT, RELEASE and restart (chapter Custody Claims; R9, R17, R19, R100). -/

namespace Sys2Proof.Machine

/-! ### Making a claim (R114 to R120) -/

/-- The roster entry of a peer (R110). -/
def State.peer (x : Nat) (s : State) : Option Peer := s.link.roster.find? (fun p => decide (p.id = x))

/-- The peer is present in the roster (R111). -/
def State.present (x : Nat) (s : State) : Bool :=
  match s.peer x with
  | some p => p.present
  | none => false

/-- What the claim engine does with a claim request (R116). -/
inductive ClaimRoute
  | byFrame
  | locally
  | refused (r : Result)
  deriving DecidableEq, Repr

/-- The table of R116, with HOME CHECK (R117) and the empty place a CLAIM needs (R91). -/
def State.claimRoute (t : TicketNo) (s : State) : ClaimRoute :=
  let own := decide (t.home = s.myId)
  match s.link.state with
  | .up =>
    if own || !s.settings.homeCheck || s.present t.home then
      if 0 < s.freePlaces then .byFrame else .refused .linkBusy
    else .refused .homeAbsent
  | .alone => if own || !s.settings.homeCheck then .locally else .refused .homeAbsent
  | .down => if own then .locally else .refused .linkDown
  | .joining => .refused .linkBusy
  | .silent => .refused .linkDown

/-- The slot's operation notes its grant; a weigh step goes to its capture (R44, R52, R139). -/
def noteGrant (slot : SlotId) (g : Grant) (s : State) : State :=
  match slot with
  | .weigh =>
    s.onWeigh (Option.map (fun o =>
      { o with grant := g, phase := match o.kind with | .weighStep .. => .capturing | _ => o.phase }))
  | .pay => s.onPay (Option.map (fun o => { o with grant := g }))

/-- A capture or zeroing context opens, its timer at the capture timeout in force (R32, R34, R35). -/
def openCapture (kind : CaptureKind) (s : State) : State :=
  s.onScale (fun u =>
    { u with
      context := some
        { kind := kind, window := [], timer := 1000 * u.inForce.captureTimeout, stableSeen := false } })

/-- What the slot does once it holds custody: capture, void commit or offer (R52, R62, R144). -/
def proceed (slot : SlotId) (sub : Subject) (s : State) : State :=
  match slot with
  | .weigh =>
    match s.weigh with
    | none => s
    | some o =>
      match o.kind with
      | .weighStep .. => openCapture (.capture (.ticket sub.ticket)) s
      | .void => commitVoid .weigh sub.ticket o.claimedStep o.grant s
      | _ => s
  | .pay =>
    match s.payOp with
    | none => s
    | some o => if o.isVoid then commitVoid .pay sub.ticket o.claimedStep o.grant s else grantPay o s

/-- Custody is granted: timer GRANTED, custody HELD, own register holder, and the slot proceeds (R119, R120). -/
def granted (slot : SlotId) (sub : Subject) (g : Grant) (s : State) : State :=
  let s := s.onTimer slot (fun _ => { phase := .granted, subject := some sub, count := none })
  let s := setHolder sub.ticket s.myId (setCustody sub.ticket (.held slot sub.purpose) s)
  proceed slot sub (noteGrant slot g s)

/-- The CLAIM frame of a slot waits in the queue (R118). -/
def claimItem (slot : SlotId) (sub : Subject) : QueueItem :=
  { QueueItem.single (.claim sub.ticket sub.purpose sub.step) with slot := some slot }

/-- A claim request of a slot whose operation `open_` puts in place: the answer and the state. A refusal changes nothing
(R50, R115, R116, R143). -/
def requestClaim (slot : SlotId) (sub : Subject) (open_ : State → State) (s : State) : Result × State :=
  match s.claimRoute sub.ticket with
  | .refused r => (r, s)
  | .byFrame =>
    let s := setCustody sub.ticket (.claiming slot sub.purpose) (open_ s)
    let s := s.onTimer slot (fun _ => { phase := .queued, subject := some sub, count := none })
    (.accepted, enqueue (claimItem slot sub) s)
  | .locally => (.accepted, granted slot sub (.byLink s.link.state) (open_ s))

/-! ### The claim's frame (R118, R119, R124) -/

/-- The slot's CLAIM leaves the queue with its place (R93, R124). -/
def withdrawClaim (slot : SlotId) (s : State) : State :=
  s.onLink (fun l => { l with queue := l.queue.filter (fun i => decide (i.slot ≠ some slot)) })

/-- The slot's CLAIM is delivered: its place becomes the closing place and the window count starts (R118). -/
def claimDelivered (slot : SlotId) (s : State) : State :=
  (setClosing slot true s).onTimer slot (fun t => { t with phase := .window, count := some s.settings.claimWindow })

/-- The slot's CLAIM was dropped or removed: custody FREE, the operation ends TIMEOUT (R118). -/
def claimDropped (slot : SlotId) (s : State) : State :=
  match s.slotTicket slot with
  | some t => endOp slot .timeout none 0 (setCustody t .free s)
  | none => s

/-- The window count of the slot's timer has run out: custody is granted by frame (R119). -/
def windowExpired (slot : SlotId) (s : State) : State :=
  match (s.claimTimer slot).phase, (s.claimTimer slot).subject with
  | .window, some sub => granted slot sub .byFrame s
  | _, _ => s

/-- The operation in CLAIMING is cancelled: a CLAIM that has not been on the wire is withdrawn; in place of one that has
been, or that was delivered, a RELEASE goes out. The register holder becomes 0 with the RELEASE (R17, R65), and in the
pay slot in every case (R156). -/
def cancelClaim (slot : SlotId) (t : TicketNo) (s : State) : State :=
  let fresh := s.link.queue.any (fun i => decide (i.slot = some slot) && !i.started && !i.onWire)
  let sent := s.link.queue.any (fun i => decide (i.slot = some slot) && (i.started || i.onWire))
  let s := withdrawClaim slot s
  let s :=
    if fresh then s
    else if sent then enqueue (.single (.release t)) s
    else sendOnClosing slot (.release t) s
  let s := setCustody t .free s
  endOp slot .cancelled none 0 (if fresh && decide (slot = .weigh) then s else setHolder t 0 s)

/-! ### The stale mark (R9, R100) -/

/-- A record's stale mark is set; going from clear to set it queues the ASK, and ends an offer on the ticket (R9, R100,
R158). That it ends the offer for the mark of a CLAIM too, where R122 keeps the hold, is the model's choice (log entry 71). -/
def markStale (t : TicketNo) (s : State) : State :=
  match s.findRecord t with
  | none => s
  | some r =>
    if r.stale then s
    else endOffer t .stale (sendAsk t r.step (modifyRecord t (fun r => { r with stale := true }) s))

/-- A step above the stored step has been seen on the link (R9). -/
def markIfBehind (t : TicketNo) (step : Nat) (s : State) : State :=
  match s.findRecord t with
  | none => s
  | some r => if r.step < step then markStale t s else s

/-- A refusal STALE offers the ASK again unless one is queued (R100). -/
def askAgain (t : TicketNo) (s : State) : State :=
  match s.findRecord t with
  | none => s
  | some r => if s.askQueued t then s else sendAsk t r.step s

/-! ### Closures (R19, R133) -/

/-- The slot's timer holds the ticket as its subject in one of these phases. -/
def State.subjectIn (slot : SlotId) (t : TicketNo) (phases : List Phase) (s : State) : Bool :=
  (match (s.claimTimer slot).subject with
   | some sub => decide (sub.ticket = t)
   | none => false)
    && phases.contains (s.claimTimer slot).phase

/-- The slot's claim or hold of a ticket that has closed ends LOST, CLOSED; no RELEASE is sent (R133). -/
def endByClosure (slot : SlotId) (t : TicketNo) (s : State) : State :=
  if s.subjectIn slot t [.queued, .window, .granted] && s.slotBusy slot then
    endOp slot .lost (some .closed) 0 (withdrawClaim slot s)
  else s

/-- The claims and holds of both slots on a ticket that has closed end. -/
def endAllByClosure (t : TicketNo) (s : State) : State := endByClosure .pay t (endByClosure .weigh t s)

/-- A closure observed from a peer: the closed list, CLOSED ELSEWHERE when a record left the table, and the ends of own
operations, in that order (R19, R130, R133). -/
def observeClosure (t : TicketNo) (c : Closure) (s : State) : State :=
  let s' := closeTicket t c s
  endAllByClosure t (if (s.findRecord t).isSome then postNotice (.closedElsewhere t c) s' else s')

/-! ### Judging an observed CLAIM (R121 to R125) -/

/-- The step an OBJECT of this station carries (R125). -/
def State.knownStep (t : TicketNo) (s : State) : Nat :=
  match s.findRecord t, s.regEntry t with
  | some r, _ => r.step
  | none, some e => e.step
  | none, none => 0

/-- An OBJECT against x's claim, queued in ALONE and UP (R121, R125). -/
def object (t : TicketNo) (x holder : Nat) (reason : ObjectReason) (s : State) : State :=
  if s.link.state = .up ∨ s.link.state = .alone then sendAsking (.object t x holder reason (s.knownStep t)) s else s

/-- The claim takes custody of this station's record, and its register entry follows (R17, R122). -/
def takenBy (x : Nat) (t : TicketNo) (p : Purpose) (s : State) : State :=
  setHolder t x (setCustody t (.taken x p) s)

/-- The judgement against a full record (R122, R124). -/
def judgeAgainstRecord (x : Nat) (t : TicketNo) (p : Purpose) (step : Nat) (r : Record) (s : State) : State :=
  match r.custody with
  | .free => if step < r.step then object t x 0 .stale s else takenBy x t p s
  | .taken y _ =>
    if y ≠ x then object t x y .held s
    else if step < r.step then object t x 0 .stale s
    else takenBy x t p s
  | .claiming slot _ =>
    if (s.claimTimer slot).phase = .queued then
      if step < r.step then object t x 0 .stale s
      else endOp slot .lost (some .withdrawn) x (takenBy x t p (withdrawClaim slot s))
    else object t x s.myId .held s
  | .held .. => object t x s.myId .held s

/-- The judgement against a register entry (R123). -/
def judgeAgainstEntry (x : Nat) (t : TicketNo) (step : Nat) (e : RegEntry) (s : State) : State :=
  if e.holder ≠ 0 ∧ e.holder ≠ x then object t x e.holder .held s
  else if step < e.step then object t x 0 .stale s
  else setHolder t x s

/-- A peer's CLAIM is judged: the first of the station's collections that knows the ticket decides; then a record behind
the CLAIM's step is marked stale. In JOINING and SILENT only the mark is made (R121). -/
def judgeClaim (x : Nat) (t : TicketNo) (p : Purpose) (step : Nat) (s : State) : State :=
  markIfBehind t step
    (if s.link.state = .joining ∨ s.link.state = .silent then s
     else if s.isClosed t then object t x 0 .closed s
     else
       match s.findRecord t, s.regEntry t with
       | some r, _ => judgeAgainstRecord x t p step r s
       | none, some e => judgeAgainstEntry x t step e s
       | none, none => s)

/-! ### Objections at the claimant (R126 to R129) -/

/-- The slot and phase whose timer an OBJECT naming this station as claimant is matched against (R126). Only the ticket and
the phase count, so a hold granted locally is matched too (log entry 54). -/
def State.objected (t : TicketNo) (s : State) : Option (SlotId × Phase) :=
  if s.subjectIn .weigh t [.window, .granted] then some (.weigh, (s.claimTimer .weigh).phase)
  else if s.subjectIn .pay t [.window, .granted] then some (.pay, (s.claimTimer .pay).phase)
  else if s.subjectIn .weigh t [.committed] then some (.weigh, .committed)
  else if s.subjectIn .pay t [.committed] then some (.pay, .committed)
  else none

/-- The loss reason of an obeyed OBJECT (R126, R127). -/
def ObjectReason.loss : ObjectReason → LossReason
  | .held => .held
  | .stale => .stale
  | .closed => .closed

/-- The holder a DONE notice names: the one of an OBJECT with reason HELD (R192). -/
def lossHolder (reason : ObjectReason) (h : Nat) : Nat := if reason = .held then h else 0

/-- The holder of an OBJECT is a peer of this station (log entry 16). -/
def State.isPeerId (h : Nat) (s : State) : Bool := decide (h ≠ 0) && decide (h ≠ s.myId)

/-- Custody at the claimant after an OBJECT HELD in the window (R126). -/
def yieldTo (t : TicketNo) (h : Nat) (p : Purpose) (s : State) : State :=
  if s.isPeerId h then takenBy h t p s else setHolder t 0 (setCustody t .free s)

/-- An OBJECT is obeyed in the claim window (R126). -/
def obeyInWindow (slot : SlotId) (t : TicketNo) (p : Purpose) (h : Nat) (reason : ObjectReason) (s : State) : State :=
  let stop := endOp slot .lost (some reason.loss) (lossHolder reason h)
  match reason with
  | .held => stop (yieldTo t h p s)
  | .stale => markStale t (stop (setCustody t .free s))
  | .closed => endAllByClosure t (stop (closeTicket t .elsewhere s))

/-- An OBJECT is obeyed by a hold before its commit, whatever its grant; a local hold sends no RELEASE (R127, log entry
54). -/
def obeyInHold (slot : SlotId) (t : TicketNo) (h : Nat) (reason : ObjectReason) (s : State) : State :=
  let loss := some reason.loss
  match reason with
  | .held => endHold slot t .lost loss (lossHolder reason h) s
  | .stale => markStale t (endHold slot t .lost loss 0 s)
  | .closed => endAllByClosure t (endOp slot .lost loss 0 (closeTicket t .elsewhere s))

/-- A closure without values, met by an OBJECT CLOSED: into the closed list when a full record is held, else to the
register entry alone (R17, R19, R128, R130). -/
def closeUnknown (t : TicketNo) (s : State) : State :=
  if (s.findRecord t).isSome then closeTicket t .elsewhere s else modifyEntry t (RegEntry.close .elsewhere) s

/-- An OBJECT meets a committed operation: CONFLICT (R128). -/
def meetCommitted (t : TicketNo) (o : Nat) (reason : ObjectReason) (s : State) : State :=
  let s := latchEvent .conflict (.conflict t o reason) s
  match reason with
  | .held => s
  | .stale => markStale t s
  | .closed => endAllByClosure t (closeUnknown t s)

/-! ### Objections and releases seen by others (R130 to R132, R134) -/

/-- An OBJECT judged as any observer judges it, with claimant c and holder h (R130). CLOSED ends this station's own claim on
the ticket, also where the OBJECT names this station while that claim is QUEUED (log entry 52). -/
def observeObject (t : TicketNo) (c h : Nat) (reason : ObjectReason) (s : State) : State :=
  match reason with
  | .closed =>
    if (s.findRecord t).isSome then observeClosure t .elsewhere s
    else modifyEntry t (RegEntry.close .elsewhere) s
  | .stale => moveHolder t c 0 (freeTakenBy c t s)
  | .held =>
    let s' :=
      match s.findRecord t with
      | some r =>
        match r.custody with
        | .taken y p => if y = c then (if s.isPeerId h then setCustody t (.taken h p) s else setCustody t .free s) else s
        | _ => s
      | none => s
    moveHolder t c (if s.isPeerId h then h else 0) s'

/-- This station's own record, TAKEN by any station, becomes FREE (R131, R136). -/
def freeTaken (t : TicketNo) (s : State) : State :=
  match s.findRecord t with
  | some r =>
    match r.custody with
    | .taken .. => setCustody t .free s
    | _ => s
  | none => s

/-- An OBJECT HELD names this station as holder of a ticket it does not hold: it frees its own marks and queues at most
one RELEASE (R131). -/
def disownHold (t : TicketNo) (s : State) : State :=
  let s' := setHolder t 0 (freeTaken t s)
  if (s.link.state = .up ∨ s.link.state = .alone) ∧ s.releaseQueued t = false then sendAsking (.release t) s' else s'

/-- Neither slot's timer holds the ticket as its subject in WINDOW or GRANTED (R131). -/
def State.holdsNone (t : TicketNo) (s : State) : Bool :=
  !(s.subjectIn .weigh t [.window, .granted]) && !(s.subjectIn .pay t [.window, .granted])

/-- The purpose of a slot's subject (R115). -/
def State.subjectPurpose (slot : SlotId) (s : State) : Purpose :=
  match (s.claimTimer slot).subject with
  | some sub => sub.purpose
  | none => .void

/-- A peer's OBJECT from objector o is judged (R126 to R131); a record behind the OBJECT's step is marked stale (R9). -/
def judgeObject (o : Nat) (t : TicketNo) (c h : Nat) (reason : ObjectReason) (step : Nat) (s : State) : State :=
  let judged :=
    if c = s.myId then
      match s.objected t with
      | some (slot, .window) => obeyInWindow slot t (s.subjectPurpose slot) h reason s
      | some (slot, .granted) => obeyInHold slot t h reason s
      | some (_, .committed) => meetCommitted t o reason s
      | _ => observeObject t c h reason s
    else observeObject t c h reason s
  markIfBehind t step
    (if reason = .held ∧ h = s.myId ∧ s.holdsNone t = true then disownHold t judged else judged)

/-- A peer's RELEASE frees its hold (R132). -/
def judgeRelease (x : Nat) (t : TicketNo) (s : State) : State := moveHolder t x 0 (freeTakenBy x t s)

/-- Every hold of x at this station is freed: records TAKEN by x, entries with holder x (R134, R136). -/
def freeHolds (x : Nat) (s : State) : State :=
  s.onTickets (fun k =>
    { k with
      table := k.table.map (fun r =>
        match r.custody with
        | .taken h _ => if h = x then { r with custody := .free } else r
        | _ => r)
      register := k.register.map (fun e => if e.holder = x then { e with holder := 0 } else e) })

end Sys2Proof.Machine
end

