-- ==== Sys2Proof/Machine/LinkStates.lean ====
section
/-! DEFINITION. The link states and their transitions (R102 to R108, R113). -/

namespace Sys2Proof.Machine

/-- A peer is present in the roster (R111). -/
def State.anyPresent (s : State) : Bool := s.link.roster.any Peer.present

/-- The link enters UP or ALONE: the undelivered count is 0, the count of 3 s runs in UP while no peer is present, and
pending records are fed (R101, R102, R104, R106). A probe that still waits for the bus is discarded (log entry 69). -/
def enterSending (st : LinkState) (s : State) : State :=
  feedPending (s.onLink (fun l =>
    { l with
      state := st
      undelivered := 0
      probe := none
      upAlone := if st = .up ∧ s.anyPresent = false then some Config.upAloneMs else none }))

/-- A held frame waits: its attempts and timeout stop, and it starts afresh (R106, R108). -/
def QueueItem.held (i : QueueItem) : QueueItem := { i with attempts := 0, timeout := none, timedOut := false }

/-- What the removal of a queued frame means: a CLAIM ends its operation TIMEOUT, a burst marks its record pending, any
other frame is lost (R95, R106, R118). -/
def removed (i : QueueItem) (s : State) : State :=
  match i.slot, i.burst with
  | some slot, _ => claimDropped slot s
  | none, some t => markPending t s
  | none, none => s

/-- The queue is sorted on entry to DOWN or SILENT: RELEASE and CLOSED stay held, every other frame is removed (R106,
R108). The frames are removed in the order of the queue, and the notices of two CLAIMs stand so: the model's choice, log
entry 37. -/
def sortQueue (s : State) : State :=
  let gone := s.link.queue.filter (fun i => !i.isHeld)
  let s := s.onLink (fun l => { l with queue := (l.queue.filter QueueItem.isHeld).map QueueItem.held })
  gone.foldl (fun s i => removed i s) s

/-- The link enters DOWN: LINK DOWN is latched, then the queue is sorted (R102, R105, R106; the notices' order: log entry
37). -/
def enterDown (s : State) : State :=
  sortQueue (judge .linkDown (s.onLink (fun l => { l with state := .down, undelivered := 0, upAlone := none, probe := none })))

/-- An ID conflict: the frame on the wire stops, the link enters SILENT with its timers stopped, ID CONFLICT is latched
and the queue is sorted (R108). -/
def enterSilent (how : IdConflictHow) (s : State) : State :=
  let s := s.onLink (fun l =>
    { l with
      state := .silent
      joinTimer := none
      announceTimer := none
      upAlone := none
      wire := none
      probe := none
      queue := l.queue.map (fun i => { i with onWire := false }) })
  sortQueue (latchCondition .idConflict (.idConflict how) s)

/-- A frame or burst that the soft reset and SET IDENTITY keep (R113). -/
def QueueItem.isKept (i : QueueItem) : Bool :=
  match i.burst with
  | some _ => !i.started && !i.onWire
  | none => i.kind? == some .closed

/-- The link passes to JOINING by the soft reset or SET IDENTITY (R113). -/
def rejoin (s : State) : State :=
  let failed := s.link.queue.filter (fun i => !i.isKept && i.burst.isSome)
  let s := s.onLink (fun l =>
    { l with
      state := .joining
      joinTimer := if s.waitId then none else some Config.joinMs
      announceTimer := none
      upAlone := none
      queue := (l.queue.filter QueueItem.isKept).map (fun i => { i.held with onWire := false })
      wire := none
      probe := none
      undelivered := 0
      restartOwed := true
      contexts := [] })
  failed.foldl (fun s i => removed i s) s

end Sys2Proof.Machine
end

