-- ==== Sys2Proof/Machine/Reception.lean ====
section
/-! DEFINITION. Receiving frames of peers: the roster, reassembly, burst acceptance, ASK and ANNOUNCE (R88 to R90, R96 to
R100, R108, R110, R111). -/

namespace Sys2Proof.Machine

/-! ### The roster (R110, R111) -/

/-- A PEER notice with the values the entry now holds (R111, R192). -/
def postPeer (x : Nat) (c : PeerChange) (s : State) : State :=
  match s.peer x with
  | some p => postNotice (.peer x c p.role p.dayNumber p.dayOpen) s
  | none => s

/-- An entry created by the first good frame of its ID (R110). -/
def Peer.first (x : Nat) : Peer :=
  { id := x, role := none, dayNumber := none, dayOpen := none, tableLoad := none, present := true, sinceHeard := 0 }

/-- Changes the entry of a peer. -/
def modifyPeer (x : Nat) (f : Peer → Peer) (s : State) : State :=
  s.onLink (fun l => { l with roster := l.roster.map (fun p => if p.id = x then f p else p) })

/-- A new entry in ID order (R112). -/
def insertPeer (p : Peer) (l : List Peer) : List Peer :=
  l.takeWhile (fun q => decide (q.id < p.id)) ++ [p] ++ l.dropWhile (fun q => decide (q.id < p.id))

/-- The roster hears a good frame of a peer: present set, since heard 0 (R110). -/
def hearPeer (x : Nat) (s : State) : State :=
  match s.peer x with
  | some _ => modifyPeer x (fun p => { p with present := true, sinceHeard := 0 }) s
  | none => s.onLink (fun l => { l with roster := insertPeer (Peer.first x) l.roster })

/-- A frame with a good CRC from a peer refreshes its entry; a peer that becomes present is reported, brings ALONE to UP
and stops UP's count of 3 s (R90, R102, R104, R110, R111). -/
def refreshPeer (x : Nat) (s : State) : State :=
  if s.present x then hearPeer x s
  else
    let s := postPeer x .present (hearPeer x s)
    if s.link.state = .alone then enterSending .up s
    else s.onLink (fun l => { l with upAlone := none })

/-! ### Reassembly (R96, R97) -/

/-- The COLLECTING context of a peer. -/
def State.contextOf (x : Nat) (s : State) : Option Reassembly := s.link.contexts.find? (fun c => decide (c.peer = x))

/-- The context of a peer returns to IDLE. -/
def dropContext (x : Nat) (s : State) : State :=
  s.onLink (fun l => { l with contexts := l.contexts.filter (fun c => decide (c.peer ≠ x)) })

/-- The context of a peer becomes or stays COLLECTING with these contents. -/
def setContext (c : Reassembly) (s : State) : State :=
  s.onLink (fun l => { l with contexts := l.contexts.filter (fun d => decide (d.peer ≠ c.peer)) ++ [c] })

/-- A burst of x for t is lost: REASSEMBLY LOST, the stored record marked stale, custody TAKEN by x freed. In WAIT ID
the collections stay as they are (R97, R205). -/
def loseBurst (x : Nat) (t : TicketNo) (s : State) : State :=
  let s := latchEvent .reassemblyLost (.reassembly x t) s
  if s.waitId then s else freeTakenBy x t (markStale t s)

/-- A break of a peer's reassembly; an IDLE context has nothing to break (R97). -/
def breakContext (x : Nat) (s : State) : State :=
  match s.contextOf x with
  | some c => loseBurst x c.head.ticket (dropContext x s)
  | none => s

/-- The kind of NOTE the context expects next (R94, R97). -/
def Reassembly.nextNote (c : Reassembly) : Option NoteKind :=
  if c.head.hasTag && c.tag.isNone then some .tag
  else if c.head.hasSeller && c.seller.isNone then some .seller
  else none

/-- Every LINE the HEAD announced has been received. -/
def Reassembly.allLines (c : Reassembly) : Bool := decide (c.head.lineCount ≤ c.lines.length)

/-- Nothing more is expected. -/
def Reassembly.isWhole (c : Reassembly) : Bool := c.allLines && c.nextNote.isNone

/-- The context with its next expected frame added; none for any other frame (R97). -/
def Reassembly.add (c : Reassembly) : Frame → Option Reassembly
  | .line t l =>
    if t = c.head.ticket ∧ l.index = c.lines.length + 1 ∧ c.allLines = false then
      some { c with lines := c.lines ++ [l] }
    else none
  | .note t k text =>
    if t = c.head.ticket ∧ c.allLines = true ∧ c.nextNote = some k then
      match k with
      | .tag => some { c with tag := some text }
      | .seller => some { c with seller := some text }
    else none
  | _ => none

/-! ### Burst acceptance (R98, R99) -/

/-- The conditions of R6 on the record a complete burst describes. -/
def Reassembly.consistent (c : Reassembly) : Bool :=
  decide (c.head.step = c.lines.length) && decide (c.head.step ≤ Config.lineCapacity)
    && decide (((c.lines.map (fun l => (l.net : Int))).sum) = (c.head.grossIn : Int) - c.head.lastWeight)
    && (decide (c.head.life = .opened) || decide (1 ≤ c.lines.length))

/-- The local part the old record keeps for a line of the same index, grade, net and amount (R5). -/
def keptLocal (old : List Line) (l : Line) : Option LocalPart :=
  match old.find? (fun o => decide (o.index = l.index)) with
  | some o => if o.grade = l.grade ∧ o.net = l.net ∧ o.amount = l.amount then o.localPart else none
  | none => none

/-- The record a burst describes, its lines keeping the local parts of old ones, with this custody (R5, R99). Tag, seller
reference and record flags are the burst's, so a replacing burst without them takes them away (log entry 44). -/
def Reassembly.toRecord (c : Reassembly) (old : List Line) (custody : Custody) : Record :=
  { number := c.head.ticket, issueDay := c.head.issueDay, life := c.head.life, step := c.head.step,
    grossIn := c.head.grossIn, lastWeight := c.head.lastWeight, weighInTime := c.head.weighInTime,
    lastStepTime := c.head.lastStepTime, lines := c.lines.map (fun l => { l with localPart := keptLocal old l }),
    tag := c.tag, seller := c.seller, offline := c.head.offline, priceEarly := c.head.priceEarly,
    lastWriter := c.peer, custody := custody, stale := false, pendingBroadcast := false }

/-- The store step of R98 for a burst whose ticket is not held. -/
def insertBurst (c : Reassembly) (s : State) : State :=
  let r := c.toRecord [] .free
  if s.keeps r then
    if s.tableRoom then postPayable r.number (decide (r.life = .complete)) (appendRecord r s)
    else latchEvent .tableFull (.tableFull r.number c.peer) s
  else s

/-- The burst replaces the stored record in place; an offer on it at its old step ends CHANGED (R99, R158). -/
def replaceRecord (c : Reassembly) (old : Record) (s : State) : State :=
  let r := c.toRecord old.lines old.custody
  let s := applyFilter r.number (modifyRecord r.number (fun _ => r) s)
  let s := if r.step = old.step then s else endOffer r.number .changed s
  postPayable r.number (decide (r.life = .complete) && decide (old.life ≠ .complete)) s

/-- A burst that satisfies R6, at a station with an ID, in the steps of R98. -/
def storeBurst (c : Reassembly) (s : State) : State :=
  let t := c.head.ticket
  let s := modifyEntry t (RegEntry.onBurst c.head.step c.head.life) (freeTakenBy c.peer t s)
  if s.isClosed t then s
  else
    match s.findRecord t with
    | none => insertBurst c s
    | some old =>
      if old.step < c.head.step ∨ (old.step = c.head.step ∧ old.stale = true) then replaceRecord c old s else s

/-- A complete burst is judged: one that fails R6 is lost as a broken one is; one that satisfies it is stored, but not in
WAIT ID, where the collections stay as they are (R6, R98, R205). -/
def acceptBurst (c : Reassembly) (s : State) : State :=
  if c.consistent then (if s.waitId then s else storeBurst c s) else loseBurst c.peer c.head.ticket s

/-- The context is kept, or its burst goes to acceptance when it is complete (R96, R97). -/
def collect (c : Reassembly) (s : State) : State :=
  if c.isWhole then acceptBurst c (dropContext c.peer s) else setContext c s

/-- A frame of peer x goes to its reassembly context (R90, R96, R97). -/
def reassemble (x : Nat) (f : Frame) (s : State) : State :=
  match f with
  | .head h =>
    collect { peer := x, head := h, lines := [], tag := none, seller := none, timer := Config.reassemblyMs }
      (breakContext x s)
  | _ =>
    match s.contextOf x with
    | none => s
    | some c =>
      match c.add f with
      | some c' => collect c' s
      | none => breakContext x s

/-! ### ASK and ANNOUNCE (R100, R109 to R111) -/

/-- An ASK is answered by the one station that may; an answer that cannot be queued sets no mark, in DOWN and SILENT
either (R100, log entry 46). -/
def answerAsk (t : TicketNo) (step : Nat) (s : State) : State :=
  match s.findRecord t with
  | some r =>
    if r.stale = false ∧ step ≤ r.step ∧ r.lastWriter = s.myId then
      match queueBurst r s with
      | some s' => s'
      | none => s
    else s
  | none => s

/-- An ANNOUNCE sets its sender's values and reports what it changes (R110, R111). -/
def hearAnnounce (x : Nat) (a : AnnounceValues) (s : State) : State :=
  match s.peer x with
  | none => s
  | some p =>
    let s := modifyPeer x (fun p =>
      { p with role := some a.role, dayNumber := some a.dayNumber, dayOpen := some a.dayOpen,
               tableLoad := some a.tableLoad }) s
    let s := if p.role = some a.role then s else postPeer x .role s
    let s := if p.dayOpen = some a.dayOpen then s else postPeer x .dayState s
    if a.restart then postPeer x .restart s else s

/-! ### The whole reception (R88 to R90, R108) -/

/-- The block that owns the kind takes the frame; in WAIT ID only the roster does (R90, R205). -/
def deliver (x : Nat) (f : Frame) (s : State) : State :=
  match f with
  | .announce a =>
    let s := hearAnnounce x a s
    if a.restart && !s.waitId then freeHolds x s else s
  | .claim t p step => if s.waitId then s else judgeClaim x t p step s
  | .object t c h reason step => if s.waitId then s else judgeObject x t c h reason step s
  | .release t => if s.waitId then s else judgeRelease x t s
  | .closed t how cash transfer seller =>
    if s.waitId then s else observeClosure t (.settled how cash transfer x seller) s
  | .ask t step => if s.waitId then s else answerAsk t step s
  | _ => s

/-- The acknowledge slot of a good frame is driven dominant, except in JOINING and SILENT (R88). -/
def driveAck (good : Bool) (s : State) : State :=
  s.onLink (fun l => { l with ackDriven := good && !(decide (l.state = .joining) || decide (l.state = .silent)) })

/-- A frame with a good CRC, of this kind and class, is received: own ID, malformed or well-formed (R89, R90, R108). -/
def receive (k : FrameKind) (x : Nat) (bs : List Byte) (s : State) : State :=
  let s := driveAck true s
  if x = 0 ∨ 15 < x then s
  else if x = s.myId then
    match readFrame k bs with
    | some _ => enterSilent (if k = .announce ∧ s.link.state = .joining then .announce else .frame) s
    | none => s
  else
    match readFrame k bs with
    | some f => deliver x f (reassemble x f (refreshPeer x s))
    | none => breakContext x (refreshPeer x s)

end Sys2Proof.Machine
end

