-- ==== Sys2Proof/Machine/Transmit.lean ====
section
/-! DEFINITION. Sending frames: starting them, the ends of their attempts, delivery and drop (R85 to R88, R91 to R95, R104
to R106). -/

namespace Sys2Proof.Machine

/-- The frame an item would send. -/
def QueueItem.front? (i : QueueItem) : Option Frame := i.frames.head?

/-- The bus is idle and this station starts the frame that its link state allows: the head in ALONE and UP, a probe that
is due in DOWN. No other frame starts (R85, R91, R106). -/
def startFrame (s : State) : State :=
  match s.link.wire, s.link.state with
  | none, .up | none, .alone =>
    match s.link.head?.bind QueueItem.front? with
    | some f =>
      s.onLink (fun l =>
        { l with
          queue := l.onHead (fun i => { i with onWire := true })
          wire := some { frame := f, probe := false, bits := frameBits s.myId f } })
    | none => s
  | none, .down =>
    match s.link.probe with
    | some a =>
      s.onLink (fun l =>
        { l with
          probe := none
          wire := some { frame := .announce a, probe := true, bits := frameBits s.myId (.announce a) } })
    | none => s
  | _, _ => s

/-- The item whose frame is on the wire. -/
def Link.onWire? (l : Link) : Option QueueItem := l.queue.find? QueueItem.onWire

/-- Changes the item whose frame is on the wire. -/
def mapOnWire (f : QueueItem → QueueItem) (s : State) : State :=
  s.onLink (fun l => { l with queue := modifyFirst QueueItem.onWire f l.queue })

/-- The item whose frame is on the wire leaves the queue. -/
def dropOnWire (s : State) : State :=
  s.onLink (fun l => { l with queue := l.queue.eraseP QueueItem.onWire })

/-- A drop counts in UP; the third in a row leads to DOWN (R93, R105). -/
def countDrop (s : State) : State :=
  if s.link.state = .up then
    if Config.maxUndelivered ≤ s.link.undelivered + 1 then enterDown s
    else s.onLink (fun l => { l with undelivered := l.undelivered + 1 })
  else s

/-- An item that has left the queue was dropped undelivered: its requester is told, then the drop counts (R93, R95,
R105, R118). -/
def droppedItem (i : QueueItem) (s : State) : State := countDrop (removed i s)

/-- An ANNOUNCE carrying the restart mark has been delivered (R109). -/
def announced (a : AnnounceValues) (s : State) : State :=
  if a.restart then s.onLink (fun l => { l with restartOwed := false }) else s

/-- The burst of a ticket has been delivered whole: its record's pending mark is cleared and further pending records are
fed (R10, R94, R101, log entry 22). -/
def burstDelivered (t : TicketNo) (s : State) : State :=
  feedPending (modifyRecord t (fun r => { r with pendingBroadcast := false }) s)

/-- What the delivery of an item's front frame means to its requester (R93, R94, R109, R118). -/
def deliveredFrame (i : QueueItem) (s : State) : State :=
  match i.frames, i.slot, i.burst with
  | _ :: _ :: _, _, _ => s
  | _, some slot, _ => claimDelivered slot s
  | _, none, some t => burstDelivered t s
  | [.announce a], none, none => announced a s
  | _, none, none => s

/-- The front frame of the item on the wire has been delivered: it leaves the queue; the rest of its burst follows with
fresh attempts (R93, R94). -/
def advanceOnWire (i : QueueItem) (s : State) : State :=
  if i.frames.length ≤ 1 then dropOnWire s
  else mapOnWire (fun i =>
    { i with frames := i.frames.drop 1, started := true, onWire := false, attempts := 0, timeout := none,
             timedOut := false }) s

/-- An attempt of the item on the wire ended without delivery, in UP: the third, or one whose timeout ran out, drops it
(R93). -/
def failedAttempt (i : QueueItem) (s : State) : State :=
  if i.timedOut ∨ Config.maxAttempts ≤ i.attempts + 1 then droppedItem i (dropOnWire s)
  else mapOnWire (fun i => { i with started := true, onWire := false, attempts := i.attempts + 1 }) s

/-- The own frame's acknowledge slot has been read dominant: the undelivered count returns to 0, and DOWN returns to UP
(R93, R106). -/
def acknowledgedFrame (s : State) : State :=
  match s.link.state with
  | .down => enterSending .up s
  | .up => s.onLink (fun l => { l with undelivered := 0 })
  | _ => s

/-- The end of an attempt of a probe; one that falls due meanwhile waits on (R106, R109). -/
def endProbe (a : Frame) (ack : Bool) (s : State) : State :=
  let s := s.onLink (fun l => { l with wire := none })
  if ack && decide (s.link.state = .down) then
    acknowledgedFrame (match a with
      | .announce v => announced v s
      | _ => s)
  else s

/-- The end of an attempt of a queued frame (R93, R104). -/
def endQueued (ack : Bool) (s : State) : State :=
  match s.link.onWire?, s.link.state with
  | some i, .alone => deliveredFrame i (advanceOnWire i s)
  | some i, .up => if ack then deliveredFrame i (acknowledgedFrame (advanceOnWire i s)) else failedAttempt i s
  | some i, .down =>
    if ack then acknowledgedFrame (deliveredFrame i (advanceOnWire i s)) else mapOnWire (fun i => { i with onWire := false }) s
  | some _, _ => mapOnWire (fun i => { i with onWire := false }) s
  | none, _ => if ack then acknowledgedFrame s else s

/-- The own frame on the wire has ended and its acknowledge slot has been read (R88, R93). -/
def endAttempt (ack : Bool) (s : State) : State :=
  match s.link.wire with
  | none => s
  | some w => if w.probe then endProbe w.frame ack s else endQueued ack (s.onLink (fun l => { l with wire := none }))

/-- A probe that lost arbitration waits again, unless a later one has fallen due meanwhile (R87, R106, log entry 48). -/
def requeueProbe (f : Frame) (s : State) : State :=
  match f with
  | .announce a => s.onLink (fun l => { l with probe := some (l.probe.getD a) })
  | _ => s

/-- Arbitration is lost: not an attempt. The frame keeps its place, unless its timeout ran out meanwhile (R87, R93). -/
def loseArbitration (s : State) : State :=
  match s.link.wire with
  | none => s
  | some w =>
    let s := s.onLink (fun l => { l with wire := none })
    if w.probe then requeueProbe w.frame s
    else
      match s.link.onWire? with
      | none => s
      | some i =>
        if i.timedOut then droppedItem i (dropOnWire s) else mapOnWire (fun i => { i with onWire := false }) s

/-- Applies a change to the item at a position of the queue. -/
def modifyAt (f : QueueItem → QueueItem) : Nat → List QueueItem → List QueueItem
  | _, [] => []
  | 0, i :: rest => f i :: rest
  | n + 1, i :: rest => i :: modifyAt f n rest

/-- The transmit timeout of the item at a position has run out: an attempt on the wire ends first, else the frame is
dropped (R93). -/
def timeoutAt (p : Nat) (i : QueueItem) (s : State) : State :=
  if i.onWire then
    s.onLink (fun l => { l with queue := modifyAt (fun i => { i with timeout := none, timedOut := true }) p l.queue })
  else droppedItem i (s.onLink (fun l => { l with queue := l.queue.eraseIdx p }))

end Sys2Proof.Machine
end

