-- ==== Sys2Proof/Machine/Port.lean ====
section
/-! DEFINITION. The controller port: the status byte, what is shifted out, the judging of frames, the acceptance table and
the answer slot; and what every event of the powered part ends with (chapter The Controller Port). -/

namespace Sys2Proof.Machine

/-! ### What is shifted out (R197) -/

/-- The status byte (R197). -/
def State.statusByte (s : State) : Byte :=
  byte (128 * s.flags.restarted.toNat + 64 * (!s.notices.queue.isEmpty).toNat + 32 * s.anyStop.toNat
    + 16 * s.anyWarn.toNat + 8 * s.port.portError.toNat + 4 * (s.slotBusy .weigh).toNat
    + 2 * (s.slotBusy .pay).toNat + s.port.answerNew.toNat)

/-- The bytes copied when select goes active: status, answer length, answer position, and the answer from there. -/
def State.shiftedOut (s : State) : List Byte :=
  [s.statusByte, byte s.port.answer.length, byte s.port.position] ++ s.port.answer.drop s.port.position

/-! ### The bits of a frame (R196, R197) -/

/-- A byte's bits, most significant first. -/
def byteBits (b : Byte) : List Bool :=
  [b.getMsbD 0, b.getMsbD 1, b.getMsbD 2, b.getMsbD 3, b.getMsbD 4, b.getMsbD 5, b.getMsbD 6, b.getMsbD 7]

/-- The bits of bytes in their order. -/
def bytesBits (bs : List Byte) : List Bool := bs.flatMap byteBits

/-- The whole bytes that bits hold; bits left over are passed by. -/
def wholeBytes : List Bool → List Byte
  | a :: b :: c :: d :: e :: f :: g :: h :: rest =>
    byte (128 * a.toNat + 64 * b.toNat + 32 * c.toNat + 16 * d.toNat + 8 * e.toNat + 4 * f.toNat + 2 * g.toNat + h.toNat)
      :: wholeBytes rest
  | _ => []

/-- The codes assigned in R200. -/
def commandCodes : List Nat :=
  [1, 2, 3, 4, 5, 6, 7, 10, 11, 12, 13, 14, 15, 20, 21, 22, 23, 24, 25, 30, 31, 32, 33, 34, 35, 36, 37, 40, 41, 42,
   50, 51, 52, 53, 60, 61, 70, 71, 72, 73, 74, 75, 76, 77]

/-- Code and parameters of a frame of these bits; none when it fails a test of R196: L + 2 whole bytes and no bits over,
L at most 48, not wholly of 0 bits, not wholly of 1 bits, an assigned code. -/
def frameParams (bits : List Bool) : Option (Nat × List Byte) :=
  match wholeBytes bits with
  | code :: l :: ps =>
    if bits.length = 8 * (l.toNat + 2) ∧ l.toNat ≤ Config.maxParams ∧ true ∈ bits ∧ false ∈ bits ∧ code.toNat ∈ commandCodes
    then some (code.toNat, ps) else none
  | _ => none

/-- The bits of a command frame: code, parameter length L, parameters. -/
def commandBits (code : Nat) (ps : List Byte) : List Bool := bytesBits ([byte code, byte ps.length] ++ ps)

/-- What `n` clocks shift out: the copied bytes from the place reached, then filler 0; filler alone once the frame is
abandoned, and for a select found active at start-up (R196, R197, R204). -/
def PortFrame.out (n : Nat) : PortFrame → List Bool
  | .running copied clocked _ => ((bytesBits copied).drop clocked.length ++ List.replicate n false).take n
  | _ => List.replicate n false

/-- Bits clocked into the frame in progress; an abandoned frame, and one that is none, take no bits (R196, R204). -/
def PortFrame.clock (bits : List Bool) : PortFrame → PortFrame
  | .running copied clocked timer => .running copied (clocked ++ bits) timer
  | f => f

/-- Select goes active: these bytes are copied for shifting out and the select timer starts. -/
def Port.activate (copy : List Byte) (p : Port) : Port :=
  { p with select := true, frame := .running copy [] Config.selectMs, dataOut := [] }

/-- Bits are clocked in, one bit going out at each clock. -/
def Port.clockIn (bits : List Bool) (p : Port) : Port :=
  { p with frame := p.frame.clock bits, dataOut := p.dataOut ++ p.frame.out bits.length }

/-- The bits of a frame are clocked in; select goes active first where no frame is in progress (log entry 7). -/
def Port.frameIn (copy : List Byte) (bits : List Bool) (p : Port) : Port :=
  (if p.frame = .none then p.activate copy else p).clockIn bits

/-- Select goes active: status, answer length, position and answer are copied and the select timer starts (R196, R197). -/
def activateSelect (s : State) : State := s.onPort (Port.activate s.shiftedOut)

/-- The bits of a frame are clocked in (R196, R197). -/
def frameIn (bits : List Bool) (s : State) : State := s.onPort (Port.frameIn s.shiftedOut bits)

/-- The bits waiting on data in are clocked in (log entry 7). -/
def takeBits (s : State) : State := { frameIn s.dataIn s with dataIn := [] }

/-! ### After every event -/

/-- What follows every event of the powered part: the port takes a job it can take (R175), the stall timer runs or stops
(R178), and the head's transmit timeout starts (R93). -/
def settle (s : State) : State := touchHead (settleStall (takeJobs s))

/-- An event of the powered part; without power nothing happens (log entry 4). -/
def powered (f : State → State) (s : State) : State := if s.powered then settle (f s) else s

/-! ### Answers (R198) -/

/-- The answer replaces the slot's contents, position 0, ANSWER NEW set. -/
def writeAnswer (a : List Byte) (s : State) : State :=
  s.onPort (fun p => { p with answer := a, position := 0, answerNew := true })

/-- What a command's own rule does: the new state and the answer. -/
abbrev Reply := State × List Byte

/-- A refusal, or an answer without values. -/
def reply (r : Result) (s : State) : Reply := (s, [byte r.code])

/-- OK with these values. -/
def okWith (values : List Byte) (s : State) : Reply := (s, byte Result.ok.code :: values)

/-- The answer position advances by the answer bytes clocked out in a frame of L parameters; an answer read whole starts
again and is no longer new (R197, R198). -/
def Port.readOn (l : Nat) (p : Port) : Port :=
  if p.position + min (l - 1) (p.answer.length - p.position) < p.answer.length then
    { p with position := p.position + min (l - 1) (p.answer.length - p.position) }
  else { p with position := 0, answerNew := false }

/-! ### Acceptance (R199, R200) -/

/-- The Roles column of R200. -/
inductive Places
  | all | weigh | pay
  deriving DecidableEq, Repr

/-- A row of R200: code, roles, the two day columns, gated; and the parameter lengths the command takes. -/
structure Acceptance where
  code : Nat
  places : Places
  whenClosed : Bool
  whenOpen : Bool
  gated : Bool
  lengths : List Nat
  deriving DecidableEq, Repr

/-- Check 1 of R199. -/
def placeRefusal (p : Places) (s : State) : Option Result :=
  match p with
  | .all => none
  | .weigh => if s.waitId then some .notReady else if s.hasWeigh then none else some .notAllowed
  | .pay => if s.waitId then some .notReady else if s.hasPay then none else some .notAllowed

/-- The first check of R199 that fails. -/
def Acceptance.refusal (a : Acceptance) (l : Nat) (s : State) : Option Result :=
  match placeRefusal a.places s with
  | some r => some r
  | none =>
    if a.gated && s.flags.restarted then some .restarted
    else if !(if s.day.isOpen then a.whenOpen else a.whenClosed) then some .notAllowed
    else if a.lengths.contains l then none
    else some .range

/-- An open header load is abandoned (R173, R199). -/
def abandonLoad (s : State) : State := s.onPrinter (fun p => { p with load := none })

/-- Select is released: no frame is in progress. -/
def releaseSelect (s : State) : State := s.onPort (fun p => { p with select := false, frame := .none })

/-- The frame is rejected (R196). -/
def rejectFrame (s : State) : State := s.onPort (fun p => { p with portError := true })

/-- The frame is accepted: PORT ERROR clears and the answer position advances (R196, R198). -/
def acceptFrame (l : Nat) (s : State) : State := s.onPort (fun p => ({ p with portError := false }).readOn l)

/-- Select's release at the end of a frame of these bits: a select found active at start-up was no frame; an abandoned
frame, and one whose bits fail a test of R196, is rejected; any other is accepted and acted on (R196, R204). -/
def endFrame (bits : List Bool) (act : State → State) (s : State) : State :=
  match (frameIn bits s).port.frame with
  | .notAFrame => releaseSelect (frameIn bits s)
  | .running _ clocked _ =>
    match frameParams clocked with
    | some p => act (acceptFrame p.2.length (releaseSelect (frameIn bits s)))
    | none => rejectFrame (releaseSelect (frameIn bits s))
  | _ => rejectFrame (releaseSelect (frameIn bits s))

/-- An accepted command: the acceptance table, then its own rule; the answer is written (R198, R199). -/
def actOn (a : Acceptance) (ps : List Byte) (body : State → Reply) (s : State) : State :=
  match a.refusal ps.length s with
  | some r => writeAnswer [byte r.code] (abandonLoad s)
  | none => writeAnswer (body s).2 (body s).1

/-- A command of the table of R200, from select's release to the end of its event; it abandons an open header load. -/
def command (a : Acceptance) (ps : List Byte) (body : State → Reply) (s : State) : State :=
  powered (endFrame (commandBits a.code ps) (fun s => actOn a ps body (abandonLoad s))) s

/-- A command that is given a value of its parameters, or refused RANGE when they hold none. -/
def withParams {α : Type} (p : Option α) (body : α → State → Reply) (s : State) : Reply :=
  match p with
  | some a => body a s
  | none => reply .range s

/-- An ID and role as two bytes, 0 when absent (R196). -/
def identityBytes : Option (Nat × Role) → List Byte
  | some (i, r) => [byte i, byte r.code]
  | none => [0, 0]

/-! ### Rows of R200 by their columns -/

/-- Roles all, any day state, not gated. -/
def always (code : Nat) (lengths : List Nat) : Acceptance :=
  { code := code, places := .all, whenClosed := true, whenOpen := true, gated := false, lengths := lengths }

/-- Roles all, day CLOSED, not gated. -/
def whileClosed (code : Nat) (lengths : List Nat) : Acceptance :=
  { code := code, places := .all, whenClosed := true, whenOpen := false, gated := false, lengths := lengths }

/-- All lengths from lo to hi. -/
def upTo (lo hi : Nat) : List Nat := (List.range (hi + 1)).filter (fun n => decide (lo ≤ n))

end Sys2Proof.Machine
end

