-- ==== Sys2Proof/Machine/PowerCommands.lean ====
section
/-! DEFINITION. Power and restart: POWER_ON, POWER_LOSS, RESET, and the port's own lines (R24, R25, R41, R42, R66, R113,
R137, R161, R162, R183, R195 to R198, R204 to R209). -/

namespace Sys2Proof.Machine

/-! ### Power (R205, R207, R208) -/

/-- What POWER_LOSS leaves: the retained store and the levels on the input pins; the rest is gone (R207, log entry 4). -/
def dropPower (s : State) : State :=
  { s with
    powered := false
    tickets := { s.tickets with cursor := none }
    scale := .start s.scale.zero s.settings.toScaleItems
    weigh := none
    link := .start
    weighTimer := .start
    payTimer := .start
    payOp := none
    printer := .start s.printer.header s.printer.busy s.printer.paperOut s.printer.fault
    flags := .start
    notices := .start
    port := .start s.port.select }

/-- The retained store cleared to factory values (R207). -/
def clearStore (s : State) : State :=
  { s with
    identity := { s.identity with override := none }
    day := .factory
    settings := .factory
    tickets := .factory
    scale := { s.scale with zero := 0 }
    pricing := .factory
    drawer := { Drawer.factory with pulses := s.drawer.pulses }
    printer := { s.printer with header := [] } }

/-- The ticket store at power-on: every custody mark FREE, every holder 0, cursor at the start (R24). -/
def Tickets.onPower (k : Tickets) : Tickets :=
  { k with
    table := k.table.map (fun r => { r with custody := .free })
    register := k.register.map (fun e => { e with holder := 0 })
    cursor := none }

/-- In WAIT ID an OPEN day is closed: no report; a DAY notice is posted (R205). -/
def closeDayInWaitId (s : State) : State :=
  if s.waitId && s.day.isOpen then
    postNotice (.day s.day.number .closed 0) (s.onDay (fun d => { d with isOpen := false, tick := none }))
  else s

/-- The conditions judged once the blocks have started, in LOANED too (R183, R195, log entry 36). Their
FLAG notices' order, that of R184's table, is the model's choice at power-on and at the soft reset (log entry 37). -/
def judgeStart (s : State) : State := judgeDrawer (judge .printerFault s)

/-- The blocks start from their power-on values, the scale items in force being the retained ones (R41, R113, R208, log
entry 59). -/
def startBlocks (s : State) : State :=
  (s.onScale (fun u =>
    { u with
      silence := if s.hasWeigh then some Config.silenceMs else none
      inForce := s.settings.toScaleItems })).onLink
    (fun l => { l with joinTimer := if s.waitId then none else some Config.joinMs })

/-- Power arrives: straps sampled, store checked, identity settled, blocks started, conditions judged (R195, R205, R207,
R208). The FLAG notices of the start come before a DAY notice of WAIT ID (R195). Every record is kept, also where the role strap
has changed (R24, log entry 45). -/
def startUp (straps : Straps) (storeAgrees : Bool) (s : State) : State :=
  let s := { dropPower s with powered := true }
  let s := { (if storeAgrees then s else clearStore s) with
             identity := { straps := straps, override := if storeAgrees then s.identity.override else none } }
  let s := startBlocks (claimRegister (s.onTickets Tickets.onPower))
  let s := if storeAgrees then s else latchEvent .retainedLost .none s
  closeDayInWaitId (judgeStart s)

/-- POWER_ON. Straps have 4, 2 and 2 pins (R205). -/
def execPowerOn (idStrap roleStrap rateStrap : Nat) (storeAgrees : Bool) (s : State) : Host.Outcome State Fault Refusal :=
  .next (settle (startUp { id := idStrap % 16, role := roleStrap % 4, rate := rateStrap % 4 } storeAgrees s))

/-- POWER_LOSS (R207). -/
def execPowerLoss (s : State) : Host.Outcome State Fault Refusal := .next (if s.powered then dropPower s else s)

/-! ### The soft reset (R209) -/

/-- The ticket store: own custody FREE, own holders 0, cursor at the start (R25). -/
def Tickets.onReset (self : Nat) (k : Tickets) : Tickets :=
  { k with
    table := k.table.map (fun r => if r.custody.isOwn then { r with custody := .free } else r)
    register := k.register.map (fun e => if e.holder = self then { e with holder := 0 } else e)
    cursor := none }

/-- The receipt unit: header load abandoned, placeholders removed, a PRINTING job SUSPENDED, the port as R183's table
says (log entry 23); no job waits for BUSY any longer (log entry 61). -/
def Printer.onReset (p : Printer) : Printer :=
  let jobs := (p.jobs.filter (fun j => decide (j.state ≠ .waiting))).map (fun j =>
    { j with state := if j.state = .printing then .suspended else j.state, awaitsBusy := false })
  { p.leave .stopped with load := none, jobs := jobs, stall := none, stalled := false }

/-- The soft reset of every block (R25, R42, R66, R113, R137, R162, R183, R195, R204). -/
def softReset (s : State) : State :=
  let s :=
    { s with
      tickets := s.tickets.onReset s.myId
      scale := { s.scale with context := none }
      weigh := none
      weighTimer := .start
      payTimer := .start
      payOp := none
      printer := s.printer.onReset
      flags := .start
      notices := .start
      port := { s.port with answer := [], position := 0, portError := false, answerNew := false } }
  judgeStart (rejoin s)

/-- RESET. It takes no parameters and gives no answer; with parameters it is not acted on (log entry 8). -/
def execReset (ps : List Byte) (s : State) : Host.Outcome State Fault Refusal :=
  .next (powered (endFrame (commandBits 2 ps) (fun s => if ps = [] then softReset s else abandonLoad s)) s)

/-! ### The port's lines (R196, R197) -/

/-- SELECT_ACTIVE: what is shifted out is copied and the select timer starts. Without power only the pin changes. -/
def execSelectActive (s : State) : Host.Outcome State Fault Refusal :=
  .next (if s.port.select then s
    else if s.powered then settle (activateSelect s)
    else s.onPort (fun p => { p with select := true }))

/-- SELECT_TIMEOUT: the select timer of the running frame expires, the bits waiting on data in having been clocked in, and
the frame is abandoned. -/
def execSelectTimeout (s : State) : Host.Outcome State Fault Refusal :=
  .next (match s.port.frame with
    | .running _ _ timer =>
      powered (fun s => (takeBits (elapse timer s)).onPort (fun p => { p with frame := .abandoned })) s
    | _ => s)

/-- Select's release after the bits waiting on data in is judged: a select found active at start-up was no frame; an
abandoned frame, and one whose bits fail a test of R196, is rejected; one whose bits pass them all is no rejected frame and
leaves everything (log entry 2). -/
def judgeRejected (s : State) : State :=
  match (takeBits s).port.frame with
  | .notAFrame => releaseSelect (takeBits s)
  | .running _ clocked _ => if (frameParams clocked).isSome then s else rejectFrame (releaseSelect (takeBits s))
  | _ => rejectFrame (releaseSelect (takeBits s))

/-- FRAME_REJECTED: PORT ERROR is set; a select found active at start-up was no frame (R196, R204). Without power only the
pin changes. -/
def execFrameRejected (s : State) : Host.Outcome State Fault Refusal :=
  .next (if s.powered then settle (judgeRejected s)
    else s.onPort (fun p => { p with select := false, frame := .none }))

/-- NOP takes any parameters and gives no answer (R198, R199). -/
def execNop (ps : List Byte) (s : State) : Host.Outcome State Fault Refusal :=
  .next (powered (endFrame (commandBits 1 ps) abandonLoad) s)

/-! ### Identity (R205, R206) -/

/-- Records last written under the old ID take the new ID as last writer; in WAIT ID there is none to give (R206, log
entry 19). -/
def renameWriter (old new : Nat) (s : State) : State :=
  if old = 0 ∨ new = 0 then s
  else s.onTickets (fun k =>
    { k with table := k.table.map (fun r => if r.lastWriter = old then { r with lastWriter := new } else r) })

/-- The scale unit starts or stops listening when the weigh slot comes or goes; the scale items in force stay (R26, log entry
59). -/
def ScaleUnit.onRole (had has : Bool) (u : ScaleUnit) : ScaleUnit :=
  if had = has then u
  else if has then { ScaleUnit.start u.zero u.inForce with silence := some Config.silenceMs }
  else { u with silence := none, last := none, context := none }

/-- The new identity takes effect (R206). -/
def changeIdentity (override : Option (Nat × Role)) (s : State) : State :=
  let old := s
  let s := { s with identity := { s.identity with override := override } }
  let s := claimRegister (renameWriter old.myId s.myId s)
  let s := if s.role = old.role then s else filterAll s
  let s := s.onScale (ScaleUnit.onRole old.hasWeigh s.hasWeigh)
  let s := { s with weighTimer := .start, payTimer := .start }
  (rejoin s).onLink (fun l => { l with roster := l.roster.filter (fun p => decide (p.id ≠ s.myId)) })

/-- SET IDENTITY (R206). An ID of 0 carries a role byte too, which is not judged; one byte alone is refused RANGE (log entry
70). -/
def execSetIdentity (ps : List Byte) (s : State) : Host.Outcome State Fault Refusal :=
  .next (command (whileClosed 10 [2]) ps (fun s =>
    if s.slotBusy .weigh || s.slotBusy .pay then reply .busy s
    else withParams (readTwo 1 1 ps) (fun p s =>
      if p.1 = 0 then
        let s := changeIdentity none s
        okWith (identityBytes s.identity.inForce) s
      else
        match decide (p.1 ≤ 15), roleOf p.2 with
        | true, some r =>
          let s := changeIdentity (some (p.1, r)) s
          okWith (identityBytes s.identity.inForce) s
        | _, _ => reply .range s) s) s)

end Sys2Proof.Machine
end

