-- ==== Sys2Proof/Machine/FlagCommands.lean ====
section
/-! DEFINITION. The flag and notice commands: READ NOTICE, SET ATTN, CLEAR FLAGS, CLEAR ALL, READ FLAGS (R187, R191,
R194, R202). -/

namespace Sys2Proof.Machine

/-- READ NOTICE takes the oldest notice from the queue; with none it answers NOT READY (R194, R202). -/
def readNotice (s : State) : Reply :=
  match s.notices.queue with
  | (n, x) :: rest => okWith (noticeBytes n x) (s.onNotices (fun q => { q with queue := rest }))
  | [] => reply .notReady s

def execReadNotice (ps : List Byte) (s : State) : Host.Outcome State Fault Refusal :=
  .next (command (always 3 [0]) ps readNotice s)

/-- SET ATTN: 0 off, 1 on, any other value RANGE (R194; the coding is the model's, log entry 68). -/
def setAttn (on : Nat) (s : State) : Reply :=
  match boolOf on with
  | some b => reply .ok (s.onNotices (fun q => { q with attnEnable := b }))
  | none => reply .range s

def execSetAttn (ps : List Byte) (s : State) : Host.Outcome State Fault Refusal :=
  .next (command (always 4 [1]) ps (withParams (readOne 1 ps) setAttn) s)

/-- CLEAR FLAGS by a mask; bit 14 names nothing (R187, R196). -/
def clearFlags (mask : Nat) (s : State) : Reply :=
  if mask.testBit 14 then reply .range s
  else
    let s := clearNamed (fun f => mask.testBit f.number) (mask.testBit 15) s
    okWith (bytesOf 2 s.flagMask) s

def execClearFlags (ps : List Byte) (s : State) : Host.Outcome State Fault Refusal :=
  .next (command (always 5 [2]) ps (withParams (readOne 2 ps) clearFlags) s)

/-- CLEAR ALL names every flag and RESTARTED (R187). -/
def clearAll (s : State) : Reply :=
  let s := clearNamed (fun _ => true) true s
  okWith (bytesOf 2 s.flagMask) s

def execClearAll (ps : List Byte) (s : State) : Host.Outcome State Fault Refusal :=
  .next (command (always 6 [0]) ps clearAll s)

/-- One flag record: latched mark (log entry 67), detail in 5 bytes, and an event flag's count (R191, log entry 10). -/
def flagRecordBytes (f : Flag) (s : State) : List Byte :=
  [flagByte (s.latched f)] ++ fill 5 (s.flag f).detail.bytes ++ (if f.isCondition then [] else [byte (s.flag f).count])

def FaultScope.code : FaultScope → Nat
  | .station => 1
  | .block => 2

/-- READ FLAGS: the flag records, RESTARTED (log entry 67) and the fault scope (R191). -/
def readFlags (s : State) : Reply :=
  okWith (Flag.all.flatMap (fun f => flagRecordBytes f s)
    ++ [flagByte s.flags.restarted, byte s.settings.faultScope.code]) s

def execReadFlags (ps : List Byte) (s : State) : Host.Outcome State Fault Refusal :=
  .next (command (always 7 [0]) ps readFlags s)

end Sys2Proof.Machine
end

