-- ==== Sys2Proof/Machine/DayCommands.lean ====
section
/-! DEFINITION. Configuration and the yard day: CONFIGURE, CONFIGURE DEFAULTS, READ CONFIG, DAY OPEN, DAY CLOSE and the
yard clock (R18, R32, R82, R210 to R215). -/

namespace Sys2Proof.Machine

/-! ### Configuration (R210) -/

def faultScopeOf : Nat → Option FaultScope
  | 1 => some .station
  | 2 => some .block
  | _ => none

def LockMode.code : LockMode → Nat
  | .line => 1
  | .weighIn => 2

def lockModeOf : Nat → Option LockMode
  | 1 => some .line
  | 2 => some .weighIn
  | _ => none

/-- Sets one item by its number; none for an unknown item or a value its coding does not have (R210). -/
def Settings.put (i v : Nat) (c : Settings) : Option Settings :=
  match i with
  | 1 => some { c with capacity := v }
  | 2 => some { c with division := v }
  | 3 => some { c with windowLength := v }
  | 4 => some { c with motionBand := v }
  | 5 => some { c with clearThreshold := v }
  | 6 => some { c with captureTimeout := v }
  | 7 => some { c with claimWindow := v }
  | 8 => some { c with confirmTimeout := v }
  | 9 => (faultScopeOf v).map (fun x => { c with faultScope := x })
  | 10 => (lockModeOf v).map (fun x => { c with lockMode := x })
  | 11 => (boolOf v).map (fun x => { c with homeCheck := x })
  | 12 => (boolOf v).map (fun x => { c with receiptRequired := x })
  | 13 => (boolOf v).map (fun x => { c with shortToTransfer := x })
  | 14 => some { c with regulatedCap := v }
  | 15 => some { c with ticketCashMax := v }
  | _ => none

/-- All pairs set, in order. -/
def Settings.putAll : List (Nat × Nat) → Settings → Option Settings
  | [], c => some c
  | (i, v) :: rest, c =>
    match c.put i v with
    | some c => c.putAll rest
    | none => none

/-- Every item lies in its range, with the values that would be in force together (R32, R210). -/
def Settings.inRange (c : Settings) : Bool :=
  decide (c.division = 5 ∨ c.division = 10 ∨ c.division = 20 ∨ c.division = 50)
    && decide (10000 ≤ c.capacity) && decide (c.capacity ≤ 150000) && decide (c.capacity % c.division = 0)
    && decide (3 ≤ c.windowLength) && decide (c.windowLength ≤ 32)
    && decide (1 ≤ c.motionBand) && decide (c.motionBand ≤ 5 * c.division)
    && decide (1 ≤ c.clearThreshold) && decide (c.clearThreshold ≤ 50)
    && decide (5 ≤ c.captureTimeout) && decide (c.captureTimeout ≤ 120)
    && decide (10 ≤ c.claimWindow) && decide (c.claimWindow ≤ 250)
    && decide (30 ≤ c.confirmTimeout) && decide (c.confirmTimeout ≤ 600)
    && decide (c.regulatedCap ≤ Config.maxAmount) && decide (c.ticketCashMax ≤ Config.maxAmount)

/-- The weigh slot is ZEROING (R32, R43). -/
def State.zeroing (s : State) : Bool :=
  match s.weigh with
  | some o => decide (o.phase = .zeroing)
  | none => false

/-- CONFIGURE: BUSY for a scale item while ZEROING; RANGE for an unknown or repeated item or a value out of range (R32,
R210). Where both hold the answer is BUSY (log entry 63). -/
def configure (items : List (Nat × Nat)) (s : State) : Reply :=
  if s.zeroing && items.any (fun p => decide (1 ≤ p.1) && decide (p.1 ≤ 6)) then reply .busy s
  else if decide ((items.map Prod.fst).Nodup) then
    match s.settings.putAll items with
    | some c => if c.inRange then reply .ok { s with settings := c } else reply .range s
    | none => reply .range s
  else reply .range s

def execConfigure (ps : List Byte) (s : State) : Host.Outcome State Fault Refusal :=
  .next (command (whileClosed 11 [5, 10, 15, 20, 25, 30, 35, 40, 45]) ps (withParams (readItems ps) configure) s)

/-- CONFIGURE DEFAULTS (R210). -/
def configureDefaults (s : State) : Reply :=
  if s.zeroing then reply .busy s else reply .ok { s with settings := .factory }

def execConfigureDefaults (ps : List Byte) (s : State) : Host.Outcome State Fault Refusal :=
  .next (command (whileClosed 12 [0]) ps configureDefaults s)

/-- The items in R210's order, each in the fewest bytes that hold its range. -/
def Settings.bytes (c : Settings) : List Byte :=
  bytesOf 3 c.capacity ++ [byte c.division, byte c.windowLength, byte c.motionBand, byte c.clearThreshold,
    byte c.captureTimeout, byte c.claimWindow] ++ bytesOf 2 c.confirmTimeout
    ++ [byte c.faultScope.code, byte c.lockMode.code, flagByte c.homeCheck, flagByte c.receiptRequired,
        flagByte c.shortToTransfer] ++ bytesOf 4 c.regulatedCap ++ bytesOf 4 c.ticketCashMax

/-- The link rate, numbered 62.5, 125, 250 kbit/s from 1 (R205, log entry 10). -/
def Straps.rateCode (p : Straps) : Nat :=
  match p.rate with
  | 0 => 1
  | 2 => 3
  | _ => 2

/-- READ CONFIG (R210). -/
def readConfig (s : State) : Reply :=
  okWith (s.settings.bytes
    ++ [byte s.identity.straps.id, byte s.identity.straps.role, byte s.identity.straps.rate]
    ++ identityBytes s.identity.override ++ identityBytes s.identity.inForce
    ++ [byte s.identity.straps.rateCode, byte (dayStateCode s.day.isOpen)] ++ bytesOf 2 s.day.number
    ++ bytesOf 3 s.day.clock ++ [flagByte s.day.tick.isSome]
    ++ bytesOf 2 s.day.totals.issued ++ bytesOf 2 s.day.totals.completed ++ bytesOf 2 s.day.totals.voided) s

def execReadConfig (ps : List Byte) (s : State) : Host.Outcome State Fault Refusal :=
  .next (command (always 13 [0]) ps readConfig s)

/-! ### DAY OPEN (R18, R81, R82, R159, R212) -/

/-- The whole write of a DAY OPEN that passes. -/
def openDay (number clock : Nat) (s : State) : State :=
  { s with
    day := { isOpen := true, number := number, clock := clock, tick := some Config.secondMs, totals := .zero }
    pricing := { grades := s.pricing.grades.map (fun p => (p.1, p.2.collapse)), totals := [] }
    drawer := { s.drawer with totals := .zero }
    tickets := { s.tickets with register := s.tickets.register.filter (fun e => !e.life.isClosed) } }

/-- The clock has reached its top: CLOCK TOP is posted (R211). -/
def postClockTop (s : State) : State :=
  if s.day.clock = Config.clockTop then postNotice (.day s.day.number .clockTop 0) s else s

/-- DAY OPEN's checks and work (R212). -/
def dayOpen (p : Nat × Nat) (s : State) : Reply :=
  if p.1 = 0 ∨ 65535 < p.1 ∨ Config.clockTop < p.2 then reply .range s
  else if s.latched .retainedLost then reply .halted s
  else
    let s := judge .cashLimit (judge .cashWarn (openDay p.1 p.2 s))
    reply .ok (postClockTop (postNotice (.day s.day.number .opened 0) s))

def execDayOpen (ps : List Byte) (s : State) : Host.Outcome State Fault Refusal :=
  .next (command { always 14 [5] with whenOpen := false, gated := true } ps (fun s =>
    if s.waitId then reply .notReady s else withParams (readTwo 2 3 ps) dayOpen s) s)

/-! ### DAY CLOSE (R213, R214) -/

/-- One OPEN entry is voided without a claim (R214). -/
def forceVoid (serial : Nat) (s : State) : State :=
  let t : TicketNo := { home := s.tickets.owner, serial := serial }
  let seller :=
    match s.findRecord t with
    | some r => r.seller.isSome
    | none => false
  let s := closeTicket t (.settled .voided 0 0 s.myId seller) s
  sendAsking (.closed t .voided 0 0 seller) (countDay DayTotals.oneVoided s)

/-- The serials of the OPEN entries, in ascending order (R16). -/
def State.openSerials (s : State) : List Nat :=
  (s.tickets.register.filter (fun e => decide (e.life = .opened))).map RegEntry.serial

/-- The close of the day after its checks: FORCE voids, DAY REPORT, the day CLOSED, its notice (R213). -/
def closeDay (force : Bool) (s : State) : Reply :=
  let serials := if force then s.openSerials else []
  let s := serials.foldl (fun s n => forceVoid n s) s
  let job := s.jobOrNone
  let s := makeReceipt .dayReport none (dayReportLines s) s
  let s := s.onDay (fun d => { d with isOpen := false, tick := none })
  okWith ([byte job] ++ bytesOf 2 serials.length) (postNotice (.day s.day.number .closed serials.length) s)

/-- DAY CLOSE's checks (R213). -/
def dayClose (force : Bool) (s : State) : Reply :=
  if s.slotBusy .weigh || s.slotBusy .pay then reply .busy s
  else if !force && !s.openSerials.isEmpty then reply .openTickets s
  else if force && s.tickets.register.any (fun e => decide (e.life = .opened) && decide (e.holder ≠ 0)) then reply .notAllowed s
  else if s.receiptBlocked then reply .printQueueFull s
  else closeDay force s

def execDayClose (ps : List Byte) (s : State) : Host.Outcome State Fault Refusal :=
  .next (command { always 15 [1] with whenClosed := false, gated := true } ps
    (withParams ((readOne 1 ps).bind boolOf) dayClose) s)

/-! ### The yard clock (R211) -/

/-- One yard second passes on a running clock; it holds at its top. -/
def tickClock (s : State) : State := s.onDay (fun d => { d with clock := min Config.clockTop (d.clock + 1), tick := some Config.secondMs })

/-- YARD_CLOCK_TICK: the running clock's second has passed. The battery keeps it going without power; the notice of
reaching the top is then not posted (R211, log entry 6). -/
def execYardClockTick (s : State) : Host.Outcome State Fault Refusal :=
  .next (match s.day.tick with
    | none => s
    | some r =>
      let reached := decide (s.day.clock + 1 = Config.clockTop)
      let s := tickClock (elapse r s)
      if s.powered then settle (if reached then postClockTop s else s) else s)

/-- CLOCK_TOP: the running clock's second has passed and brings it to its top (R211, log entry 5). -/
def execClockTop (s : State) : Host.Outcome State Fault Refusal :=
  .next (match s.day.tick with
    | none => s
    | some r =>
      if s.day.clock + 1 = Config.clockTop then
        let s := tickClock (elapse r s)
        if s.powered then settle (postClockTop s) else s
      else s)

end Sys2Proof.Machine
end

