-- ==== Sys2Proof/Machine/GradeCommands.lean ====
section
/-! DEFINITION. The commands of the grade table: LOAD GRADE, ADD PRICE VERSION, READ GRADE (R69 to R71, R83). -/

namespace Sys2Proof.Machine

/-- The kind of a grade in parameters and answers: BUY is 1, CHARGE 2 (log entry 65). -/
def GradeKind.code : GradeKind → Nat
  | .buy => 1
  | .charge => 2

def gradeKindOf : Nat → Option GradeKind
  | 1 => some .buy
  | 2 => some .charge
  | _ => none

/-- The entry LOAD GRADE gives, when checks 2 and 3 of R69 pass. -/
def loadedGrade (p : LoadGradeParams) : Option Grade :=
  match gradeKindOf p.kind, boolOf p.regulated with
  | some k, some r =>
    if p.deduction ≤ 200 ∧ textOk 1 12 p.name = true ∧ tiersOk p.tiers = true then
      some { name := p.name, kind := k, regulated := r, deduction := p.deduction,
             versions := [{ effective := 0, tiers := p.tiers }] }
    else none
  | _, _ => none

/-- LOAD GRADE; a tier count of 0 is the removal form (R69). -/
def loadGrade (p : LoadGradeParams) (s : State) : Reply :=
  if p.number = 0 ∨ 32 < p.number then reply .range s
  else if p.tiers = [] then reply .ok (setGrade p.number none s)
  else
    match loadedGrade p with
    | some g => reply .ok (setGrade p.number (some g) s)
    | none => reply .range s

def execLoadGrade (ps : List Byte) (s : State) : Host.Outcome State Fault Refusal :=
  .next (command (whileClosed 40 (upTo 6 42)) ps (withParams (readLoadGrade ps) loadGrade) s)

/-- ADD PRICE VERSION (R70, R71). -/
def addPriceVersion (p : AddVersionParams) (s : State) : Reply :=
  match (if p.number = 0 ∨ 32 < p.number then none else s.grade p.number) with
  | none => reply .range s
  | some g =>
    if Config.clockTop < p.effective ∨ tiersOk p.tiers = false then reply .range s
    else if p.effective < newestEffective g.versions then reply .order s
    else
      let v := withVersion { effective := p.effective, tiers := p.tiers } g.versions
      okWith ([byte v.1.length] ++ bytesOf 3 (v.2.getD 0)) (setGrade p.number (some { g with versions := v.1 }) s)

def execAddPriceVersion (ps : List Byte) (s : State) : Host.Outcome State Fault Refusal :=
  .next (command (always 41 [11, 17, 23, 29]) ps (withParams (readAddVersion ps) addPriceVersion) s)

/-- The day totals of a grade with their held mark (R83, log entry 67). -/
def GradeTotals.bytes (g : GradeTotals) : List Byte :=
  bytesOf 2 g.lines ++ bytesOf 4 g.paid ++ signedBytes 6 g.amount ++ [flagByte g.isHeld]

/-- A present entry as READ GRADE's part 0 reports it. -/
def Grade.bytes (g : Grade) : List Byte :=
  textBytes g.name ++ [byte g.kind.code, flagByte g.regulated, byte g.deduction, byte g.versions.length]
    ++ g.versions.flatMap (fun v => bytesOf 3 v.effective)

/-- One version as READ GRADE's parts 1-3 report it. -/
def Version.bytes (v : Version) : List Byte :=
  bytesOf 3 v.effective ++ [byte v.tiers.length] ++ v.tiers.flatMap (fun t => bytesOf 3 t.bound ++ bytesOf 3 t.price)

/-- READ GRADE's part 0: number, 1 present or 0 absent, the entry, the day totals (R83, log entry 10). -/
def gradeHead (n : Nat) (s : State) : List Byte :=
  (match s.grade n with
   | some g => [byte n, 1] ++ g.bytes
   | none => [byte n, 0]) ++ (s.gradeTotals n).bytes

/-- READ GRADE: a grade number and a part (R83). -/
def readGrade (p : Nat × Nat) (s : State) : Reply :=
  if p.1 = 0 ∨ 32 < p.1 ∨ 3 < p.2 then reply .range s
  else if p.2 = 0 then okWith (gradeHead p.1 s) s
  else
    match (s.grade p.1).bind (fun g => g.versions[p.2 - 1]?) with
    | some v => okWith v.bytes s
    | none => reply .range s

def execReadGrade (ps : List Byte) (s : State) : Host.Outcome State Fault Refusal :=
  .next (command (always 42 [2]) ps (withParams (readTwo 1 1 ps) readGrade) s)

end Sys2Proof.Machine
end

