-- ==== Sys2Proof/Machine/WeighCommands.lean ====
section
/-! DEFINITION. The weigh slot's commands: NEW TICKET, WEIGH STEP, VOID TICKET, WEIGH CANCEL, ZERO, READ WEIGHT (R40, R46,
R47, R50, R61, R65). -/

namespace Sys2Proof.Machine

/-- Role B, gated, while the day is OPEN (R200). -/
def weighOpen (code : Nat) (lengths : List Nat) : Acceptance :=
  { code := code, places := .weigh, whenClosed := false, whenOpen := true, gated := true, lengths := lengths }

/-- Role B, any day state, not gated (R200). -/
def weighAlways (code : Nat) (lengths : List Nat) : Acceptance := { always code lengths with places := .weigh }

/-- The first refusal of a list of checks, each its condition and code (R46, R141). -/
def firstRefusal : List (Bool × Result) → Option Result
  | [] => none
  | (fails, r) :: rest => if fails then some r else firstRefusal rest

/-! ### NEW TICKET (R46, R47) -/

/-- Checks 2 to 12 of R46 for NEW TICKET. -/
def newTicketRefusal (tag seller : Option Text) (s : State) : Option Result :=
  firstRefusal
    [(!(optTextOk 1 12 tag && optTextOk 1 16 seller), .range),
     (!gatePasses .newTicket s, .halted),
     (decide (s.link.state = .silent), .linkDown),
     (!s.tableRoom, .tableFull),
     (!s.registerRoom, .homeFull),
     (s.receiptBlocked, .printQueueFull)]

/-- An accepted NEW TICKET: the reservations are made and a capture with target NEW is asked for (R13, R47). -/
def beginNewTicket (tag seller : Option Text) (s : State) : State :=
  openCapture (.capture .newTicket) (s.onWeigh (fun _ =>
    some { phase := .capturing, kind := .newTicket tag seller, target := none, grant := .notYet, claimedStep := 0,
           reserved := true, closing := false }))

def newTicket (p : Text × Text) (s : State) : Reply :=
  match newTicketRefusal (given p.1) (given p.2) s with
  | some r => reply r s
  | none => reply .accepted (beginNewTicket (given p.1) (given p.2) s)

/-- A slot that runs an operation refuses another BUSY before anything else is looked at (R46, R141). -/
def unlessBusy (slot : SlotId) (body : State → Reply) (s : State) : Reply :=
  if s.slotBusy slot then reply .busy s else body s

def execNewTicket (ps : List Byte) (s : State) : Host.Outcome State Fault Refusal :=
  .next (command (weighOpen 20 (upTo 2 30)) ps (unlessBusy .weigh (withParams (readNewTicket ps) newTicket)) s)

/-! ### WEIGH STEP and VOID TICKET (R46, R50, R61) -/

/-- Checks 4, 5, 6 and 8 of R46 and R141 on a ticket, with check 7 as the lives it admits, and what follows them. -/
def ticketRefusal (t : TicketNo) (lifeSuits : Life → Bool) (later : Record → List (Bool × Result)) (s : State) : Option Result :=
  if s.isClosed t then some .closed
  else
    match s.findRecord t with
    | none => some .noTicket
    | some r =>
      firstRefusal ([(r.stale, .stale), (!lifeSuits r.life, .notAllowed), (decide (r.custody ≠ .free), .busy)] ++ later r)

/-- The answer to a slot command with this refusal; STALE offers the ticket's ASK again (R100). -/
def refuse (t : TicketNo) (r : Result) (s : State) : Reply := reply r (if r = .stale then askAgain t s else s)

/-- The step of the ticket's record at the claim request (R114). -/
def State.stepOf (t : TicketNo) (s : State) : Nat :=
  match s.findRecord t with
  | some r => r.step
  | none => 0

/-- A WEIGH STEP's operation record (R44). -/
def weighStepOp (p : WeighStepParams) (final : Bool) (step : Nat) : WeighOp :=
  { phase := .claiming, kind := .weighStep p.grade p.deduction final, target := some p.ticket, grant := .notYet,
    claimedStep := step, reserved := false, closing := false }

/-- The parameters of a WEIGH STEP are in range, its grade present (check 2 of R46); the final mark is
0 or 1 (log entry 68). -/
def weighStepOk (p : WeighStepParams) (s : State) : Bool :=
  ticketOk p.ticket && decide (1 ≤ p.grade) && decide (p.grade ≤ 32) && (s.grade p.grade).isSome
    && decide (p.deduction ≤ 500) && (boolOf p.final).isSome

/-- The record has no line for this step: the eighth line is the final step's, and there is no ninth (R6, R59, log entry
51). -/
def linesFull (final : Nat) (r : Record) : Bool :=
  decide (7 ≤ r.lines.length) && decide (final ≠ 1) || decide (Config.lineCapacity ≤ r.lines.length)

/-- Checks 2 to 12 of R46 for WEIGH STEP. -/
def weighStepRefusal (p : WeighStepParams) (s : State) : Option Result :=
  match firstRefusal [(!weighStepOk p s, .range), (!gatePasses .weighStep s, .halted)] with
  | some r => some r
  | none =>
    ticketRefusal p.ticket (fun l => decide (l = .opened))
      (fun r => [(linesFull p.final r, .linesFull), (s.receiptBlocked, .printQueueFull)]) s

def weighStep (p : WeighStepParams) (s : State) : Reply :=
  match weighStepRefusal p s with
  | some r => refuse p.ticket r s
  | none =>
    let sub : Subject := { ticket := p.ticket, purpose := .weigh, step := s.stepOf p.ticket }
    let a := requestClaim .weigh sub (fun s => s.onWeigh (fun _ => some (weighStepOp p (decide (p.final = 1)) sub.step))) s
    reply a.1 a.2

def execWeighStep (ps : List Byte) (s : State) : Host.Outcome State Fault Refusal :=
  .next (command (weighOpen 21 [7]) ps (unlessBusy .weigh (withParams (readWeighStep ps) weighStep)) s)

/-- The slot that runs a void, from the role and the record's life (R61). -/
def State.voidSlot (t : TicketNo) (s : State) : SlotId :=
  match s.role with
  | some .window => .pay
  | some .both =>
    match s.findRecord t with
    | some r => if r.life = .complete then .pay else .weigh
    | none => .weigh
  | _ => .weigh

/-- A void's operation record is put in its slot (R44, R139). -/
def openVoid (slot : SlotId) (t : TicketNo) (step : Nat) (s : State) : State :=
  match slot with
  | .weigh =>
    s.onWeigh (fun _ =>
      some { phase := .claiming, kind := .void, target := some t, grant := .notYet, claimedStep := step,
             reserved := false, closing := false })
  | .pay =>
    s.onPay (fun _ =>
      some { isVoid := true, target := t, given := none, placeholder := none, grant := .notYet, claimedStep := step,
             closing := false, offer := none, confirm := none })

/-- Checks 2 to 12 of R46 for VOID TICKET. -/
def voidRefusal (t : TicketNo) (s : State) : Option Result :=
  match firstRefusal [(!ticketOk t, .range), (!gatePasses .voidTicket s, .halted)] with
  | some r => some r
  | none => ticketRefusal t (fun _ => true) (fun _ => [(s.receiptBlocked, .printQueueFull)]) s

def voidTicket (t : TicketNo) (s : State) : Reply :=
  let slot := s.voidSlot t
  unlessBusy slot (fun s =>
    match voidRefusal t s with
    | some r => refuse t r s
    | none =>
      let sub : Subject := { ticket := t, purpose := .void, step := s.stepOf t }
      let a := requestClaim slot sub (openVoid slot t sub.step) s
      reply a.1 a.2) s

def execVoidTicket (ps : List Byte) (s : State) : Host.Outcome State Fault Refusal :=
  .next (command { always 22 [3] with whenClosed := false, gated := true } ps (withParams (readTicketOnly ps) voidTicket) s)

/-! ### WEIGH CANCEL (R65) -/

def weighCancel (s : State) : Reply :=
  match s.weigh with
  | none => reply .notAllowed s
  | some o =>
    match o.target with
    | some t =>
      reply .ok (if o.phase = .claiming then cancelClaim .weigh t s else endHold .weigh t .cancelled none 0 s)
    | none => reply .ok (endOp .weigh .cancelled none 0 s)

def execWeighCancel (ps : List Byte) (s : State) : Host.Outcome State Fault Refusal :=
  .next (command (weighAlways 23 [0]) ps weighCancel s)

/-! ### ZERO (R34) -/

/-- An accepted ZERO: the slot enters ZEROING and a ZERO context opens. -/
def beginZero (s : State) : State :=
  openCapture .zeroing (s.onWeigh (fun _ =>
    some { phase := .zeroing, kind := .zero, target := none, grant := .notYet, claimedStep := 0, reserved := false,
           closing := false }))

def zero (s : State) : Reply :=
  if gatePasses .zero s then reply .accepted (beginZero s) else reply .halted s

def execZero (ps : List Byte) (s : State) : Host.Outcome State Fault Refusal :=
  .next (command (weighAlways 24 [0]) ps (unlessBusy .weigh zero) s)

/-! ### READ WEIGHT (R40) -/

/-- Sample statuses, numbered in the order of R27. -/
def sampleCode : SampleStatus → Nat
  | .ok => 1
  | .overload => 2
  | .cellFault => 3
  | .converterFault => 4

/-- Overloaded: status OVERLOAD, or OK with a net value above capacity + 9d (R30, R40). -/
def isOverloaded (c : ScaleItems) (status : SampleStatus) (net : Int) : Bool :=
  match status with
  | .overload => true
  | .ok => decide ((c.capacity + 9 * c.division : Nat) < net)
  | _ => false

/-- A captured ticket or target: 0 absent, 1 a number, 2 NEW, then the number (log entry 10). -/
def targetBytes : Option Target → List Byte
  | none => [0, 0, 0, 0]
  | some (.ticket t) => byte 1 :: ticketBytes t
  | some .newTicket => [2, 0, 0, 0]

/-- A capture in progress: 0 none, 1 CAPTURE with its target, 2 ZERO; and its window count (log entry 10). -/
def contextBytes : Option CaptureContext → List Byte
  | none => [0, 0, 0, 0, 0, 0]
  | some c =>
    (match c.kind with
     | .capture t => byte 1 :: targetBytes (some t)
     | .zeroing => [2, 0, 0, 0, 0]) ++ [byte c.window.length]

/-- READ WEIGHT: the values of R40's table in its order; `deck clear` is 1 when set (log entry 64). -/
def readWeight (s : State) : Reply :=
  match s.scale.last with
  | none => reply .notReady s
  | some l =>
    let net := l.raw - s.scale.zero
    okWith (signedBytes 3 l.raw ++ [byte (sampleCode l.status)] ++ signedBytes 3 net
      ++ [flagByte (isOverloaded s.scale.inForce l.status net)] ++ bytesOf 2 l.age ++ signedBytes 2 s.scale.zero
      ++ [flagByte s.scale.deckClear] ++ targetBytes s.scale.captured ++ contextBytes s.scale.context) s

def execReadWeight (ps : List Byte) (s : State) : Host.Outcome State Fault Refusal :=
  .next (command (weighAlways 25 [0]) ps readWeight s)

end Sys2Proof.Machine
end

