-- ==== Sys2Proof/Machine/PayCommands.lean ====
section
/-! DEFINITION. The pay slot's and the drawer's commands: PAY, PAY CONFIRM, PAY CANCEL, READ OFFER, REFILL, SET
DENOMINATIONS, SET CASH LIMITS, READ DRAWER (R141 to R143, R151 to R156, R160). -/

namespace Sys2Proof.Machine

/-- Role W, any day state, not gated (R200). -/
def payAlways (code : Nat) (lengths : List Nat) : Acceptance := { always code lengths with places := .pay }

/-! ### PAY (R141 to R143) -/

/-- The seller reference test: what refuses the payout (R142). -/
def sellerRefusal (r : Record) (given : Option Text) : Option Result :=
  match r.seller, given with
  | some a, some b => if a = b then none else some .notAllowed
  | some _, none => none
  | none, some _ => none
  | none, none => if r.hasRegulated then some .sellerRequired else none

/-- Checks 2 to 10 of R141. -/
def payRefusal (t : TicketNo) (seller : Option Text) (s : State) : Option Result :=
  match firstRefusal [(!(ticketOk t && optTextOk 1 16 seller), .range), (!gatePasses .pay s, .halted)] with
  | some r => some r
  | none =>
    ticketRefusal t (fun l => decide (l = .complete))
      (fun r =>
        [((sellerRefusal r seller).isSome, (sellerRefusal r seller).getD .notAllowed), (s.receiptBlocked, .printQueueFull)]) s

/-- The placeholder of an accepted PAY with RECEIPT REQUIRED on (R143, R166). -/
def makePlaceholder (t : TicketNo) (s : State) : State :=
  if s.settings.receiptRequired then makeJob .voucher (some t) 0 .waiting [] s else s

/-- The number of the placeholder that `makePlaceholder` makes. -/
def State.placeholderNumber (s : State) : Option Nat :=
  if s.settings.receiptRequired then some s.printer.nextNumber else none

/-- A PAY's operation record (R139). -/
def payOpFor (t : TicketNo) (seller : Option Text) (placeholder : Option Nat) (step : Nat) : PayOp :=
  { isVoid := false, target := t, given := seller, placeholder := placeholder, grant := .notYet, claimedStep := step,
    closing := false, offer := none, confirm := none }

/-- A claim that the engine refuses takes the placeholder away with it (R143). -/
def withoutPlaceholder (job : Option Nat) (a : Result × State) : Reply :=
  match decide (a.1 = .accepted), job with
  | false, some n => reply a.1 (removeJob n a.2)
  | _, _ => reply a.1 a.2

def pay (p : TicketNo × Text) (s : State) : Reply :=
  let t := p.1
  let seller := given p.2
  match payRefusal t seller s with
  | some r => refuse t r s
  | none =>
    let job := s.placeholderNumber
    let sub : Subject := { ticket := t, purpose := .pay, step := s.stepOf t }
    withoutPlaceholder job
      (requestClaim .pay sub (fun s => s.onPay (fun _ => some (payOpFor t seller job sub.step))) (makePlaceholder t s))

def execPay (ps : List Byte) (s : State) : Host.Outcome State Fault Refusal :=
  .next (command { payAlways 30 (upTo 4 20) with whenClosed := false, gated := true } ps
    (unlessBusy .pay (withParams (readPay ps) pay)) s)

/-! ### PAY CONFIRM, PAY CANCEL, READ OFFER (R154, R156, R160) -/

def OfferClass.code : OfferClass → Nat
  | .cash => 1
  | .allTransfer => 2
  | .nothingPayable => 3
  | .amountDue => 4

/-- The voucher's job number in PAY CONFIRM's answer: the placeholder, the new job, or none (R154). -/
def State.voucherJob (o : PayOp) (s : State) : Nat :=
  match o.placeholder with
  | some n => n
  | none => s.jobOrNone

/-- The record an offer may be committed for: HELD by the pay slot, at the claimed step, not stale (R154). -/
def State.payable (o : PayOp) (s : State) : Option Record :=
  match s.findRecord o.target with
  | some r => if r.custody = .held .pay .pay ∧ r.step = o.claimedStep ∧ r.stale = false then some r else none
  | none => none

/-- PAY CONFIRM: it judges no ranges, so a number with home or serial 0 is a ticket other than the offer's (R1, R154). A record
that fails the check before the commit is answered NOT ALLOWED, the offer standing (log entry 56). -/
def payConfirm (t : TicketNo) (s : State) : Reply :=
  match s.payOp with
  | none => reply .notAllowed s
  | some o =>
    match o.offer with
    | none => reply .notAllowed s
    | some f =>
      match decide (o.target = t), s.payable o with
      | true, some r =>
        okWith (bytesOf 4 f.cash ++ signedBytes 4 f.transfer ++ [byte f.cls.code, byte (s.voucherJob o)]) (commitPay o r f s)
      | _, _ => reply .notAllowed s

def execPayConfirm (ps : List Byte) (s : State) : Host.Outcome State Fault Refusal :=
  .next (command (payAlways 31 [3]) ps (withParams (readTicketOnly ps) payConfirm) s)

/-- An offer ended by the host or the confirm timer, without a notice (R156). -/
def withdrawOffer (t : TicketNo) (s : State) : State := closeSlot .pay .ended (releaseHold .pay t s)

def payCancel (s : State) : Reply :=
  match s.payOp with
  | none => reply .notAllowed s
  | some o => reply .ok (if o.offer.isSome then withdrawOffer o.target s else cancelClaim .pay o.target s)

def execPayCancel (ps : List Byte) (s : State) : Host.Outcome State Fault Refusal :=
  .next (command (payAlways 32 [0]) ps payCancel s)

/-- A breakdown: a count and pairs of value and count. -/
def breakdownBytes (b : List (Nat × Nat)) : List Byte :=
  byte b.length :: b.flatMap (fun p => bytesOf 3 p.1 ++ bytesOf 2 p.2)

/-- The offer record in the order of R139 (R160, log entry 10); OFFLINE and seller present as log entry 67 says. -/
def Offer.bytes (f : Offer) : List Byte :=
  signedBytes 4 f.net ++ bytesOf 4 f.regulated.toNat ++ [byte f.cls.code] ++ bytesOf 4 f.cash ++ signedBytes 4 f.transfer
    ++ bytesOf 4 f.rPrime ++ bytesOf 4 f.unregulated ++ bytesOf 4 f.c0 ++ bytesOf 4 f.c1 ++ bytesOf 4 f.room
    ++ bytesOf 4 f.c2 ++ bytesOf 3 f.unit ++ bytesOf 4 f.c3 ++ bytesOf 4 f.residue ++ bytesOf 4 f.shortfall
    ++ breakdownBytes f.breakdown ++ bytesOf 4 f.limit ++ bytesOf 4 f.paidAtOffer
    ++ [flagByte f.offline, flagByte f.seller]

def readOffer (s : State) : Reply :=
  match s.payOp with
  | none => reply .notReady s
  | some o =>
    match o.offer with
    | none => reply .notReady s
    | some f => okWith (f.bytes ++ bytesOf 2 (o.confirm.getD 0 / 1000) ++ [byte (o.placeholder.getD 0)]) s

def execReadOffer (ps : List Byte) (s : State) : Host.Outcome State Fault Refusal :=
  .next (command (payAlways 33 [0]) ps readOffer s)

/-! ### The drawer commands (R151 to R153, R160) -/

/-- The drawer's denomination of a value takes a new count, and a new low mark when one is given (R151). -/
def setDenomination (v count : Nat) (mark : Option Nat) (s : State) : State :=
  s.onDrawer (fun d =>
    { d with
      denominations := d.denominations.map (fun p =>
        if p.value = v then { p with count := count, lowMark := mark.getD p.lowMark } else p) })

def refill (p : RefillParams) (s : State) : Reply :=
  match findDenomination p.value s.drawer.denominations with
  | none => reply .range s
  | some d =>
    if 9999 < p.change.natAbs ∨ 9999 < p.lowMark.getD 0 then reply .range s
    else if (d.count : Int) + p.change < 0 ∨ 9999 < (d.count : Int) + p.change then reply .range s
    else
      let count := ((d.count : Int) + p.change).toNat
      okWith (bytesOf 2 count) (judge .drawerLow (setDenomination p.value count p.lowMark s))

def execRefill (ps : List Byte) (s : State) : Host.Outcome State Fault Refusal :=
  .next (command { payAlways 34 [7] with gated := true } ps (fun s =>
    if s.offered then reply .busy s else withParams (readRefill ps) refill s) s)

/-- The list of SET DENOMINATIONS is in range (check 1 of R152). -/
def denominationsOk (l : List DenominationParams) : Bool :=
  l.all (fun p => decide (1 ≤ p.value) && decide (p.value ≤ 1000000) && (boolOf p.enabled).isSome && decide (p.lowMark ≤ 9999))
    && decide (l.length ≤ Config.drawerCapacity) && decide ((l.map DenominationParams.value).Nodup)

/-- The denomination a list entry makes of the present table: a value present before keeps its count (R152). -/
def newDenomination (old : List Denomination) (p : DenominationParams) : Denomination :=
  { value := p.value, enabled := decide (p.enabled = 1),
    count := ((findDenomination p.value old).map Denomination.count).getD 0, lowMark := p.lowMark }

/-- The table a list makes, largest value first. -/
def newDenominations (old : List Denomination) (l : List DenominationParams) : List Denomination :=
  l.foldl (fun t p => insertDenomination (newDenomination old p) t) []

def setDenominations (l : List DenominationParams) (s : State) : Reply :=
  if !denominationsOk l then reply .range s
  else if s.drawer.denominations.any (fun d =>
      decide (0 < d.count) && !(l.any (fun p => decide (p.value = d.value)))) then reply .notAllowed s
  else
    reply .ok (judge .drawerLow (s.onDrawer (fun d => { d with denominations := newDenominations d.denominations l })))

def execSetDenominations (ps : List Byte) (s : State) : Host.Outcome State Fault Refusal :=
  .next (command { payAlways 35 [1, 7, 13, 19, 25, 31, 37, 43] with whenOpen := false, gated := true } ps (fun s =>
    if s.offered then reply .busy s else withParams (readDenominations ps) setDenominations s) s)

def setCashLimits (p : Nat × Nat) (s : State) : Reply :=
  if 999999999 < p.1 ∨ p.1 < p.2 then reply .range s
  else reply .ok (judge .cashLimit (judge .cashWarn (s.onDrawer (fun d => { d with limit := p.1, warn := p.2 }))))

def execSetCashLimits (ps : List Byte) (s : State) : Host.Outcome State Fault Refusal :=
  .next (command (payAlways 36 [8]) ps (withParams (readTwo 4 4 ps) setCashLimits) s)

/-- The window day totals in the order of R159. -/
def WindowTotals.bytes (w : WindowTotals) : List Byte :=
  bytesOf 2 w.payouts ++ bytesOf 4 w.cash ++ bytesOf 5 w.transfer ++ bytesOf 4 w.residue ++ bytesOf 4 w.shortfall
    ++ bytesOf 2 w.offline ++ bytesOf 2 w.dueCount ++ bytesOf 4 w.dueSum

def readDrawer (s : State) : Reply :=
  okWith ([byte s.drawer.denominations.length]
    ++ s.drawer.denominations.flatMap (fun p => bytesOf 3 p.value ++ [flagByte p.enabled] ++ bytesOf 2 p.count ++ bytesOf 2 p.lowMark)
    ++ bytesOf 4 s.drawer.limit ++ bytesOf 4 s.drawer.warn ++ bytesOf 4 s.drawer.totals.cash ++ s.drawer.totals.bytes) s

def execReadDrawer (ps : List Byte) (s : State) : Host.Outcome State Fault Refusal :=
  .next (command (payAlways 37 [0]) ps readDrawer s)

/-! ### The confirm timer (R157) -/

/-- CONFIRM_TIMER_EXPIRY: the offer is ended as PAY CANCEL ends it, with a DONE notice TIMEOUT. -/
def execConfirmTimerExpiry (s : State) : Host.Outcome State Fault Refusal :=
  .next (match s.payOp with
    | none => s
    | some o =>
      match o.confirm with
      | none => s
      | some r =>
        powered (fun s =>
          postNotice (.done .pay .timeout (some o.target) none 0 0) (withdrawOffer o.target (elapse r s))) s)

end Sys2Proof.Machine
end

