-- ==== Sys2Proof/Machine/TicketCommands.lean ====
section
/-! DEFINITION. The lookups and RELEASE FOREIGN: READ TICKET, FIND BY TAG, LIST TICKETS, RELEASE FOREIGN (R21 to R23,
R136, R203). The layouts are those of log entry 10. -/

namespace Sys2Proof.Machine

/-! ### READ TICKET (R21) -/

/-- Part 0 of a full record; a yes/no byte for each record flag, OFFLINE first (log entry 66); tag present, seller reference
present, stale and pending broadcast coded as log entry 67 says. -/
def Record.headBytes (r : Record) : List Byte :=
  ticketBytes r.number ++ bytesOf 2 r.issueDay ++ [byte r.life.code, byte r.step] ++ bytesOf 3 r.grossIn
    ++ bytesOf 3 r.lastWeight ++ bytesOf 3 r.weighInTime ++ bytesOf 3 r.lastStepTime
    ++ [byte r.lines.length, flagByte r.tag.isSome, flagByte r.seller.isSome, flagByte r.offline, flagByte r.priceEarly,
        byte r.lastWriter] ++ r.custody.bytes ++ [flagByte r.stale, flagByte r.pendingBroadcast]

/-- A line with all its fields, its flags PRICE EARLY and OFFLINE a yes/no byte each (log entry 66); an absent local part is
0. -/
def Line.bytes (l : Line) : List Byte :=
  [byte l.index, byte l.grade, byte l.kind.code, flagByte l.regulated] ++ bytesOf 3 l.net ++ bytesOf 2 l.deduction
    ++ bytesOf 3 l.paid ++ bytesOf 3 l.price ++ signedBytes 4 l.amount ++ [flagByte l.priceEarly, flagByte l.offline]
    ++ (match l.localPart with
        | some p => bytesOf 2 p.lineDeduction ++ [byte p.gradeDeduction, byte p.tier]
        | none => [0, 0, 0, 0])

/-- A closed-list entry: number, outcome, cash, transfer, settling station, seller present (log entry 67). -/
def ClosedEntry.bytes (e : ClosedEntry) : List Byte :=
  ticketBytes e.number ++ e.closure.bytes
    ++ [match e.closure with
        | .settled _ _ _ station _ => byte station
        | .elsewhere => 0] ++ [e.closure.sellerByte]

/-- A register entry: number, life, step, holder, issue day, and the mark that it is one. -/
def RegEntry.bytes (t : TicketNo) (e : RegEntry) : List Byte :=
  ticketBytes t ++ [byte e.life.code, byte e.step, byte e.holder] ++ bytesOf 2 e.issueDay ++ [1]

/-- A part of a full record; none when the record has no such part. -/
def Record.part (r : Record) (n : Nat) : Option (List Byte) :=
  if n = 0 then some r.headBytes
  else if n = 9 then some (optTextBytes r.tag ++ optTextBytes r.seller)
  else (r.lines[n - 1]?).map Line.bytes

/-- READ TICKET: the first collection that knows the ticket answers (R21). -/
def readTicket (p : TicketNo × Nat) (s : State) : Reply :=
  if !ticketOk p.1 || decide (9 < p.2) then reply .range s
  else
    match s.findRecord p.1, s.closedEntry p.1, s.regEntry p.1 with
    | some r, _, _ =>
      match r.part p.2 with
      | some bs => okWith bs s
      | none => reply .range s
    | none, some e, _ => (s, byte Result.closed.code :: e.bytes)
    | none, none, some e => if p.2 = 0 then okWith (RegEntry.bytes p.1 e) s else reply .noTicket s
    | none, none, none => reply .noTicket s

def execReadTicket (ps : List Byte) (s : State) : Host.Outcome State Fault Refusal :=
  .next (command (always 50 [4]) ps (withParams (readTicketAndByte ps) readTicket) s)

/-! ### FIND BY TAG (R22) -/

def findByTag (tag : Text) (s : State) : Reply :=
  if textOk 1 12 tag then
    match s.tickets.table.find? (fun r => decide (r.tag = some tag)) with
    | some r => okWith r.headBytes s
    | none => reply .noTicket s
  else reply .range s

def execFindByTag (ps : List Byte) (s : State) : Host.Outcome State Fault Refusal :=
  .next (command (always 51 (upTo 1 13)) ps (withParams (readTextOnly ps) findByTag) s)

/-! ### LIST TICKETS (R23, R203) -/

/-- The records after the cursor, in table order. -/
def afterCursor (cursor : Option TicketNo) (table : List Record) : List Record :=
  match cursor with
  | none => table
  | some t => (table.dropWhile (fun r => decide (r.number ≠ t))).drop 1

/-- A record's summary; its record flags a yes/no byte each (log entry 66), its marks as log entry 67 says. -/
def Record.summary (r : Record) : List Byte :=
  ticketBytes r.number ++ [byte r.life.code, byte r.step] ++ r.custody.bytes
    ++ [flagByte r.stale, flagByte r.pendingBroadcast, flagByte r.offline, flagByte r.priceEarly, flagByte r.tag.isSome]

/-- One step of the walk: up to 4 records; MORE moves the cursor to the last reported, END returns it to the start.
The restart parameter is 0 or 1 (log entry 68). -/
def listTickets (restart : Bool) (s : State) : Reply :=
  let rest := afterCursor (if restart then none else s.tickets.cursor) s.tickets.table
  let told := rest.take Config.listStep
  let more := decide (Config.listStep < rest.length)
  let cursor := if more then told.getLast?.map Record.number else none
  okWith ([if more then 1 else 2, byte told.length] ++ told.flatMap Record.summary)
    (s.onTickets (fun k => { k with cursor := cursor }))

def execListTickets (ps : List Byte) (s : State) : Host.Outcome State Fault Refusal :=
  .next (command (always 52 [1]) ps (withParams ((readOne 1 ps).bind boolOf) listTickets) s)

/-! ### RELEASE FOREIGN (R136) -/

/-- Who holds the ticket: the station a TAKEN record names, else another station that the register entry names. The entry
counts without a record, and beside a record that is not TAKEN (log entry 55). -/
def State.foreignHolder (t : TicketNo) (s : State) : Option Nat :=
  match s.findRecord t, s.regEntry t with
  | some r, e =>
    match r.custody, e with
    | .taken h _, _ => some h
    | _, some e => if e.holder ≠ 0 ∧ e.holder ≠ s.myId then some e.holder else none
    | _, none => none
  | none, some e => if e.holder ≠ 0 ∧ e.holder ≠ s.myId then some e.holder else none
  | none, none => none

/-- The ticket form. A record that is not TAKEN stays as it is, its entry alone taking holder 0 (log entry 55). -/
def releaseTicket (t : TicketNo) (s : State) : Reply :=
  if !ticketOk t then reply .range s
  else if (s.findRecord t).isNone && (s.regEntry t).isNone then reply .noTicket s
  else
    match s.foreignHolder t with
    | none => reply .notAllowed s
    | some h => if s.present h then reply .notAllowed s else reply .ok (setHolder t 0 (freeTaken t s))

/-- Records TAKEN by a station and entries it holds. -/
def State.heldBy (x : Nat) (s : State) : Nat :=
  (s.tickets.table.filter (fun r =>
    match r.custody with
    | .taken h _ => decide (h = x)
    | _ => false)).length + (s.tickets.register.filter (fun e => decide (e.holder = x))).length

/-- The station form. -/
def releaseStation (x : Nat) (s : State) : Reply :=
  if x = 0 ∨ 15 < x ∨ x = s.myId then reply .range s
  else if s.present x then reply .notAllowed s
  else okWith (bytesOf 2 (s.heldBy x)) (freeHolds x s)

/-- RELEASE FOREIGN: 3 bytes name a ticket, 1 byte a station (R136, log entry 9); it works in WAIT ID too (log entry
62). -/
def releaseForeign (ps : List Byte) (s : State) : Reply :=
  match readTicketOnly ps, readOne 1 ps with
  | some t, _ => releaseTicket t s
  | none, some x => releaseStation x s
  | none, none => reply .range s

def execReleaseForeign (ps : List Byte) (s : State) : Host.Outcome State Fault Refusal :=
  .next (command { always 53 [1, 3] with gated := true } ps (releaseForeign ps) s)

end Sys2Proof.Machine
end

