-- ==== Sys2Proof/Machine/LinkCommands.lean ====
section
/-! DEFINITION. READ LINK and READ ROSTER (R112), and the events of the link's timers (R97, R102, R103, R106, R109, R111,
R119). -/

namespace Sys2Proof.Machine

/-! ### READ LINK, READ ROSTER (R112) -/

/-- The link states in the order of R102. -/
def LinkState.code : LinkState → Nat
  | .joining => 1
  | .alone => 2
  | .up => 3
  | .down => 4
  | .silent => 5

/-- Frames held in DOWN and SILENT (R106, R108). -/
def State.heldFrames (s : State) : Nat :=
  if s.linkHolds then (s.link.queue.filter QueueItem.isHeld).length else 0

/-- READ LINK's values; the clear parameter returns the CRC error count to 0 after reporting it.
The clear parameter is 0 or 1 (log entry 68); the restart mark owed is told as log entry 67 says. -/
def readLink (clear : Bool) (s : State) : Reply :=
  okWith [byte s.link.state.code, byte s.myId, byte s.identity.straps.rateCode, byte s.occupied, byte s.closingPlaces,
    byte s.heldFrames, byte s.link.undelivered, flagByte s.link.restartOwed,
    byte (s.link.roster.filter Peer.present).length, byte s.link.crcErrors]
    (if clear then s.onLink (fun l => { l with crcErrors := 0 }) else s)

def execReadLink (ps : List Byte) (s : State) : Host.Outcome State Fault Refusal :=
  .next (command (always 60 [1]) ps (withParams ((readOne 1 ps).bind boolOf) readLink) s)

/-- A roster entry with all its values; an unknown value is 0. A table load is 0 while unknown (R110, R196).
The present mark is told as log entry 67 says. -/
def Peer.bytes (p : Peer) : List Byte :=
  [byte p.id, byte (optCode Role.code p.role)] ++ bytesOf 2 (p.dayNumber.getD 0)
    ++ [byte (optCode dayStateCode p.dayOpen), byte (p.tableLoad.getD 0), flagByte p.present] ++ bytesOf 2 p.sinceHeard

def readRoster (s : State) : Reply := okWith (byte s.link.roster.length :: s.link.roster.flatMap Peer.bytes) s

def execReadRoster (ps : List Byte) (s : State) : Host.Outcome State Fault Refusal :=
  .next (command (always 61 [0]) ps readRoster s)

/-! ### Timers -/

/-- CLAIM_WINDOW_EXPIRY: the window count of the slot's claim timer has run out (R119). -/
def execClaimWindowExpiry (slot : SlotId) (s : State) : Host.Outcome State Fault Refusal :=
  .next (match (s.claimTimer slot).count with
    | none => s
    | some r => powered (fun s => windowExpired slot (elapse r s)) s)

/-- JOIN_TIMER_EXPIRY: UP with a present peer, ALONE without; the ANNOUNCE timer starts, an ANNOUNCE is queued and
pending records are fed (R103). -/
def joined (s : State) : State :=
  let st : LinkState := if s.anyPresent then .up else .alone
  feedPending (sendAnnounce (s.onLink (fun l =>
    { l with state := st, joinTimer := none, announceTimer := some Config.announceMs, undelivered := 0 })))

def execJoinTimerExpiry (s : State) : Host.Outcome State Fault Refusal :=
  .next (match s.link.joinTimer with
    | none => s
    | some r => powered (fun s => joined (elapse r s)) s)

/-- ANNOUNCE falls due: queued or updated in ALONE and UP, a probe in DOWN, in place of one that still waits for the bus
(R91, R106, R109, log entry 48). -/
def announceDue (s : State) : State :=
  match s.link.state with
  | .up | .alone => sendAnnounce s
  | .down => s.onLink (fun l => { l with probe := some s.announceValues })
  | .joining | .silent => s

/-- ANNOUNCE_TIMER_EXPIRY: the timer starts again (R109). -/
def execAnnounceTimerExpiry (s : State) : Host.Outcome State Fault Refusal :=
  .next (match s.link.announceTimer with
    | none => s
    | some r =>
      powered (fun s => announceDue ((elapse r s).onLink (fun l => { l with announceTimer := some Config.announceMs }))) s)

/-- A peer becomes absent; the last one in UP leads to ALONE (R102, R111). -/
def peerAbsent (x : Nat) (s : State) : State :=
  let s := postPeer x .absent (modifyPeer x (fun p => { p with present := false }) s)
  if s.link.state = .up ∧ s.anyPresent = false then enterSending .alone s else s

/-- PEER_PRESENCE_TIMEOUT: 3 s have passed without a good frame from a present peer (R111). -/
def execPeerPresenceTimeout (x : Nat) (s : State) : Host.Outcome State Fault Refusal :=
  .next (match s.peer x with
    | some p =>
      if p.present then powered (fun s => peerAbsent x (elapse (Config.presenceMs - p.sinceHeard) s)) s else s
    | none => s)

/-- UP_ALONE_TIMEOUT: 3 s have passed in UP with no peer present (R102). -/
def execUpAloneTimeout (s : State) : Host.Outcome State Fault Refusal :=
  .next (match s.link.upAlone with
    | none => s
    | some r => powered (fun s => enterSending .alone (elapse r s)) s)

/-- REASSEMBLY_TIMEOUT: the timer of a COLLECTING context expires (R97). -/
def execReassemblyTimeout (x : Nat) (s : State) : Host.Outcome State Fault Refusal :=
  .next (match s.contextOf x with
    | none => s
    | some c => powered (fun s => breakContext x (elapse c.timer s)) s)

end Sys2Proof.Machine
end

