-- ==== Sys2Proof/Machine/LinkEvents.lean ====
section
/-! DEFINITION. The events of the wire: own frames, and the frames of peers (R86 to R93, R108). -/

namespace Sys2Proof.Machine

/-! ### Own frames -/

/-- FRAME_START: the bus is idle and the station starts a frame (R85, R91). -/
def execFrameStart (s : State) : Host.Outcome State Fault Refusal := .next (powered startFrame s)

/-- ARBITRATION_LOST (R87). -/
def execArbitrationLost (s : State) : Host.Outcome State Fault Refusal := .next (powered loseArbitration s)

/-- ATTEMPT_END with the level read in the acknowledge slot (R88, R93). -/
def execAttemptEnd (acknowledged : Bool) (s : State) : Host.Outcome State Fault Refusal :=
  .next (powered (endAttempt acknowledged) s)

/-- TRANSMIT_TIMEOUT of the item at a position of the queue's order (R93, log entry 28). -/
def execTransmitTimeout (position : Nat) (s : State) : Host.Outcome State Fault Refusal :=
  .next (match s.link.queue[position]? with
    | none => s
    | some i =>
      match i.timeout with
      | none => s
      | some r => powered (fun s => timeoutAt position i (elapse r s)) s)

/-- ID_CONFLICT_DETECTED: a bit read on the wire differs from the bit this station drives after the sender field (R87,
R108). -/
def execIdConflictDetected (s : State) : Host.Outcome State Fault Refusal :=
  .next (powered (fun s => if s.link.wire.isSome then enterSilent .bit s else s) s)

/-! ### Frames of peers -/

/-- BAD_CRC_FRAME: dropped without acknowledgement, counted up to 255 (R88). -/
def execBadCrcFrame (s : State) : Host.Outcome State Fault Refusal :=
  .next (powered (fun s => driveAck false (s.onLink (fun l => { l with crcErrors := min 255 (l.crcErrors + 1) }))) s)

/-- A malformed frame with a good CRC, acknowledged: it refreshes its sender and breaks its reassembly (R89). -/
def receiveMalformed (x : Nat) (s : State) : State :=
  let s := driveAck true s
  if x = 0 ∨ 15 < x ∨ x = s.myId then s else breakContext x (refreshPeer x s)

def execMalformedFrame (x : Nat) (s : State) : Host.Outcome State Fault Refusal := .next (powered (receiveMalformed x) s)

def execClaimReceived (x : Nat) (payload : List Byte) (s : State) : Host.Outcome State Fault Refusal :=
  .next (powered (receive .claim x payload) s)

def execObjectReceived (x : Nat) (payload : List Byte) (s : State) : Host.Outcome State Fault Refusal :=
  .next (powered (receive .object x payload) s)

def execReleaseReceived (x : Nat) (payload : List Byte) (s : State) : Host.Outcome State Fault Refusal :=
  .next (powered (receive .release x payload) s)

def execClosedReceived (x : Nat) (payload : List Byte) (s : State) : Host.Outcome State Fault Refusal :=
  .next (powered (receive .closed x payload) s)

def execHeadReceived (x : Nat) (payload : List Byte) (s : State) : Host.Outcome State Fault Refusal :=
  .next (powered (receive .head x payload) s)

def execLineReceived (x : Nat) (payload : List Byte) (s : State) : Host.Outcome State Fault Refusal :=
  .next (powered (receive .line x payload) s)

def execNoteReceived (x : Nat) (payload : List Byte) (s : State) : Host.Outcome State Fault Refusal :=
  .next (powered (receive .note x payload) s)

def execAskReceived (x : Nat) (payload : List Byte) (s : State) : Host.Outcome State Fault Refusal :=
  .next (powered (receive .ask x payload) s)

def execAnnounceReceived (x : Nat) (payload : List Byte) (s : State) : Host.Outcome State Fault Refusal :=
  .next (powered (receive .announce x payload) s)

end Sys2Proof.Machine
end

