-- ==== Sys2Proof/Machine/PrinterCommands.lean ====
section
/-! DEFINITION. The receipt unit's commands and the printer's lines: REPRINT, PRINT TEXT, CANCEL JOB, PRINTER LOAN,
RECLAIM, the header, READ PRINTER, HAND_CODE, BUSY, PAPER OUT and FAULT (R171, R173 to R182). -/

namespace Sys2Proof.Machine

/-! ### REPRINT (R179) -/

/-- The kinds REPRINT takes, numbered as R202 numbers receipts. -/
def copyKindOf : Nat → Option ReceiptKind
  | 1 => some .weighSlip
  | 2 => some .ticket
  | 3 => some .voucher
  | 4 => some .voidSlip
  | _ => none

/-- The copy count of a ticket and kind in the reprint list. -/
def copiesMade (t : TicketNo) (k : ReceiptKind) (l : List Reprint) : Nat :=
  match l.find? (fun e => decide (e.ticket = t ∧ e.kind = k)) with
  | some e => e.copies
  | none => 0

/-- The reprint list after one more copy: its entry at the newest place, the oldest of 8 leaving for a new entry. -/
def withCopy (t : TicketNo) (k : ReceiptKind) (l : List Reprint) : List Reprint :=
  let rest := l.filter (fun e => !decide (e.ticket = t ∧ e.kind = k))
  (if rest.length = l.length ∧ Config.reprintCapacity ≤ l.length then rest.drop 1 else rest)
    ++ [{ ticket := t, kind := k, copies := min 255 (copiesMade t k l + 1) }]

/-- The lines of a copy with this copy number, or the refusal (R179). -/
def copyLines (t : TicketNo) (k : ReceiptKind) (copy : Nat) (s : State) : Except Result (List Text) :=
  match k with
  | .weighSlip | .ticket =>
    match s.closedEntry t, s.findRecord t with
    | some _, _ => .error .closed
    | none, none => .error .noTicket
    | none, some r =>
      if k = .weighSlip then .ok (weighSlipLines copy r s)
      else if r.life = .complete then .ok (ticketLines copy r s)
      else .error .notAllowed
  | _ =>
    match s.closedEntry t with
    | none => .error .noTicket
    | some e =>
      match k, e.closure with
      | .voucher, .settled .paid cash transfer station _ => .ok (voucherCopyLines copy t cash transfer station s)
      | .voidSlip, .settled .voided _ _ station _ => .ok (voidCopyLines copy t station s)
      | _, _ => .error .notAllowed

def reprint (p : TicketNo × Nat) (s : State) : Reply :=
  match ticketOk p.1, copyKindOf p.2 with
  | true, some k =>
    let copy := min 255 (copiesMade p.1 k s.printer.reprints + 1)
    match copyLines p.1 k copy s with
    | .error r => reply r s
    | .ok lines =>
      if s.printRoom then
        okWith [byte s.printer.nextNumber, byte copy]
          ((makeJob k (some p.1) copy .queued lines s).onPrinter (fun q => { q with reprints := withCopy p.1 k q.reprints }))
      else reply .printQueueFull s
  | _, _ => reply .range s

def execReprint (ps : List Byte) (s : State) : Host.Outcome State Fault Refusal :=
  .next (command (always 70 [4]) ps (withParams (readTicketAndByte ps) reprint) s)

/-! ### PRINT TEXT, CANCEL JOB (R171, R180) -/

def printText (t : Text) (s : State) : Reply :=
  if textOk 1 40 t then
    if s.printRoom then okWith [byte s.printer.nextNumber] (makeJob .text none 0 .queued (textLines t s) s)
    else reply .printQueueFull s
  else reply .range s

def execPrintText (ps : List Byte) (s : State) : Host.Outcome State Fault Refusal :=
  .next (command (always 71 (upTo 1 41)) ps (withParams (readTextOnly ps) printText) s)

/-- The job has left the queue: its receipt on the port is cut, a STOPPED port is READY again (R180). -/
def afterCancel (state : JobState) (p : Printer) : Printer :=
  match state with
  | .printing => { p with stream := [12], leadLine := false }
  | .suspended => if p.port = .stopped then { p with port := .ready } else p
  | _ => p

def cancelJob (n : Nat) (s : State) : Reply :=
  match s.printer.jobs.find? (fun j => decide (j.number = n)) with
  | none => reply .range s
  | some j =>
    if j.state = .waiting then reply .notAllowed s
    else reply .ok ((removeJob n s).onPrinter (afterCancel j.state))

def execCancelJob (ps : List Byte) (s : State) : Host.Outcome State Fault Refusal :=
  .next (command (always 72 [1]) ps (withParams (readOne 1 ps) cancelJob) s)

/-! ### PRINTER LOAN, RECLAIM (R181) -/

def printerLoan (s : State) : Reply :=
  match s.printer.port with
  | .ready | .stopped => reply .ok (s.onPrinter (fun p => { p with port := .loaned, dataLines := none }))
  | .printing => reply .ok (s.onPrinter (fun p => { p with port := .loanPending }))
  | .loanPending | .loaned => reply .notAllowed s

def execPrinterLoan (ps : List Byte) (s : State) : Host.Outcome State Fault Refusal :=
  .next (command (always 73 [0]) ps printerLoan s)

/-- A job is SUSPENDED. -/
def Printer.hasSuspended (p : Printer) : Bool := p.jobs.any (fun j => decide (j.state = .suspended))

/-- RECLAIM from LOANED: the lines are driven again; a FAULT found active latches (R178, R181). -/
def endLoan (s : State) : State :=
  judge .printerFault (s.onPrinter (fun p =>
    { p with port := if p.hasSuspended then .stopped else .ready, dataLines := some 0 }))

def reclaim (s : State) : Reply :=
  match s.printer.port with
  | .loaned => reply .ok (endLoan s)
  | .loanPending => reply .ok (s.onPrinter (fun p => { p with port := .printing }))
  | .ready | .printing | .stopped => reply .notAllowed s

def execReclaim (ps : List Byte) (s : State) : Host.Outcome State Fault Refusal :=
  .next (command (always 74 [0]) ps reclaim s)

/-! ### Header lines (R173) -/

/-- The header lines change in one. -/
def setHeader (lines : List Text) (s : State) : State := s.onPrinter (fun p => { p with header := lines, load := none })

/-- HEADER BEGIN: a count of 0-4 and, from 1 on, the first line. -/
def headerBegin (p : Nat × Text) (s : State) : Reply :=
  if Config.headerCapacity < p.1 ∨ textOk 0 40 p.2 = false then reply .range s
  else if p.1 = 0 then reply .ok (setHeader [] s)
  else if p.1 = 1 then reply .ok (setHeader [p.2] s)
  else okWith [byte (p.1 - 1)] (s.onPrinter (fun q => { q with load := some { staged := [p.2], expected := p.1 - 1 } }))

def execHeaderBegin (ps : List Byte) (s : State) : Host.Outcome State Fault Refusal :=
  .next (command (whileClosed 75 (upTo 1 42)) ps (withParams (readHeaderBegin ps) headerBegin) s)

/-- HEADER CONTINUE: one line's text; a refusal abandons the load. -/
def headerContinue (text : Option Text) (s : State) : Reply :=
  match text, s.printer.load with
  | none, _ => reply .range (abandonLoad s)
  | some t, load =>
    if textOk 0 40 t then
      match load with
      | none => reply .notAllowed s
      | some h =>
        if h.expected ≤ 1 then okWith [0] (setHeader (h.staged ++ [t]) s)
        else
          okWith [byte (h.expected - 1)]
            (s.onPrinter (fun q => { q with load := some { staged := h.staged ++ [t], expected := h.expected - 1 } }))
    else reply .range (abandonLoad s)

/-- HEADER CONTINUE is the one command that leaves an open header load standing (R199). -/
def execHeaderContinue (ps : List Byte) (s : State) : Host.Outcome State Fault Refusal :=
  .next (powered (endFrame (commandBits 76 ps) (actOn (always 76 (upTo 1 41)) ps (headerContinue (readTextOnly ps)))) s)

/-! ### READ PRINTER (R182) -/

def PrinterState.code : PrinterState → Nat
  | .ready => 1
  | .printing => 2
  | .stopped => 3
  | .loanPending => 4
  | .loaned => 5

def JobState.code : JobState → Nat
  | .waiting => 1
  | .queued => 2
  | .printing => 3
  | .suspended => 4

/-- A job as READ PRINTER reports it: lines sent is 0 unless it is PRINTING. -/
def Job.bytes (j : Job) : List Byte :=
  [byte j.number, byte j.kind.code] ++ optTicketBytes j.ticket
    ++ [byte j.copy, byte j.restarts, byte j.state.code, byte j.lines.length,
        byte (if j.state = .printing then j.sent else 0)]

/-- READ PRINTER. Part 0: the levels of BUSY, PAPER OUT and FAULT and the stalled mark, 1 active or set and 0 otherwise (R182;
the coding is the model's, log entry 67), and the jobs; parts 1 to 4: a header line. -/
def readPrinter (part : Nat) (s : State) : Reply :=
  if part = 0 then
    okWith ([byte s.printer.port.code, flagByte s.printer.busy, flagByte s.printer.paperOut, flagByte s.printer.fault,
      flagByte s.printer.stalled, byte s.printer.nextJob, byte s.printer.jobs.length] ++ s.printer.jobs.flatMap Job.bytes) s
  else if Config.headerCapacity < part then reply .range s
  else
    match s.printer.header[part - 1]? with
    | some t => okWith (textBytes t) s
    | none => reply .notReady s

def execReadPrinter (ps : List Byte) (s : State) : Host.Outcome State Fault Refusal :=
  .next (command (always 77 [1]) ps (withParams (readOne 1 ps) readPrinter) s)

/-! ### The printer's lines (R174 to R178) -/

/-- The next code of the receipt on the port is handed: placed on the data lines, one strobe, taken (R174). -/
def handCode (s : State) : State :=
  match s.printer.port, s.printer.busy, s.printer.stream with
  | .printing, false, c :: rest | .loanPending, false, c :: rest =>
    let s := s.onPrinter (fun p => { p with stream := rest, dataLines := some c, strobes := p.strobes + 1 })
    if c = 12 then finishReceipt s
    else if c = 10 then s.onPrinter countLine
    else s
  | _, _, _ => s

/-- HAND_CODE: nothing is handed while BUSY is active or the port has no code to hand. -/
def execHandCode (s : State) : Host.Outcome State Fault Refusal := .next (powered handCode s)

/-- An input pin of the printer port changes; without power nothing else does (log entry 4). -/
def printerPin (f : Printer → Printer) (after : State → State) (s : State) : State :=
  if s.powered then settle (after (s.onPrinter f)) else s.onPrinter f

/-- BUSY_ACTIVE: the stall timer then runs while a code is to hand (R178). -/
def execBusyActive (s : State) : Host.Outcome State Fault Refusal :=
  .next (printerPin (fun p => { p with busy := true }) id s)

/-- BUSY_INACTIVE: the stall ends, and a job that waited for BUSY to release may restart (R178). -/
def execBusyInactive (s : State) : Host.Outcome State Fault Refusal :=
  .next (printerPin (fun p => { p with busy := false, stalled := false, stall := none }) id s)

/-- STALL_TIMER_EXPIRY: the port is stalled, PRINTER FAULT is latched and the printing job suspended (R175, R178). -/
def execStallTimerExpiry (s : State) : Host.Outcome State Fault Refusal :=
  .next (match s.printer.stall with
    | none => s
    | some r =>
      powered (fun s =>
        suspendJob true (judge .printerFault ((elapse r s).onPrinter (fun p => { p with stall := none, stalled := true })))) s)

/-- PAPER OUT becomes active: a printing job is suspended and reported (R177). -/
def paperOut (s : State) : State :=
  match s.printer.printingJob with
  | some j =>
    if s.printer.port = .printing ∨ s.printer.port = .loanPending then
      postNotice (.printed j.number j.kind j.ticket .paperOut) (suspendJob false s)
    else suspendJob false s
  | none => suspendJob false s

def execPaperOutActive (s : State) : Host.Outcome State Fault Refusal :=
  .next (if s.printer.paperOut then s else printerPin (fun p => { p with paperOut := true }) paperOut s)

/-- PAPER_OUT_CLEAR: the printer may become fit (R177). -/
def execPaperOutClear (s : State) : Host.Outcome State Fault Refusal :=
  .next (printerPin (fun p => { p with paperOut := false }) id s)

/-- FAULT becomes active: PRINTER FAULT is latched, except in LOANED, and a printing job suspended (R175, R178). -/
def execFaultActive (s : State) : Host.Outcome State Fault Refusal :=
  .next (printerPin (fun p => { p with fault := true })
    (fun s => if s.printer.port = .loaned then s else suspendJob true (judge .printerFault s)) s)

/-- FAULT_INACTIVE: the condition may end; the flag stays latched until it is cleared (R178, R186). -/
def execFaultInactive (s : State) : Host.Outcome State Fault Refusal :=
  .next (printerPin (fun p => { p with fault := false }) id s)

end Sys2Proof.Machine
end

