-- ==== Sys2Proof/Machine/ScaleEvents.lean ====
section
/-! DEFINITION. The scale port: samples, silence, the capture timer and the outcomes of captures and zeroings (R26 to R39). -/

namespace Sys2Proof.Machine

/-! ### The window (R35, R36) -/

/-- The window with a sample added, holding the last M. -/
def slide (m : Nat) (w : WindowSample) (l : List WindowSample) : List WindowSample :=
  (l ++ [w]).drop (l.length + 1 - m)

/-- Largest and smallest of a list of raw weights that holds its first. -/
def rawMax (a : Int) (l : List Int) : Int := l.foldl max a
def rawMin (a : Int) (l : List Int) : Int := l.foldl min a

/-- The stability test on a full window (R35). -/
def windowPasses (m band : Nat) (l : List WindowSample) : Bool :=
  match l.map WindowSample.raw with
  | [] => false
  | a :: rest =>
    decide (m ≤ l.length) && l.all WindowSample.good && decide (rawMax a rest - rawMin a rest ≤ band)

/-- The sum of the raw weights in the window. -/
def windowSum (l : List WindowSample) : Int := (l.map WindowSample.raw).sum

/-- The captured weight: d × round((S − M·Z) / (M·d)), halves away from zero (R36). -/
def capturedWeight (c : ScaleItems) (zero sum : Int) : Int :=
  c.division * roundHalfAway (sum - c.windowLength * zero) (c.windowLength * c.division)

/-! ### Outcomes (R34, R36, R37) -/

/-- The context is discarded. -/
def dropCapture (s : State) : State := s.onScale (fun u => { u with context := none })

/-- A passing window of a ZERO (R34). -/
def finishZero (sum : Int) (s : State) : State :=
  if sum.natAbs * 50 ≤ s.scale.inForce.capacity * s.scale.inForce.windowLength then
    let z := roundHalfAway sum s.scale.inForce.windowLength
    let s := (closeSlot .weigh .ended (dropCapture s)).onScale (fun u => { u with zero := z })
    postNotice (.done .weigh .ok none none 0 z) s
  else endOp .weigh .zeroRange none 0 (dropCapture s)

/-- A passing window of a capture whose deck clear condition holds: the weigh slot goes on in the same event (R36, R37, R47,
R52, log entry 53). -/
def finishCapture (target : Target) (sum : Int) (s : State) : State :=
  let w := capturedWeight s.scale.inForce s.scale.zero sum
  if w < 0 then failCapture .underZero (dropCapture s)
  else
    deliverWeight w.toNat
      (s.onScale (fun u => { u with context := none, deckClear := false, captured := some target }))

/-- The deck clear condition: set, or a re-capture of the captured ticket; NEW always differs (R37). -/
def deckAllows (u : ScaleUnit) (target : Target) : Bool :=
  u.deckClear || (decide (target ≠ .newTicket) && decide (u.captured = some target))

/-- The window step of a sample that is no fault (R35 to R37). -/
def windowStep (w : WindowSample) (s : State) : State :=
  match s.scale.context with
  | none => s
  | some c =>
    let window := slide s.scale.inForce.windowLength w c.window
    let kept (seen : Bool) (s : State) : State :=
      s.onScale (fun u => { u with context := some { c with window := window, stableSeen := seen } })
    if windowPasses s.scale.inForce.windowLength s.scale.inForce.motionBand window then
      match c.kind with
      | .zeroing => finishZero (windowSum window) s
      | .capture target =>
        if deckAllows s.scale target then finishCapture target (windowSum window) s else kept true s
    else kept c.stableSeen s

/-- A fault sample or a silence ends the capture or zeroing at once (R38). -/
def faultCapture (s : State) : State :=
  if s.scale.context.isSome then failCapture .scaleFault (dropCapture s) else s

/-! ### Samples (R28 to R31) -/

/-- The scale items that CONFIGURE last wrote take effect, the last sample is kept and the silence timer restarts (R28,
R32). -/
def takeSample (status : SampleStatus) (raw : Int) (s : State) : State :=
  s.onScale (fun u =>
    { u with
      last := some { raw := raw, status := status, age := 0 }
      silence := some Config.silenceMs
      inForce := s.settings.toScaleItems })

/-- A well-formed sample of a status that is no fault: overload, deck clear, window (R28, R30, R31). -/
def weighSample (status : SampleStatus) (raw : Int) (s : State) : State :=
  let net := raw - s.scale.zero
  let overloaded := isOverloaded s.scale.inForce status net
  let s :=
    if overloaded then latchEvent .overload (.overload (if status = .overload then .status else .net) net) s else s
  let s :=
    if status = .ok ∧ net ≤ (s.scale.inForce.clearThreshold * s.scale.inForce.division : Nat) then
      s.onScale (fun u => { u with deckClear := true })
    else s
  windowStep { raw := raw, good := decide (status = .ok) && !overloaded } s

/-- A well-formed sample, in the order of R28. -/
def sample (status : SampleStatus) (raw : Int) (s : State) : State :=
  let s := takeSample status raw s
  match status with
  | .cellFault => faultCapture (latchEvent .scaleFault (.scale .cellFault) s)
  | .converterFault => faultCapture (latchEvent .scaleFault (.scale .converterFault) s)
  | _ => weighSample status raw s

/-- SAMPLE_MESSAGE. A weight outside -99,999 to 199,999 makes the message malformed (R27); a station without a weigh slot
discards it (R26). -/
def execSampleMessage (status : SampleStatus) (raw : Int) (s : State) : Host.Outcome State Fault Refusal :=
  .next (powered (fun s =>
    if s.hasWeigh ∧ -99999 ≤ raw ∧ raw ≤ 199999 then sample status raw s else s) s)

/-- MALFORMED_SAMPLE is discarded (R27). -/
def execMalformedSample (s : State) : Host.Outcome State Fault Refusal := .next (powered id s)

/-- SILENCE_TIMER_EXPIRY: SCALE FAULT, a capture fails, and the timer starts again (R29). -/
def execSilenceTimerExpiry (s : State) : Host.Outcome State Fault Refusal :=
  .next (match s.scale.silence with
    | none => s
    | some r =>
      powered (fun s =>
        let s := (elapse r s).onScale (fun u => { u with silence := some Config.silenceMs })
        faultCapture (latchEvent .scaleFault (.scale .silence) s)) s)

/-- The outcome of an expired capture timer (R38). -/
def timedOutOutcome (c : CaptureContext) : Result := if c.stableSeen then .deckNotCleared else .notStable

/-- CAPTURE_TIMER_EXPIRY (R38). -/
def execCaptureTimerExpiry (s : State) : Host.Outcome State Fault Refusal :=
  .next (match s.scale.context with
    | none => s
    | some c => powered (fun s => failCapture (timedOutOutcome c) (dropCapture (elapse c.timer s))) s)

end Sys2Proof.Machine
end

