-- ==== Sys2Proof/Machine/Dispatch.lean ====
section
/-! DEFINITION. The meaning of every command: one arm per constructor of Instr, each a call of its own meaning. -/

namespace Sys2Proof.Machine

def exec (i : Instr) (s : State) : Host.Outcome State Fault Refusal :=
  match i with
  | .powerOn idStrap roleStrap rateStrap storeAgrees => Sys2Proof.Machine.execPowerOn idStrap roleStrap rateStrap storeAgrees s
  | .powerLoss => Sys2Proof.Machine.execPowerLoss s
  | .selectActive => Sys2Proof.Machine.execSelectActive s
  | .selectTimeout => Sys2Proof.Machine.execSelectTimeout s
  | .frameRejected => Sys2Proof.Machine.execFrameRejected s
  | .nop ps => Sys2Proof.Machine.execNop ps s
  | .reset ps => Sys2Proof.Machine.execReset ps s
  | .readNotice ps => Sys2Proof.Machine.execReadNotice ps s
  | .setAttn ps => Sys2Proof.Machine.execSetAttn ps s
  | .clearFlags ps => Sys2Proof.Machine.execClearFlags ps s
  | .clearAll ps => Sys2Proof.Machine.execClearAll ps s
  | .readFlags ps => Sys2Proof.Machine.execReadFlags ps s
  | .setIdentity ps => Sys2Proof.Machine.execSetIdentity ps s
  | .configure ps => Sys2Proof.Machine.execConfigure ps s
  | .configureDefaults ps => Sys2Proof.Machine.execConfigureDefaults ps s
  | .readConfig ps => Sys2Proof.Machine.execReadConfig ps s
  | .dayOpen ps => Sys2Proof.Machine.execDayOpen ps s
  | .dayClose ps => Sys2Proof.Machine.execDayClose ps s
  | .yardClockTick => Sys2Proof.Machine.execYardClockTick s
  | .clockTop => Sys2Proof.Machine.execClockTop s
  | .newTicket ps => Sys2Proof.Machine.execNewTicket ps s
  | .weighStep ps => Sys2Proof.Machine.execWeighStep ps s
  | .voidTicket ps => Sys2Proof.Machine.execVoidTicket ps s
  | .weighCancel ps => Sys2Proof.Machine.execWeighCancel ps s
  | .zero ps => Sys2Proof.Machine.execZero ps s
  | .readWeight ps => Sys2Proof.Machine.execReadWeight ps s
  | .pay ps => Sys2Proof.Machine.execPay ps s
  | .payConfirm ps => Sys2Proof.Machine.execPayConfirm ps s
  | .payCancel ps => Sys2Proof.Machine.execPayCancel ps s
  | .readOffer ps => Sys2Proof.Machine.execReadOffer ps s
  | .refill ps => Sys2Proof.Machine.execRefill ps s
  | .setDenominations ps => Sys2Proof.Machine.execSetDenominations ps s
  | .setCashLimits ps => Sys2Proof.Machine.execSetCashLimits ps s
  | .readDrawer ps => Sys2Proof.Machine.execReadDrawer ps s
  | .loadGrade ps => Sys2Proof.Machine.execLoadGrade ps s
  | .addPriceVersion ps => Sys2Proof.Machine.execAddPriceVersion ps s
  | .readGrade ps => Sys2Proof.Machine.execReadGrade ps s
  | .readTicket ps => Sys2Proof.Machine.execReadTicket ps s
  | .findByTag ps => Sys2Proof.Machine.execFindByTag ps s
  | .listTickets ps => Sys2Proof.Machine.execListTickets ps s
  | .releaseForeign ps => Sys2Proof.Machine.execReleaseForeign ps s
  | .readLink ps => Sys2Proof.Machine.execReadLink ps s
  | .readRoster ps => Sys2Proof.Machine.execReadRoster ps s
  | .reprint ps => Sys2Proof.Machine.execReprint ps s
  | .printText ps => Sys2Proof.Machine.execPrintText ps s
  | .cancelJob ps => Sys2Proof.Machine.execCancelJob ps s
  | .printerLoan ps => Sys2Proof.Machine.execPrinterLoan ps s
  | .reclaim ps => Sys2Proof.Machine.execReclaim ps s
  | .headerBegin ps => Sys2Proof.Machine.execHeaderBegin ps s
  | .headerContinue ps => Sys2Proof.Machine.execHeaderContinue ps s
  | .readPrinter ps => Sys2Proof.Machine.execReadPrinter ps s
  | .sampleMessage status raw => Sys2Proof.Machine.execSampleMessage status raw s
  | .malformedSample => Sys2Proof.Machine.execMalformedSample s
  | .silenceTimerExpiry => Sys2Proof.Machine.execSilenceTimerExpiry s
  | .captureTimerExpiry => Sys2Proof.Machine.execCaptureTimerExpiry s
  | .claimWindowExpiry slot => Sys2Proof.Machine.execClaimWindowExpiry slot s
  | .confirmTimerExpiry => Sys2Proof.Machine.execConfirmTimerExpiry s
  | .frameStart => Sys2Proof.Machine.execFrameStart s
  | .arbitrationLost => Sys2Proof.Machine.execArbitrationLost s
  | .attemptEnd acknowledged => Sys2Proof.Machine.execAttemptEnd acknowledged s
  | .transmitTimeout position => Sys2Proof.Machine.execTransmitTimeout position s
  | .idConflictDetected => Sys2Proof.Machine.execIdConflictDetected s
  | .badCrcFrame => Sys2Proof.Machine.execBadCrcFrame s
  | .malformedFrame sender => Sys2Proof.Machine.execMalformedFrame sender s
  | .claimReceived sender payload => Sys2Proof.Machine.execClaimReceived sender payload s
  | .objectReceived sender payload => Sys2Proof.Machine.execObjectReceived sender payload s
  | .releaseReceived sender payload => Sys2Proof.Machine.execReleaseReceived sender payload s
  | .closedReceived sender payload => Sys2Proof.Machine.execClosedReceived sender payload s
  | .headReceived sender payload => Sys2Proof.Machine.execHeadReceived sender payload s
  | .lineReceived sender payload => Sys2Proof.Machine.execLineReceived sender payload s
  | .noteReceived sender payload => Sys2Proof.Machine.execNoteReceived sender payload s
  | .askReceived sender payload => Sys2Proof.Machine.execAskReceived sender payload s
  | .announceReceived sender payload => Sys2Proof.Machine.execAnnounceReceived sender payload s
  | .reassemblyTimeout peer => Sys2Proof.Machine.execReassemblyTimeout peer s
  | .joinTimerExpiry => Sys2Proof.Machine.execJoinTimerExpiry s
  | .announceTimerExpiry => Sys2Proof.Machine.execAnnounceTimerExpiry s
  | .peerPresenceTimeout peer => Sys2Proof.Machine.execPeerPresenceTimeout peer s
  | .upAloneTimeout => Sys2Proof.Machine.execUpAloneTimeout s
  | .handCode => Sys2Proof.Machine.execHandCode s
  | .busyActive => Sys2Proof.Machine.execBusyActive s
  | .busyInactive => Sys2Proof.Machine.execBusyInactive s
  | .stallTimerExpiry => Sys2Proof.Machine.execStallTimerExpiry s
  | .paperOutActive => Sys2Proof.Machine.execPaperOutActive s
  | .paperOutClear => Sys2Proof.Machine.execPaperOutClear s
  | .faultActive => Sys2Proof.Machine.execFaultActive s
  | .faultInactive => Sys2Proof.Machine.execFaultInactive s

end Sys2Proof.Machine
end

