-- ==== Sys2Proof/Machine/Step.lean ====
section
/-! DEFINITION. One step: the command at the front of the queue, or one idle millisecond. -/

namespace Sys2Proof.Machine

/-- The command at the front of the queue runs on the state with the queue's rest. On an empty queue the block idles:
one millisecond passes for every running timer and age, and no timer expires by it (log entry 1). -/
def step (s : State) : Host.Outcome State Fault Refusal :=
  match s.pending with
  | i :: rest => exec i { s with pending := rest }
  | [] => .next (elapse 1 s)

/-- The state with the command a table word spells put at the front of its queue; unchanged where the word spells none,
as for every row of this block's table (log entry 40). -/
def State.withFetchWord (s : State) (nbits w : Nat) : State :=
  match decodeTableWord nbits w with
  | some i => { s with pending := i :: s.pending }
  | none => s

end Sys2Proof.Machine
end

