-- ==== Sys2Proof/Safety.lean ====
section
/-! DEFINITION. The terms the statements are written in: when a command frame is taken, the state its rule sees, the table
of R200 as data, and the invariants of the machine. -/

namespace Sys2Proof.Machine

/-! ### A command frame at the port (R196 to R198) -/

/-- No bit of the frame has been clocked in: none is in progress, or select has gone active and its timer runs. -/
def PortFrame.begins : PortFrame → Bool
  | .none => true
  | .running _ [] _ => true
  | _ => false

/-- The part is powered, and a frame with `l` parameter bytes that select's release ends is not rejected: it is no select
found active at start-up, its timer has not expired, no bit came before it, and `l` is at most 48 (R196, R204). -/
abbrev State.takes (l : Nat) (s : State) : Prop :=
  s.powered = true ∧ l ≤ 48 ∧ s.port.frame.begins = true

/-- What an accepted frame of `l` parameter bytes makes of the state before its command is acted on: its bits clocked in
(what goes out depends on their number alone, so bits 0 stand for them), select released, PORT ERROR clear, the answer read
on, an open header load abandoned (R196 to R199). The statement NopSelectAndRejectedFrames says what this is, field by
field. -/
def State.accepted (l : Nat) (s : State) : State :=
  abandonLoad (acceptFrame l (releaseSelect (frameIn (List.replicate (8 * (l + 2)) false) s)))

/-- The same for HEADER CONTINUE, which leaves the header load standing (R199). -/
def State.acceptedOpen (l : Nat) (s : State) : State :=
  acceptFrame l (releaseSelect (frameIn (List.replicate (8 * (l + 2)) false) s))

/-- The answer is written, and the event ends (R198). -/
def State.answered (a : List Byte) (s : State) : State := settle (writeAnswer a s)

/-! ### The acceptance table as data (R200) -/

/-- Code, roles, accepted while CLOSED, accepted while OPEN, gated, the parameter lengths the command takes, and its
parameters, of a controller-port command that gives an answer. -/
structure PortRow where
  code : Nat
  places : Places
  whenClosed : Bool
  whenOpen : Bool
  gated : Bool
  lengths : List Nat
  params : List Byte
  deriving DecidableEq, Repr

/-- R200's rows; none for NOP and RESET, which give no answer, and for events. -/
def portRowOf : Instr → Option PortRow
  | .readNotice ps => some ⟨3, .all, true, true, false, [0], ps⟩
  | .setAttn ps => some ⟨4, .all, true, true, false, [1], ps⟩
  | .clearFlags ps => some ⟨5, .all, true, true, false, [2], ps⟩
  | .clearAll ps => some ⟨6, .all, true, true, false, [0], ps⟩
  | .readFlags ps => some ⟨7, .all, true, true, false, [0], ps⟩
  | .setIdentity ps => some ⟨10, .all, true, false, false, [2], ps⟩
  | .configure ps => some ⟨11, .all, true, false, false, [5, 10, 15, 20, 25, 30, 35, 40, 45], ps⟩
  | .configureDefaults ps => some ⟨12, .all, true, false, false, [0], ps⟩
  | .readConfig ps => some ⟨13, .all, true, true, false, [0], ps⟩
  | .dayOpen ps => some ⟨14, .all, true, false, true, [5], ps⟩
  | .dayClose ps => some ⟨15, .all, false, true, true, [1], ps⟩
  | .newTicket ps => some ⟨20, .weigh, false, true, true, (upTo 2 30), ps⟩
  | .weighStep ps => some ⟨21, .weigh, false, true, true, [7], ps⟩
  | .voidTicket ps => some ⟨22, .all, false, true, true, [3], ps⟩
  | .weighCancel ps => some ⟨23, .weigh, true, true, false, [0], ps⟩
  | .zero ps => some ⟨24, .weigh, true, true, false, [0], ps⟩
  | .readWeight ps => some ⟨25, .weigh, true, true, false, [0], ps⟩
  | .pay ps => some ⟨30, .pay, false, true, true, (upTo 4 20), ps⟩
  | .payConfirm ps => some ⟨31, .pay, true, true, false, [3], ps⟩
  | .payCancel ps => some ⟨32, .pay, true, true, false, [0], ps⟩
  | .readOffer ps => some ⟨33, .pay, true, true, false, [0], ps⟩
  | .refill ps => some ⟨34, .pay, true, true, true, [7], ps⟩
  | .setDenominations ps => some ⟨35, .pay, true, false, true, [1, 7, 13, 19, 25, 31, 37, 43], ps⟩
  | .setCashLimits ps => some ⟨36, .pay, true, true, false, [8], ps⟩
  | .readDrawer ps => some ⟨37, .pay, true, true, false, [0], ps⟩
  | .loadGrade ps => some ⟨40, .all, true, false, false, (upTo 6 42), ps⟩
  | .addPriceVersion ps => some ⟨41, .all, true, true, false, [11, 17, 23, 29], ps⟩
  | .readGrade ps => some ⟨42, .all, true, true, false, [2], ps⟩
  | .readTicket ps => some ⟨50, .all, true, true, false, [4], ps⟩
  | .findByTag ps => some ⟨51, .all, true, true, false, (upTo 1 13), ps⟩
  | .listTickets ps => some ⟨52, .all, true, true, false, [1], ps⟩
  | .releaseForeign ps => some ⟨53, .all, true, true, true, [1, 3], ps⟩
  | .readLink ps => some ⟨60, .all, true, true, false, [1], ps⟩
  | .readRoster ps => some ⟨61, .all, true, true, false, [0], ps⟩
  | .reprint ps => some ⟨70, .all, true, true, false, [4], ps⟩
  | .printText ps => some ⟨71, .all, true, true, false, (upTo 1 41), ps⟩
  | .cancelJob ps => some ⟨72, .all, true, true, false, [1], ps⟩
  | .printerLoan ps => some ⟨73, .all, true, true, false, [0], ps⟩
  | .reclaim ps => some ⟨74, .all, true, true, false, [0], ps⟩
  | .headerBegin ps => some ⟨75, .all, true, false, false, (upTo 1 42), ps⟩
  | .headerContinue ps => some ⟨76, .all, true, true, false, (upTo 1 41), ps⟩
  | .readPrinter ps => some ⟨77, .all, true, true, false, [1], ps⟩
  | .powerOn .. | .powerLoss | .selectActive | .selectTimeout | .frameRejected | .nop _ | .reset _
  | .yardClockTick | .clockTop | .sampleMessage .. | .malformedSample | .silenceTimerExpiry
  | .captureTimerExpiry | .claimWindowExpiry _ | .confirmTimerExpiry | .frameStart | .arbitrationLost
  | .attemptEnd _ | .transmitTimeout _ | .idConflictDetected | .badCrcFrame | .malformedFrame _
  | .claimReceived .. | .objectReceived .. | .releaseReceived .. | .closedReceived .. | .headReceived ..
  | .lineReceived .. | .noteReceived .. | .askReceived .. | .announceReceived .. | .reassemblyTimeout _
  | .joinTimerExpiry | .announceTimerExpiry | .peerPresenceTimeout _ | .upAloneTimeout | .handCode
  | .busyActive | .busyInactive | .stallTimerExpiry | .paperOutActive | .paperOutClear | .faultActive
  | .faultInactive => none

/-- The station has a place for the row: its role, or WAIT ID for rows of all roles (R199). -/
def PortRow.hasPlace (p : PortRow) (s : State) : Prop :=
  match p.places with
  | .all => True
  | .weigh => s.role = some .bridge ∨ s.role = some .both
  | .pay => s.role = some .window ∨ s.role = some .both

/-! ### A sample that completes a window (R35 to R37) -/

/-- The scale unit once a sample has arrived: it is the last sample, the silence timer has restarted, and the scale items last
configured are in force (R28, R32). -/
def State.sampled (st : SampleStatus) (raw : Int) (s : State) : ScaleUnit :=
  { s.scale with last := some ⟨raw, st, 0⟩, silence := some 500, inForce := s.settings.toScaleItems }

/-- The window of the context once a sample of this raw weight stands at its end: the last M samples, M as configured when
the sample arrives (R32, R35). -/
def State.windowWith (raw : Int) (good : Bool) (c : CaptureContext) (s : State) : List WindowSample :=
  (c.window ++ [(⟨raw, good⟩ : WindowSample)]).drop (c.window.length + 1 - s.settings.windowLength)

/-- An OK sample of this raw weight, not overloaded, that leaves the window of the context full and stable, whether it fills
the window or slides a full one. -/
abbrev State.windowCompletes (raw : Int) (c : CaptureContext) (s : State) : Prop :=
  s.powered = true ∧ s.hasWeigh = true ∧ -99999 ≤ raw ∧ raw ≤ 199999 ∧
    raw - s.scale.zero ≤ (s.settings.capacity + 9 * s.settings.division : Int) ∧
    s.scale.context = some c ∧ 0 < s.settings.windowLength ∧ s.settings.windowLength ≤ c.window.length + 1 ∧
    (∀ x ∈ s.windowWith raw true c, x.good = true) ∧
    (∀ x ∈ s.windowWith raw true c, ∀ y ∈ s.windowWith raw true c, x.raw - y.raw ≤ s.settings.motionBand)

/-- The same, for a capture with this target. -/
abbrev State.captureCompletes (target : Target) (raw : Int) (c : CaptureContext) (s : State) : Prop :=
  s.windowCompletes raw c ∧ c.kind = .capture target

/-- The sum of the raw weights of that window (R36). -/
def State.windowSumWith (raw : Int) (c : CaptureContext) (s : State) : Int :=
  ((s.windowWith raw true c).map WindowSample.raw).sum

/-- The weight captured with that sample: d × round((S − M·Z) / (M·d)) (R36). -/
def State.capturedWith (raw : Int) (c : CaptureContext) (s : State) : Int :=
  capturedWeight s.settings.toScaleItems s.scale.zero (s.windowSumWith raw c)

/-! ### Holds and bursts at the end of an operation (R12, R51, R52, R58, R94) -/

/-- The station's role or its last writer keeps a record of this life in the table (R12). -/
abbrev State.roleKeeps (r : Record) (s : State) : Prop :=
  s.role = none ∨ s.role = some .both ∨ (s.role = some .bridge ∧ r.life = .opened) ∨
    (s.role = some .window ∧ r.life = .complete) ∨ r.lastWriter = s.myId

/-- Custody of a record leaves this station's slots, for `c`, and its register entry takes the holder `h` where this station
speaks for the ticket; a record that is not kept leaves the table, the cursor at it moving to the record before it (R12, R15,
R17). -/
def Tickets.handedOver (r : Record) (c : Custody) (h : Nat) (kept : Prop) [Decidable kept] (k : Tickets) : Tickets :=
  { k with
    table := if kept then k.table.map (fun x => if x.number = r.number then { x with custody := c } else x)
      else k.table.filter (fun x => decide (x.number ≠ r.number))
    cursor := if ¬ kept ∧ k.cursor = some r.number
      then ((k.table.takeWhile (fun x => decide (x.number ≠ r.number))).getLast?).map Record.number else k.cursor
    register := if r.number.home = k.owner ∧ k.owner ≠ 0
      then k.register.map (fun e => if e.serial = r.number.serial then { e with holder := h } else e) else k.register }

/-- The peer whose hold the record marks (R8). -/
def Record.taker (r : Record) : Option Nat :=
  match r.custody with
  | .taken h _ => some h
  | _ => none

/-- The transmit queue without an unstarted burst of the ticket (R94). -/
def State.queueWithout (n : TicketNo) (s : State) : List QueueItem :=
  s.link.queue.filter (fun i => !(decide (i.burst = some n) && !i.started && !i.onWire))

/-- Places in use by this queue and the pay slot's closing place, the weigh slot having given its own back (R51, R91). -/
def State.placesUsed (q : List QueueItem) (s : State) : Nat :=
  (q.map (fun i => i.frames.length)).sum + (if s.payOp.any PayOp.closing = true then 1 else 0)

/-- The hold of a record is given back: custody FREE, holder 0 (R52). -/
def Tickets.handedBack (r : Record) (kept : Prop) [Decidable kept] (k : Tickets) : Tickets :=
  k.handedOver r .free 0 kept

/-- A record's burst as it stands in the queue, not yet started (R94). -/
def burstItem (r : Record) : QueueItem :=
  { frames := r.burst, burst := some r.number, slot := none, started := false, onWire := false, attempts := 0,
    timeout := none, timedOut := false }

/-! ### The checks of a slot command on a ticket, and its claim request (R46, R100, R116, R117, R141) -/

/-- A ticket number with home 1 to 15 and serial 1 to 65535, of those a command can name (R1). -/
abbrev ticketInRange (n : TicketNo) : Prop := 1 ≤ n.home ∧ n.home ≤ 15 ∧ 1 ≤ n.serial

/-- The parameters of WEIGH STEP are in range: a present grade, a deduction up to 500 ‰, the final mark (R46). -/
abbrev State.stepInRange (n : TicketNo) (g d f : Nat) (s : State) : Prop :=
  ticketInRange n ∧ 1 ≤ g ∧ g ≤ 32 ∧ (s.grade g).isSome = true ∧ d ≤ 500 ∧ f ≤ 1

/-- The slot in which VOID TICKET of ticket `n` runs: the pay slot at a WINDOW station and, at a BOTH station, for a COMPLETE
ticket, else the weigh slot (R61). -/
def State.voidRunsIn (n : TicketNo) (s : State) : SlotId :=
  if s.role = some .window ∨
    (s.role = some .both ∧ (s.findRecord n).any (fun r => decide (r.life = .complete)) = true)
  then .pay else .weigh

/-- A slot is IDLE (R43, R138). -/
abbrev State.slotIdle (slot : SlotId) (s : State) : Prop := if slot = .pay then s.payOp = none else s.weigh = none

/-- What an offer of a record is computed from: its net amount, its regulated amount over the regulated BUY lines, whether the
grant was local in DOWN, and whether a seller reference is known (R78, R145). -/
def Record.offered (r : Record) (offline seller : Bool) : OfferInput :=
  { net := (r.lines.map Line.amount).sum
    regulated := ((r.lines.filter (fun l => l.regulated && decide (l.kind = .buy))).map Line.amount).sum
    offline := offline
    seller := seller }

/-- The checks of R46 and R141 on ticket `n`, in their order: closed, unknown, stale, its life not one that suits, its custody
not FREE; `passes r` is what is said of a record that passes them. -/
abbrev State.ticketChecks (n : TicketNo) (suits : Life → Prop) (refused : Byte → Prop) (asks passes : Record → Prop)
    (s : State) : Prop :=
  (s.isClosed n = true → refused 9) ∧
  (s.isClosed n = false → s.findRecord n = none → refused 7) ∧
  ∀ r, s.isClosed n = false → s.findRecord n = some r →
    (r.stale = true → asks r) ∧
    (r.stale = false → ¬ suits r.life → refused 4) ∧
    (r.stale = false → suits r.life → r.custody ≠ .free → refused 3) ∧
    (r.stale = false → suits r.life → r.custody = .free → passes r)

/-- The transmit queue after a refusal STALE on ticket `n`: the ASK is offered again unless one is queued; in DOWN and SILENT,
and with no place empty, it is not queued (R100, R106, R108). -/
def State.queueAsking (n : TicketNo) (step : Nat) (s : State) : List QueueItem :=
  if s.askQueued n = true ∨ s.link.state = .down ∨ s.link.state = .silent ∨ 24 ≤ s.occupied then s.link.queue
  else placed (.single (.ask n step)) s.link.queue

/-- HOME CHECK lets a claim on ticket `n` pass in UP: the ticket is this station's own, the check is off, or the home is present
(R117). -/
abbrev State.homeSeen (n : TicketNo) (s : State) : Prop :=
  n.home = s.myId ∨ s.settings.homeCheck = false ∨ s.present n.home = true

/-- A claim on ticket `n` queues its CLAIM (R116). -/
abbrev State.claimQueues (n : TicketNo) (s : State) : Prop := s.link.state = .up ∧ s.homeSeen n ∧ s.occupied < 24

/-- A claim on ticket `n` is granted without frames (R116, R120). -/
abbrev State.claimGrants (n : TicketNo) (s : State) : Prop :=
  (s.link.state = .alone ∧ (n.home = s.myId ∨ s.settings.homeCheck = false)) ∨ (s.link.state = .down ∧ n.home = s.myId)

/-- A claim on ticket `n` is refused HOME ABSENT (R116, R117). -/
abbrev State.claimFindsNoHome (n : TicketNo) (s : State) : Prop :=
  (s.link.state = .up ∧ ¬ s.homeSeen n) ∨ (s.link.state = .alone ∧ n.home ≠ s.myId ∧ s.settings.homeCheck = true)

/-- A claim on ticket `n` is refused LINK DOWN (R60, R116). -/
abbrev State.claimFindsLinkDown (n : TicketNo) (s : State) : Prop :=
  (s.link.state = .down ∧ n.home ≠ s.myId) ∨ s.link.state = .silent

/-- A claim on ticket `n` is refused LINK BUSY (R91, R116). -/
abbrev State.claimFindsLinkBusy (n : TicketNo) (s : State) : Prop :=
  s.link.state = .joining ∨ (s.link.state = .up ∧ s.homeSeen n ∧ 24 ≤ s.occupied)

/-- How a claim request on ticket `n` ends, by the table of R116. -/
abbrev State.claimEnds (n : TicketNo) (refused : Byte → Prop) (queued granted : Prop) (s : State) : Prop :=
  (s.claimFindsNoHome n → refused 17) ∧ (s.claimFindsLinkDown n → refused 15) ∧ (s.claimFindsLinkBusy n → refused 16) ∧
    (s.claimQueues n → queued) ∧ (s.claimGrants n → granted)

/-- The transmit queue with a slot's CLAIM behind the items of its class and of lower classes (R91, R118). -/
def State.queueClaiming (slot : SlotId) (sub : Subject) (s : State) : List QueueItem :=
  s.link.queue.takeWhile (fun x => decide (x.cls ≤ 1))
    ++ [{ frames := [.claim sub.ticket sub.purpose sub.step], burst := none, slot := some slot, started := false,
          onWire := false, attempts := 0, timeout := none, timedOut := false }]
    ++ s.link.queue.dropWhile (fun x => decide (x.cls ≤ 1))

/-- A record's custody is CLAIMING by a slot (R114). -/
def Tickets.claimed (n : TicketNo) (slot : SlotId) (p : Purpose) (k : Tickets) : Tickets :=
  { k with table := k.table.map (fun x => if x.number = n then { x with custody := .claiming slot p } else x) }

/-! ### A frame of a peer (R88 to R90, R110) -/

/-- The powered part reads a frame with a good CRC from `x`, a peer that is present. -/
abbrev State.hears (x : Nat) (s : State) : Prop :=
  s.powered = true ∧ 1 ≤ x ∧ x ≤ 15 ∧ x ≠ s.myId ∧ s.waitId = false ∧ s.present x = true

/-- The same with the link UP. -/
abbrev State.reads (x : Nat) (s : State) : Prop := s.hears x ∧ s.link.state = .up

/-- What the reading itself does: the acknowledge slot is driven, and the roster hears the peer. -/
def State.heard (x : Nat) (s : State) : State :=
  { s with link := { s.link with
      ackDriven := true
      roster := s.link.roster.map (fun p => if p.id = x then { p with present := true, sinceHeard := 0 } else p) } }

/-- A record's custody is set where the number is `n`, and the holder of its register entry where this station speaks for
the ticket. -/
def Tickets.held (n : TicketNo) (c : Custody) (h : Nat) (k : Tickets) : Tickets :=
  { k with
    table := k.table.map (fun x => if x.number = n then { x with custody := c } else x)
    register := if n.home = k.owner ∧ k.owner ≠ 0
      then k.register.map (fun e => if e.serial = n.serial then { e with holder := h } else e) else k.register }

/-- The reception of this frame, whole and with a good CRC, from `x`. -/
def Frame.received (x : Nat) (f : Frame) : Instr :=
  match f with
  | .release .. => .releaseReceived x f.payload
  | .closed .. => .closedReceived x f.payload
  | .claim .. => .claimReceived x f.payload
  | .object .. => .objectReceived x f.payload
  | .head .. => .headReceived x f.payload
  | .line .. => .lineReceived x f.payload
  | .note .. => .noteReceived x f.payload
  | .ask .. => .askReceived x f.payload
  | .announce .. => .announceReceived x f.payload

/-! ### Invariants -/

/-- The notice queue holds at most 16 notices, and sequence numbers take 0 to 255 (R193). -/
abbrev State.noticesOk (s : State) : Prop :=
  s.notices.queue.length ≤ 16 ∧ s.notices.seq < 256 ∧ ∀ p ∈ s.notices.queue, p.1 < 256

/-- Frames and closing places together fill at most the 24 places, and every item holds a frame (R91). -/
abbrev State.queueOk (s : State) : Prop := s.occupied ≤ 24 ∧ ∀ i ∈ s.link.queue, i.frames ≠ []

/-- The closed list holds at most 32 entries and names each ticket at most once (R11, R19). -/
abbrev State.closedOk (s : State) : Prop :=
  s.tickets.closed.length ≤ 32 ∧ (s.tickets.closed.map ClosedEntry.number).Nodup

/-- A record's lines carry the indices 1 up to its step in order, and their nets sum to gross-in minus last weight, the
conditions of R6 on one record. -/
abbrev Record.linesOk (r : Record) : Prop :=
  r.step = r.lines.length ∧ r.lines.length ≤ 8 ∧ r.lines.map Line.index = (List.range r.lines.length).map (· + 1) ∧
    ((r.lines.map Line.net).sum : Int) = (r.grossIn : Int) - r.lastWeight

/-- What the weigh slot's operation holds toward the ticket store: a NEW TICKET its reservation (R13), a WEIGH STEP a claimed
step below 8 (R59). -/
def WeighOp.storeOk (o : WeighOp) : Bool :=
  match o.kind with
  | .newTicket .. => o.reserved
  | .weighStep .. => decide (o.claimedStep ≤ 7)
  | _ => true

/-- The ticket store within its bounds (R2, R11, R13, R16, R19), no number twice, no record of a closed ticket (R11), every
record's lines in order (R6); and what the weigh slot and the collected bursts hold toward it. -/
abbrev State.ticketsOk (s : State) : Prop :=
  s.tickets.table.length + s.reservations ≤ 48 ∧ s.tickets.register.length + s.reservations ≤ 1024 ∧
    s.tickets.closed.length ≤ 32 ∧ 1 ≤ s.tickets.nextSerial ∧ s.tickets.nextSerial ≤ 65535 ∧
    (s.tickets.table.map Record.number).Nodup ∧
    (∀ r ∈ s.tickets.table, s.closedEntry r.number = none ∧ r.linesOk) ∧
    (∀ o ∈ s.weigh, o.storeOk = true) ∧
    ∀ c ∈ s.link.contexts, c.lines.map Line.index = (List.range c.lines.length).map (· + 1)

end Sys2Proof.Machine
end

