-- ==== Sys2Proof/Certificates/Slice0/Obligations.lean ====
section
/-! DEFINITION. The statements for the provers. A command frame's state before its rule acts is `s.accepted L`, and the
state that the written answer leaves is `answered`: NopSelectAndRejectedFrames and EveryEventEndsWithThePort say what they
are. Behind every statement stand three choices of the model: a frame of the controller port is one event (log entry 7), what an
event means where it cannot occur or power is off (log entries 2 and 4), and the fields that stand for output lines (log entry
33). Each docstring names the other log entries its statement rests on. -/

open Sys2Proof Sys2Proof.Machine

/-! ### The machine -/

/-- A step takes the command at the front of the queue and runs exec on the state with the queue's rest. -/
def Obligations.StepRunsTheFrontCommand : Prop :=
  ∀ (c : Instr) (rest : List Instr) (s : State), s.pending = c :: rest → step s = exec c { s with pending := rest }

/-- On an empty queue the part idles for one millisecond: the model's choice (log entry 1). Every running timer loses one
millisecond, every age gains one, holding at 65,535, and nothing else changes. -/
def Obligations.EmptyQueueLetsAMillisecondPass : Prop :=
  ∀ s : State, s.pending = [] →
    let less := fun t : Option Nat => t.map (· - 1)
    step s = .next { s with
      day := { s.day with tick := less s.day.tick }
      scale := { s.scale with
        last := s.scale.last.map (fun l => { l with age := min 65535 (l.age + 1) })
        silence := less s.scale.silence
        context := s.scale.context.map (fun c => { c with timer := c.timer - 1 }) }
      link := { s.link with
        joinTimer := less s.link.joinTimer
        announceTimer := less s.link.announceTimer
        upAlone := less s.link.upAlone
        queue := s.link.queue.map (fun i => { i with timeout := less i.timeout })
        contexts := s.link.contexts.map (fun c => { c with timer := c.timer - 1 })
        roster := s.link.roster.map (fun p => { p with sinceHeard := min 65535 (p.sinceHeard + 1) }) }
      weighTimer := { s.weighTimer with count := less s.weighTimer.count }
      payTimer := { s.payTimer with count := less s.payTimer.count }
      payOp := s.payOp.map (fun o => { o with confirm := less o.confirm })
      printer := { s.printer with stall := less s.printer.stall }
      port := { s.port with frame := match s.port.frame with
        | .running copied clocked timer => .running copied clocked (timer - 1)
        | .none => .none
        | .abandoned => .abandoned
        | .notAFrame => .notAFrame } }

/-- Every command completes in every state, and none touches the queue of waiting commands. The model's choices it rests on: log
entries 2, 4, 7 and 31. -/
def Obligations.EveryCommandCompletesAndLeavesTheQueue : Prop :=
  ∀ (c : Instr) (s : State), ∃ t : State, exec c s = .next t ∧ t.pending = s.pending

/-- What every event of the powered part ends with. With the printer fit, a READY port takes the oldest QUEUED job and a STOPPED
one restarts the SUSPENDED job with its restart count grown, but not one that waits for BUSY while BUSY is active: the job is
PRINTING with no line sent, its codes are to hand, and the other jobs stay. In any other case, LOAN PENDING and LOANED among
them, no job is taken and jobs, port and codes stay. The stall timer starts at 5 s where a code is to hand and BUSY is active,
runs on there and stops elsewhere. In UP and ALONE the transmit timeout of the queue's head, the burst whose HEAD is or has been
on the wire or else the first item, starts at 100 ms unless it has been started. No other item and nothing else changes. The
model's choices it rests on: log entries 25, 58, 60 and 61. -/
def Obligations.EveryEventEndsWithThePort : Prop :=
  ∀ s : State,
    let t := settle s
    let fit : Prop := s.printer.paperOut = false ∧ s.printer.fault = false ∧ s.latched .printerFault = false
    let kept : Prop := t.printer.jobs = s.printer.jobs ∧ t.printer.port = s.printer.port ∧
      t.printer.stream = s.printer.stream ∧ t.printer.leadLine = s.printer.leadLine
    let taken (j : Job) : Prop := t.printer.port = .printing ∧ t.printer.stream = j.codes ∧
      t.printer.leadLine = decide (0 < j.restarts) ∧
      t.printer.jobs = s.printer.jobs.map (fun x =>
        if x.number = j.number then { j with state := .printing, sent := 0 } else x)
    t = { s with
          printer := { s.printer with jobs := t.printer.jobs, port := t.printer.port, stream := t.printer.stream,
                                      leadLine := t.printer.leadLine, stall := t.printer.stall }
          link := { s.link with queue := t.link.queue } } ∧
    t.link.queue.map (fun i => { i with timeout := none }) = s.link.queue.map (fun i => { i with timeout := none }) ∧
    t.printer.jobs.map Job.number = s.printer.jobs.map Job.number ∧
    ((s.printer.paperOut = true ∨ s.printer.fault = true ∨ s.latched .printerFault = true) → kept) ∧
    (s.printer.port ≠ .ready → s.printer.port ≠ .stopped → kept) ∧
    (s.printer.port = .ready → (∀ j ∈ s.printer.jobs, j.state ≠ .queued) → kept) ∧
    (s.printer.port = .stopped → (∀ j ∈ s.printer.jobs, j.state ≠ .suspended) → kept) ∧
    (∀ j, fit → s.printer.port = .ready →
      s.printer.jobs.find? (fun j => decide (j.state = .queued)) = some j → taken j) ∧
    (∀ j, fit → s.printer.port = .stopped →
      s.printer.jobs.find? (fun j => decide (j.state = .suspended)) = some j →
      if j.awaitsBusy = true ∧ s.printer.busy = true then kept
      else taken { j with restarts := min 255 (j.restarts + 1), awaitsBusy := false }) ∧
    t.printer.stall =
      (if s.printer.busy = true ∧ t.printer.stream ≠ [] ∧ (t.printer.port = .printing ∨ t.printer.port = .loanPending)
        then some (s.printer.stall.getD 5000) else none) ∧
    (s.link.state ≠ .up → s.link.state ≠ .alone → t.link.queue = s.link.queue) ∧
    (s.link.queue = [] → t.link.queue = []) ∧
    (∀ before i after, (s.link.state = .up ∨ s.link.state = .alone) → s.link.queue = before ++ i :: after →
      ((i.burst.isSome = true ∧ (i.started = true ∨ i.onWire = true) ∧
          ∀ x ∈ before, x.burst = none ∨ (x.started = false ∧ x.onWire = false)) ∨
        (before = [] ∧ ∀ x ∈ s.link.queue, x.burst = none ∨ (x.started = false ∧ x.onWire = false))) →
      t.link.queue = before
        ++ { i with timeout := if i.timeout = none ∧ i.timedOut = false then some 100 else i.timeout } :: after)

/-! ### The controller port -/

/-- A frame of whole bytes, its code assigned, L equal to the number of its parameters and at most 48, is the frame
whose bits pass every test; any other bits fail. NOP takes any parameters up to 48 and only reads the answer on: select
is released, PORT ERROR cleared, an open header load abandoned, the bytes copied at select's activation are shifted out,
most significant bit first, with bits 0 after them, and the position moves by the answer bytes clocked out; an answer
read whole begins again and is no longer new. Select going active copies what is shifted out and starts the 20 ms timer;
its expiry abandons the frame; a frame that fails a test, and the release of an abandoned one, set PORT ERROR and leave
the answer slot and its position as they are; a select found active at start-up is no frame. The model's choices it
rests on: log entries 1, 2, 7 and 33. -/
def Obligations.NopSelectAndRejectedFrames : Prop :=
  (∀ (bits : List Bool) (code : Nat) (ps : List Byte), frameParams bits = some (code, ps) ↔
     bits = bytesBits ([byte code, byte ps.length] ++ ps) ∧ ps.length ≤ 48 ∧
       code ∈ [1, 2, 3, 4, 5, 6, 7, 10, 11, 12, 13, 14, 15, 20, 21, 22, 23, 24, 25, 30, 31, 32, 33, 34, 35, 36, 37, 40,
               41, 42, 50, 51, 52, 53, 60, 61, 70, 71, 72, 73, 74, 75, 76, 77]) ∧
  (∀ (bs : List Byte) (i k : Nat) (b : Byte), bs[i]? = some b → k < 8 →
     (bytesBits bs)[8 * i + k]? = some (b.getLsbD (7 - k))) ∧
  (∀ s : State,
     let copied := match s.port.frame with
       | .running copied _ _ => copied
       | _ => [s.statusByte, BitVec.ofNat 8 s.port.answer.length, BitVec.ofNat 8 s.port.position]
                ++ s.port.answer.drop s.port.position
     let out (n : Nat) : List Bool := (if s.port.frame = .none then [] else s.port.dataOut)
       ++ (bytesBits copied ++ List.replicate n false).take n
     let filler (n : Nat) : List Bool := s.port.dataOut ++ List.replicate n false
     let ended (shifted : List Bool) : Port := { s.port with select := false, frame := .none, dataOut := shifted }
     (∀ ps : List Byte, s.takes ps.length →
       exec (.nop ps) s = .next (settle (s.accepted ps.length)) ∧
       s.accepted ps.length =
         { s with
           printer := { s.printer with load := none }
           port :=
             { ended (out (8 * (ps.length + 2))) with
               portError := false
               position := if s.port.position + min (ps.length - 1) (s.port.answer.length - s.port.position)
                               < s.port.answer.length
                             then s.port.position + min (ps.length - 1) (s.port.answer.length - s.port.position) else 0
               answerNew := if s.port.position + min (ps.length - 1) (s.port.answer.length - s.port.position)
                               < s.port.answer.length
                             then s.port.answerNew else false } }) ∧
     (s.powered = true → s.port.select = false → exec .selectActive s =
       .next (settle { s with port := { s.port with
         select := true
         dataOut := []
         frame := .running ([s.statusByte, BitVec.ofNat 8 s.port.answer.length, BitVec.ofNat 8 s.port.position]
                              ++ s.port.answer.drop s.port.position) [] 20 } })) ∧
     (∀ timer, s.powered = true → s.port.frame = .running copied [] timer → exec .selectTimeout s =
       .next (settle { elapse timer s with
         dataIn := []
         port := { s.port with frame := .abandoned, dataOut := out s.dataIn.length } })) ∧
     (s.powered = true → s.port.frame = .abandoned → exec .frameRejected s =
       .next (settle { s with dataIn := [], port := { ended (filler s.dataIn.length) with portError := true } })) ∧
     (s.powered = true → s.port.frame.begins = true → frameParams s.dataIn = none → exec .frameRejected s =
       .next (settle { s with dataIn := [], port := { ended (out s.dataIn.length) with portError := true } })) ∧
     (s.powered = true → s.port.frame.begins = true → frameParams s.dataIn ≠ none →
       exec .frameRejected s = .next (settle s)) ∧
     (s.powered = true → s.port.frame = .notAFrame → exec .frameRejected s =
       .next (settle { s with dataIn := [], port := ended (filler s.dataIn.length) })) ∧
     (∀ (c : Instr) (r : PortRow), s.powered = true → portRowOf c = some r →
       (s.port.frame = .notAFrame → exec c s =
         .next (settle { s with port := ended (filler (8 * (r.params.length + 2))) })) ∧
       (s.port.frame = .abandoned → exec c s =
         .next (settle { s with port := { ended (filler (8 * (r.params.length + 2))) with portError := true } })) ∧
       (s.port.frame.begins = true → 48 < r.params.length → exec c s =
         .next (settle { s with port := { ended (out (8 * (r.params.length + 2))) with portError := true } }))))

/-- The checks of the port before a command's own rule, in their order, with the rows of R200: place, RESTARTED, day state,
parameter length. A refused command changes nothing but the port, and its answer is the refusal alone. NOP and RESET pass no
checks and give no answer: NOP takes any parameters, RESET with parameters only ends its frame. The model's choices it rests on:
log entries 7, 8, 9 and 70. -/
def Obligations.AcceptanceTable : Prop :=
  (∀ (c : Instr) (r : PortRow) (s : State), portRowOf c = some r → s.takes r.params.length →
    (¬ r.hasPlace s → exec c s =
      .next ((s.accepted r.params.length).answered [if s.identity.inForce = none then 10 else 4])) ∧
    (r.hasPlace s → r.gated = true → s.flags.restarted = true →
      exec c s = .next ((s.accepted r.params.length).answered [14])) ∧
    (r.hasPlace s → (r.gated = false ∨ s.flags.restarted = false) →
      (if s.day.isOpen = true then r.whenOpen else r.whenClosed) = false →
      exec c s = .next ((s.accepted r.params.length).answered [4])) ∧
    (r.hasPlace s → (r.gated = false ∨ s.flags.restarted = false) →
      (if s.day.isOpen = true then r.whenOpen else r.whenClosed) = true → r.params.length ∉ r.lengths →
      exec c s = .next ((s.accepted r.params.length).answered [5]))) ∧
  (∀ (ps : List Byte) (s : State), s.takes ps.length →
    exec (.nop ps) s = .next (settle (s.accepted ps.length)) ∧
    (ps ≠ [] → exec (.reset ps) s = .next (settle (s.accepted ps.length))))

/-- The eight marks of the status byte. -/
def Obligations.StatusByteMarks : Prop :=
  ∀ s : State,
    s.statusByte.getLsbD 7 = s.flags.restarted ∧
    s.statusByte.getLsbD 6 = !s.notices.queue.isEmpty ∧
    s.statusByte.getLsbD 5 = (s.flags.scaleFault.latched || s.flags.overload.latched || s.flags.printerFault.latched
      || s.flags.conflict.latched || s.flags.idConflict.latched || s.flags.retainedLost.latched) ∧
    s.statusByte.getLsbD 4 = (s.flags.linkDown.latched || s.flags.tableFull.latched || s.flags.reassemblyLost.latched
      || s.flags.printLost.latched || s.flags.cashWarn.latched || s.flags.cashLimit.latched
      || s.flags.drawerLow.latched || s.flags.noticeOverflow.latched) ∧
    s.statusByte.getLsbD 3 = s.port.portError ∧
    s.statusByte.getLsbD 2 = s.weigh.isSome ∧
    s.statusByte.getLsbD 1 = s.payOp.isSome ∧
    s.statusByte.getLsbD 0 = s.port.answerNew

/-! ### Flags and notices -/

/-- Posting a notice: it takes the next sequence number, and the sequence grows by one, 255 followed by 0. With 16
notices queued it is dropped, and NOTICE OVERFLOW is latched, its detail the kind of the first one dropped. The
latch of an event flag: a clear flag takes count 1 and the occurrence's detail and posts a FLAG notice; a latched
one only counts, to 255, and posts nothing unless it is CONFLICT. A condition flag is latched only when it is judged
with its condition holding and is clear: it then takes its detail, no count, and posts a FLAG notice. -/
def Obligations.NoticesAndFlagLatches : Prop :=
  (∀ (n : Notice) (s : State), s.notices.seq < 256 →
     (s.notices.queue.length < 16 → postNotice n s =
       { s with notices := { s.notices with queue := s.notices.queue ++ [(s.notices.seq, n)]
                                            seq := if s.notices.seq = 255 then 0 else s.notices.seq + 1 } }) ∧
     (16 ≤ s.notices.queue.length → postNotice n s =
       { s with notices := { s.notices with seq := if s.notices.seq = 255 then 0 else s.notices.seq + 1 }
                flags := { s.flags with noticeOverflow :=
                  if s.flags.noticeOverflow.latched = true
                    then { s.flags.noticeOverflow with count := min 255 (s.flags.noticeOverflow.count + 1) }
                    else { latched := true, count := 1, detail := .notice n.kind } } })) ∧
  (∀ (f : Flag) (d : Detail) (s : State), f.isCondition = false → f ≠ .noticeOverflow →
     s.notices.queue.length < 16 →
     let t := latchEvent f d s
     t = { s with flags := t.flags, notices := t.notices } ∧
     (∀ g, g ≠ f → t.flag g = s.flag g) ∧
     t.flags.restarted = s.flags.restarted ∧
     (s.latched f = false → t.flag f = { latched := true, count := 1, detail := d }) ∧
     (s.latched f = true → t.flag f = { s.flag f with count := min 255 ((s.flag f).count + 1) }) ∧
     (if s.latched f = false ∨ f = .conflict
       then t.notices.queue = s.notices.queue ++ [(s.notices.seq, .flag f d)]
       else t.notices = s.notices)) ∧
  (∀ (f : Flag) (s : State), f.isCondition = true →
     (condition f s = false → judge f s = s) ∧
     (s.latched f = true → judge f s = s) ∧
     (condition f s = true → s.latched f = false → s.notices.queue.length < 16 →
       let t := judge f s
       t = { s with flags := t.flags, notices := t.notices } ∧
       t.flag f = { latched := true, count := 0, detail := conditionDetail f s } ∧
       (∀ g, g ≠ f → t.flag g = s.flag g) ∧ t.flags.restarted = s.flags.restarted ∧
       t.notices.queue = s.notices.queue ++ [(s.notices.seq, .flag f (conditionDetail f s))]))

/-- READ NOTICE removes the oldest notice and answers OK with its 15-byte record, or NOT READY with none queued; the
record of each kind, its values in their places and bytes 0 after them; SET ATTN turns ATTN enable on or off; ATTN is
low while a notice is queued and ATTN enable is on. The model's choices it rests on: log entries 12 and 68. -/
def Obligations.ReadNoticeAndSetAttn : Prop :=
  (∀ (q holder : Nat) (z : Int) (slot : SlotId) (outcome : Result) (loss : Option LossReason) (n : TicketNo),
     let after : List Byte := [(match loss with
         | none => 0 | some .withdrawn => 1 | some .held => 2 | some .stale => 3 | some .closed => 4 | some .changed => 5),
       byte holder] ++ signedBytes 4 z ++ [0, 0]
     noticeBytes q (.done slot outcome (some n) loss holder z) =
       [1, byte q, if slot = .weigh then 1 else 2, byte outcome.code] ++ ticketBytes n ++ after ∧
     noticeBytes q (.done slot outcome none loss holder z) =
       [1, byte q, if slot = .weigh then 1 else 2, byte outcome.code, 0, 0, 0] ++ after ∧
     noticeBytes q (.payable n) = [2, byte q] ++ ticketBytes n ++ List.replicate 10 0) ∧
  (∀ (q : Nat) (n : TicketNo) (how : Settlement) (cash x : Nat) (transfer : Int) (seller : Bool),
     noticeBytes q (.closedElsewhere n (.settled how cash transfer x seller)) =
       [3, byte q] ++ ticketBytes n ++ [if how = .paid then 1 else 2] ++ bytesOf 4 cash ++ signedBytes 4 transfer
         ++ [if seller = true then 1 else 0] ∧
     noticeBytes q (.closedElsewhere n .elsewhere) = [3, byte q] ++ ticketBytes n ++ [3] ++ List.replicate 9 0) ∧
  (∀ (q : Nat) (f : Flag) (d : Detail),
     noticeBytes q (.flag f d) =
       [4, byte q, byte f.number, if f.isStop = true then 1 else 2] ++ (d.bytes ++ List.replicate 5 0).take 5
         ++ List.replicate 6 0) ∧
  (∀ (net : Int) (n : TicketNo) (x v : Nat) (r : ObjectReason),
     (Detail.scale .cellFault).bytes = [1] ∧ (Detail.scale .converterFault).bytes = [2] ∧
     (Detail.scale .silence).bytes = [3] ∧ (Detail.overload .status net).bytes = [1] ++ signedBytes 4 net ∧
     (Detail.overload .net net).bytes = [2] ++ signedBytes 4 net ∧ (Detail.printer .fault).bytes = [1] ∧
     (Detail.printer .stall).bytes = [2] ∧ (Detail.conflict n x r).bytes = ticketBytes n ++ [byte x, byte r.code] ∧
     (Detail.idConflict .announce).bytes = [1] ∧ (Detail.idConflict .frame).bytes = [2] ∧
     (Detail.idConflict .bit).bytes = [3] ∧ (Detail.tableFull n x).bytes = ticketBytes n ++ [byte x] ∧
     (Detail.reassembly x n).bytes = [byte x] ++ ticketBytes n ∧ (Detail.cashPaid v).bytes = bytesOf 4 v ∧
     (Detail.denomination v).bytes = bytesOf 4 v) ∧
  (∀ (q job : Nat) (k : ReceiptKind) (n : TicketNo) (e : PrintEvent),
     noticeBytes q (.printed job k (some n) e) =
       [5, byte q, byte job, byte k.code] ++ ticketBytes n ++ [if e = .complete then 1 else 2] ++ List.replicate 7 0 ∧
     noticeBytes q (.printed job k none e) =
       [5, byte q, byte job, byte k.code, 0, 0, 0, if e = .complete then 1 else 2] ++ List.replicate 7 0) ∧
  (∀ (q x : Nat) (c : PeerChange) (role : Option Role) (day : Option Nat) (isOpen : Option Bool),
     noticeBytes q (.peer x c role day isOpen) =
       [6, byte q, byte x, (match c with | .present => 1 | .absent => 2 | .role => 3 | .dayState => 4 | .restart => 5),
        (match role with | none => 0 | some .bridge => 1 | some .window => 2 | some .both => 3)]
         ++ bytesOf 2 (day.getD 0)
         ++ [match isOpen with | none => (0 : Byte) | some false => 1 | some true => 2] ++ List.replicate 7 0) ∧
  (∀ (q n v : Nat) (e : DayEvent),
     noticeBytes q (.day n e v) =
       [7, byte q] ++ bytesOf 2 n ++ [match e with | .opened => (1 : Byte) | .closed => 2 | .clockTop => 3] ++ bytesOf 2 v
         ++ List.replicate 8 0) ∧
  ∀ s : State,
    (∀ n q rest, s.takes 0 → s.notices.queue = (q, n) :: rest →
      exec (.readNotice []) s = .next (State.answered (1 :: noticeBytes q n)
        { s.accepted 0 with notices := { s.notices with queue := rest } }) ∧
      (noticeBytes q n).length = 15) ∧
    (s.takes 0 → s.notices.queue = [] → exec (.readNotice []) s = .next ((s.accepted 0).answered [10])) ∧
    (∀ b : Byte, s.takes 1 → b.toNat ≤ 1 → exec (.setAttn [b]) s = .next (State.answered [1]
      { s.accepted 1 with notices := { s.notices with attnEnable := decide (b = 1) } })) ∧
    (∀ b : Byte, s.takes 1 → 1 < b.toNat → exec (.setAttn [b]) s = .next ((s.accepted 1).answered [5])) ∧
    (s.attnLow = true ↔ s.notices.queue ≠ [] ∧ s.notices.attnEnable = true)

/-- CLEAR FLAGS and CLEAR ALL make each named flag clear, but a condition flag whose condition holds stays as it is, and
RESTARTED is cleared if named. The answer is OK with the mask of what is latched then; a mask with bit 14 is refused. The
model's choices it rests on: log entries 30 and 36. -/
def Obligations.ClearFlagsAndClearAll : Prop :=
  ∀ s : State,
    (∀ hi lo : Byte, s.takes 2 → hi.getLsbD 6 = false →
      ∃ t, exec (.clearFlags [hi, lo]) s = .next (State.answered (1 :: bytesOf 2 t.flagMask) t) ∧
        t = { s.accepted 2 with flags := t.flags } ∧
        t.flags.restarted = (s.flags.restarted && !hi.getLsbD 7) ∧
        ∀ f, t.flag f =
          if (hi ++ lo : BitVec 16).getLsbD f.number = true ∧ ¬(f.isCondition = true ∧ condition f s = true)
            then { latched := false, count := 0, detail := .none } else s.flag f) ∧
    (∀ hi lo : Byte, s.takes 2 → hi.getLsbD 6 = true →
      exec (.clearFlags [hi, lo]) s = .next ((s.accepted 2).answered [5])) ∧
    (s.takes 0 → ∃ t, exec (.clearAll []) s = .next (State.answered (1 :: bytesOf 2 t.flagMask) t) ∧
        t = { s.accepted 0 with flags := t.flags } ∧ t.flags.restarted = false ∧
        ∀ f, t.flag f = if f.isCondition = true ∧ condition f s = true then s.flag f
          else { latched := false, count := 0, detail := .none })

/-- Under STATION scope any latched STOP flag refuses a slot operation HALTED; under BLOCK scope the flags of the
table refuse the operations of their own block. ZERO shows it: refused HALTED it changes nothing. -/
def Obligations.FaultScopeGates : Prop :=
  (∀ (o : GatedOp) (s : State), s.settings.faultScope = .station →
    (gatePasses o s = false ↔ ∃ f : Flag, f.isStop = true ∧ s.latched f = true)) ∧
  (∀ (o : GatedOp) (s : State), s.settings.faultScope = .block →
    (gatePasses o s = false ↔
      ((s.latched .scaleFault = true ∨ s.latched .overload = true) ∧ (o = .newTicket ∨ o = .weighStep ∨ o = .zero)) ∨
      (s.latched .printerFault = true ∧ s.settings.receiptRequired = true ∧
        (o = .newTicket ∨ o = .weighStep ∨ o = .voidTicket ∨ o = .pay)) ∨
      (s.latched .conflict = true ∧ (o = .weighStep ∨ o = .voidTicket ∨ o = .pay)))) ∧
  (∀ s : State, s.takes 0 → s.hasWeigh = true → s.weigh = none → gatePasses .zero s = false →
    exec (.zero []) s = .next ((s.accepted 0).answered [13]))

/-! ### Power, restart, identity -/

/-- Power arrives and the retained store passes its check: the straps are sampled, the retained contents stay, the marks that
power-on clears are cleared, and every other block starts from its power-on values; the FLAG notices of the conditions that hold
come first, then the DAY notice of WAIT ID. The model's choices it rests on: log entries 4, 6, 18, 30, 33, 37, 45 and 59. -/
def Obligations.PowerOnKeepsTheRetainedStore : Prop :=
  ∀ (i r l : Nat) (s : State), i ≤ 15 → r ≤ 3 → l ≤ 3 →
    ∃ t : State, exec (.powerOn i r l true) s = .next t ∧
      t.powered = true ∧ t.identity = ⟨⟨i, r, l⟩, s.identity.override⟩ ∧
      t.settings = s.settings ∧ t.pricing = s.pricing ∧ t.drawer = s.drawer ∧
      t.printer.header = s.printer.header ∧ t.scale.zero = s.scale.zero ∧
      t.tickets.table = s.tickets.table.map (fun r => { r with custody := .free }) ∧
      t.tickets.closed = s.tickets.closed ∧ t.tickets.cursor = none ∧
      (t.myId = 0 ∨ t.myId = s.tickets.owner →
        t.tickets.register = s.tickets.register.map (fun e => { e with holder := 0 }) ∧
        t.tickets.owner = s.tickets.owner ∧ t.tickets.nextSerial = s.tickets.nextSerial) ∧
      (t.myId ≠ 0 → t.myId ≠ s.tickets.owner →
        t.tickets.register = [] ∧ t.tickets.owner = t.myId ∧ t.tickets.nextSerial = 1) ∧
      t.day = (if t.identity.inForce = none ∧ s.day.isOpen = true
        then { s.day with isOpen := false, tick := none } else s.day) ∧
      t.weigh = none ∧ t.payOp = none ∧ t.weighTimer.phase = .idle ∧ t.payTimer.phase = .idle ∧
      t.weighTimer.count = none ∧ t.payTimer.count = none ∧
      t.scale.silence = (if t.hasWeigh = true then some 500 else none) ∧ t.scale.last = none ∧
      t.scale.deckClear = false ∧ t.scale.captured = none ∧ t.scale.context = none ∧
      t.scale.inForce = s.settings.toScaleItems ∧
      t.link.state = .joining ∧ t.link.queue = [] ∧ t.link.roster = [] ∧ t.link.contexts = [] ∧
      t.link.restartOwed = true ∧
      t.link.joinTimer = (if t.identity.inForce = none then none else some 500) ∧
      t.link.announceTimer = none ∧ t.link.upAlone = none ∧ t.link.wire = none ∧ t.link.probe = none ∧
      t.link.undelivered = 0 ∧ t.link.crcErrors = 0 ∧
      t.printer.nextJob = 1 ∧ t.printer.stall = none ∧ t.printer.stalled = false ∧ t.printer.dataLines = some 0 ∧
      t.printer.busy = s.printer.busy ∧ t.printer.paperOut = s.printer.paperOut ∧ t.printer.fault = s.printer.fault ∧
      t.printer.jobs = [] ∧ t.printer.reprints = [] ∧ t.printer.port = .ready ∧ t.printer.load = none ∧
      t.flags.restarted = true ∧ (∀ f : Flag, f.isCondition = false → t.flag f = ⟨false, 0, .none⟩) ∧
      t.latched .printerFault = s.printer.fault ∧
      t.latched .cashWarn = decide (s.drawer.warn ≤ s.drawer.totals.cash) ∧
      t.latched .cashLimit = decide (s.drawer.limit ≤ s.drawer.totals.cash) ∧
      (t.latched .drawerLow = true ↔ ∃ p ∈ s.drawer.denominations, p.enabled = true ∧ p.count < p.lowMark) ∧
      t.latched .linkDown = false ∧ t.latched .idConflict = false ∧ t.notices.attnEnable = true ∧
      t.notices.queue.map Prod.snd =
        (if s.printer.fault = true then [Notice.flag .printerFault (.printer .fault)] else [])
        ++ (if s.drawer.warn ≤ s.drawer.totals.cash then [.flag .cashWarn (.cashPaid s.drawer.totals.cash)] else [])
        ++ (if s.drawer.limit ≤ s.drawer.totals.cash then [.flag .cashLimit (.cashPaid s.drawer.totals.cash)] else [])
        ++ (match (s.drawer.denominations.filter (fun p => p.enabled && decide (p.count < p.lowMark))).getLast? with
            | some p => [.flag .drawerLow (.denomination p.value)]
            | none => [])
        ++ (if t.identity.inForce = none ∧ s.day.isOpen = true then [.day s.day.number .closed 0] else []) ∧
      t.notices.queue.map Prod.fst = List.range t.notices.queue.length ∧
      t.notices.seq = t.notices.queue.length ∧
      t.port = { select := s.port.select, frame := if s.port.select = true then .notAFrame else .none, dataOut := [],
                 answer := [], position := 0, portError := false, answerNew := false }

/-- A loss of power leaves the retained store, the straps and the levels on the pins; every other block is at its
power-on values, and a second loss changes nothing. The retained store fails its check at power-on: it is cleared to
factory values, and RETAINED LOST is latched with count 1, its FLAG notice the first, then PRINTER FAULT's where FAULT
is active. The model's choices it rests on: log entries 4, 33, 37 and 59. -/
def Obligations.PowerLossAndALostStore : Prop :=
  (∀ s : State, s.powered = false → exec .powerLoss s = .next s) ∧
  (∀ s : State, s.powered = true →
     ∃ t : State, exec .powerLoss s = .next t ∧ t.powered = false ∧
       t = { s with powered := false, tickets := { s.tickets with cursor := none }, scale := t.scale, weigh := none,
                    link := t.link, weighTimer := t.weighTimer, payTimer := t.payTimer, payOp := none,
                    printer := t.printer, flags := t.flags, notices := t.notices, port := t.port } ∧
       t.scale = { zero := s.scale.zero, last := none, silence := none, deckClear := false, captured := none,
                   context := none, inForce := s.settings.toScaleItems } ∧
       t.link = { state := .joining, joinTimer := none, announceTimer := none, upAlone := none, queue := [], wire := none,
                  probe := none, undelivered := 0, restartOwed := true, contexts := [], roster := [], crcErrors := 0,
                  ackDriven := false } ∧
       t.weighTimer = { phase := .idle, subject := none, count := none } ∧ t.payTimer = t.weighTimer ∧
       t.printer = { header := s.printer.header, load := none, jobs := [], nextJob := 1, port := .ready, stall := none,
                     stalled := false, reprints := [], stream := [], leadLine := false, dataLines := some 0,
                     strobes := 0, busy := s.printer.busy, paperOut := s.printer.paperOut, fault := s.printer.fault } ∧
       (∀ f : Flag, t.flag f = ⟨false, 0, .none⟩) ∧ t.flags.restarted = true ∧
       t.notices = { queue := [], seq := 0, attnEnable := true } ∧
       t.port = { select := s.port.select, frame := if s.port.select = true then .notAFrame else .none, dataOut := [],
                  answer := [], position := 0, portError := false, answerNew := false }) ∧
  (∀ (i r l : Nat) (s : State), i ≤ 15 → r ≤ 3 → l ≤ 3 →
     ∃ t : State, exec (.powerOn i r l false) s = .next t ∧
       t.powered = true ∧ t.identity = ⟨⟨i, r, l⟩, none⟩ ∧
       t.tickets = { table := [], register := [], owner := t.myId, closed := [], nextSerial := 1, cursor := none } ∧
       t.pricing = { grades := [], totals := [] } ∧ t.drawer.denominations = [] ∧ t.drawer.limit = 2000000 ∧
       t.drawer.warn = 1600000 ∧ t.drawer.totals = ⟨0, 0, 0, 0, 0, 0, 0, 0⟩ ∧
       t.day = { isOpen := false, number := 0, clock := 0, tick := none, totals := ⟨0, 0, 0⟩ } ∧
       t.settings = ⟨⟨60000, 20, 10, 20, 10, 30⟩, 50, 120, .station, .line, true, true, true, 0, 1000000⟩ ∧
       t.scale.inForce = ⟨60000, 20, 10, 20, 10, 30⟩ ∧
       t.printer.header = [] ∧ t.printer.busy = s.printer.busy ∧ t.printer.paperOut = s.printer.paperOut ∧
       t.printer.fault = s.printer.fault ∧ t.printer.port = .ready ∧ t.printer.jobs = [] ∧ t.scale.zero = 0 ∧
       t.weigh = none ∧ t.payOp = none ∧ t.link.state = .joining ∧ t.link.queue = [] ∧ t.link.restartOwed = true ∧
       t.port = { select := s.port.select, frame := if s.port.select = true then .notAFrame else .none, dataOut := [],
                  answer := [], position := 0, portError := false, answerNew := false } ∧
       t.flags.retainedLost = { latched := true, count := 1, detail := .none } ∧
       t.latched .printerFault = s.printer.fault ∧
       (∀ f : Flag, f ≠ .retainedLost → f ≠ .printerFault → t.latched f = false) ∧
       t.notices = { queue := [(0, .flag .retainedLost .none)]
                       ++ (if s.printer.fault = true then [(1, .flag .printerFault (.printer .fault))] else [])
                     seq := if s.printer.fault = true then 2 else 1
                     attnEnable := true } ∧
       t.flags.restarted = true)

/-- RESET: the identity, the configuration, the day and the retained store stay; both slots are idle, custody of this
station's slots is free, the link joins again keeping unstarted bursts and CLOSED frames, with nothing on the wire and the
CRC errors counted so far, a burst that was under way marking its record pending; the flags are judged anew, PRINTER FAULT in
LOANED too, each that holds posting the notices the queue then consists of; with an unfit printer the job on the port stands
suspended, PRINTING become STOPPED and LOAN PENDING LOANED, and a cancelled job's cut is given up, the port STOPPED; with a
fit printer the job restarts in the same event, whether or not it waited for BUSY. The model's choices it rests on: log
entries 7, 18, 23, 25, 27, 30, 36, 37, 50, 59 and 61. -/
def Obligations.SoftReset : Prop :=
  ∀ s : State, s.takes 0 →
    let kept (i : QueueItem) : Bool := match i.burst with
      | some _ => !i.started && !i.onWire
      | none => decide (i.frames.head?.map Frame.kind = some .closed)
    let failed (r : Record) : Bool := s.link.queue.any (fun i =>
      decide (i.burst = some r.number) && i.slot.isNone && (i.started || i.onWire)) && decide (r.lastWriter = s.myId)
    let posted : List Notice :=
      (if s.printer.fault = true then [.flag .printerFault (.printer .fault)] else [])
        ++ (if s.drawer.warn ≤ s.drawer.totals.cash then [.flag .cashWarn (.cashPaid s.drawer.totals.cash)] else [])
        ++ (if s.drawer.limit ≤ s.drawer.totals.cash then [.flag .cashLimit (.cashPaid s.drawer.totals.cash)] else [])
        ++ (match lowestBelowMark s.drawer.denominations with
            | some v => [.flag .drawerLow (.denomination v)]
            | none => [])
    ∃ t : State, exec (.reset []) s = .next t ∧
      t.identity = s.identity ∧ t.settings = s.settings ∧ t.day = s.day ∧ t.pricing = s.pricing ∧
      t.drawer = s.drawer ∧ t.scale = { s.scale with context := none } ∧
      t.weigh = none ∧ t.payOp = none ∧ t.weighTimer.phase = .idle ∧ t.payTimer.phase = .idle ∧
      t.tickets = { s.tickets with
        table := s.tickets.table.map (fun r =>
          { r with pendingBroadcast := r.pendingBroadcast || failed r
                   custody := match r.custody with
                     | .claiming .. | .held .. => .free
                     | c => c })
        register := s.tickets.register.map (fun e => if e.holder = s.myId then { e with holder := 0 } else e)
        cursor := none } ∧
      t.link = { s.link with
        state := .joining, restartOwed := true, undelivered := 0, wire := none, probe := none
        joinTimer := if s.identity.inForce = none then none else some 500
        announceTimer := none, upAlone := none, contexts := []
        queue := (s.link.queue.filter kept).map (fun i =>
          { i with onWire := false, attempts := 0, timeout := none, timedOut := false }) } ∧
      t.printer.header = s.printer.header ∧ t.printer.reprints = s.printer.reprints ∧ t.printer.load = none ∧
      t.printer.jobs.map Job.number =
        (s.printer.jobs.filter (fun j => decide (j.state ≠ .waiting))).map Job.number ∧
      t.printer.stalled = false ∧ t.printer.nextJob = s.printer.nextJob ∧
      ((s.printer.paperOut = true ∨ s.printer.fault = true) →
        t.printer.port = (match s.printer.port with
          | .printing => .stopped | .loanPending => .loaned | .ready => .ready | .stopped => .stopped
          | .loaned => .loaned) ∧
        t.printer.jobs = (s.printer.jobs.filter (fun j => decide (j.state ≠ .waiting))).map (fun j =>
          { j with state := if j.state = .printing then .suspended else j.state, awaitsBusy := false })) ∧
      (s.printer.port = .printing → s.printer.paperOut = false → s.printer.fault = false →
        (∀ j ∈ s.printer.jobs, j.state ≠ .suspended) → (∀ j ∈ s.printer.jobs, j.state ≠ .printing) →
        t.printer.port = .stopped ∧ t.printer.stream = []) ∧
      (∀ j, (s.printer.port = .printing ∨ s.printer.port = .stopped) → s.printer.paperOut = false →
        s.printer.fault = false →
        s.printer.jobs.find? (fun j => decide (j.state = .printing ∨ j.state = .suspended)) = some j →
        t.printer.port = .printing ∧
          { j with state := .printing, sent := 0, restarts := min 255 (j.restarts + 1), awaitsBusy := false }
            ∈ t.printer.jobs) ∧
      t.flags.restarted = true ∧ (∀ f : Flag, f.isCondition = false → t.flag f = ⟨false, 0, .none⟩) ∧
      t.latched .printerFault = s.printer.fault ∧
      t.latched .cashWarn = decide (s.drawer.warn ≤ s.drawer.totals.cash) ∧
      t.latched .cashLimit = decide (s.drawer.limit ≤ s.drawer.totals.cash) ∧
      t.latched .drawerLow = s.drawer.denominations.any (fun p => p.enabled && decide (p.count < p.lowMark)) ∧
      t.latched .linkDown = false ∧ t.latched .idConflict = false ∧
      t.notices = { queue := (List.range posted.length).zip posted, seq := posted.length, attnEnable := true } ∧
      t.port = { select := false, frame := .none, dataOut := (s.accepted 0).port.dataOut, answer := [], position := 0,
                 portError := false, answerNew := false }

/-- SET IDENTITY with both slots idle: an ID of 1 to 15 with a role becomes the override, an ID of 0 removes it; the answer is
the identity now in force; the link joins again with the restart mark owed. Records last written under the old ID take the new
one as last writer, and with a new role the records leave the table that neither the role nor the last writer keeps. The
transmit queue keeps its unstarted bursts and CLOSED frames, nothing is on the wire, a burst that was under way marks its record
pending, and the roster keeps every entry but one of the new ID. An ID or role out of range is refused RANGE, a slot that works
BUSY. The model's choices it rests on: log entries 9, 10, 12, 19, 25, 27, 50, 59 and 70. -/
def Obligations.SetIdentity : Prop :=
  ∀ (x r : Byte) (s : State), s.takes 2 → s.day.isOpen = false →
    ((s.weigh ≠ none ∨ s.payOp ≠ none) → exec (.setIdentity [x, r]) s = .next ((s.accepted 2).answered [3])) ∧
    (s.weigh = none → s.payOp = none → x ≠ 0 → (15 < x.toNat ∨ r.toNat = 0 ∨ 3 < r.toNat) →
      exec (.setIdentity [x, r]) s = .next ((s.accepted 2).answered [5])) ∧
    (s.weigh = none → s.payOp = none → (x = 0 ∨ (x.toNat ≤ 15 ∧ 1 ≤ r.toNat ∧ r.toNat ≤ 3)) →
      ∃ t : State, exec (.setIdentity [x, r]) s = .next (State.answered
          (match t.identity.inForce with
           | some (i, role) => [1, byte i, byte role.code]
           | none => [1, 0, 0]) t) ∧
        t.identity.straps = s.identity.straps ∧
        t.identity.override.map (fun o => (o.1, o.2.code)) =
          (if x = 0 then none else some (x.toNat, r.toNat)) ∧
        t.settings = s.settings ∧ t.drawer = s.drawer ∧ t.pricing = s.pricing ∧ t.day = s.day ∧
        t.flags = s.flags ∧ t.notices = s.notices ∧ t.tickets.closed = s.tickets.closed ∧
        (t.myId ≠ 0 → t.tickets.owner = t.myId) ∧
        (t.myId ≠ 0 → t.myId ≠ s.tickets.owner → t.tickets.register = [] ∧ t.tickets.nextSerial = 1) ∧
        (t.myId = 0 ∨ t.myId = s.tickets.owner →
          t.tickets.register = s.tickets.register ∧ t.tickets.nextSerial = s.tickets.nextSerial) ∧
        t.weighTimer.phase = .idle ∧ t.payTimer.phase = .idle ∧
        t.link = { s.link with
          state := .joining, restartOwed := true, undelivered := 0, wire := none, probe := none
          joinTimer := if t.identity.inForce = none then none else some 500
          announceTimer := none, upAlone := none, contexts := []
          roster := s.link.roster.filter (fun p => decide (p.id ≠ t.myId))
          queue := (s.link.queue.filter (fun i => match i.burst with
            | some _ => !i.started && !i.onWire
            | none => decide (i.frames.head?.map Frame.kind = some .closed))).map (fun i =>
              { i with onWire := false, attempts := 0, timeout := none, timedOut := false }) } ∧
        t.scale = (if s.hasWeigh = t.hasWeigh then s.scale
          else if t.hasWeigh = true then { s.scale with
            last := none, silence := some 500, deckClear := false, captured := none, context := none }
          else { s.scale with last := none, silence := none, context := none }) ∧
        ((s.tickets.table.map Record.number).Nodup →
          let renamed := s.tickets.table.map (fun q =>
            if q.lastWriter = s.myId ∧ s.myId ≠ 0 ∧ t.myId ≠ 0 then { q with lastWriter := t.myId } else q)
          let failed (q : Record) : Bool := s.link.queue.any (fun i =>
            decide (i.burst = some q.number) && i.slot.isNone && (i.started || i.onWire)) && decide (q.lastWriter = t.myId)
          t.tickets.table =
            (if t.role = s.role then renamed
             else renamed.filter (fun q => q.custody.isOwn || decide (t.roleKeeps q))).map
              (fun q => { q with pendingBroadcast := q.pendingBroadcast || failed q })))

/-! ### Configuration and the day -/

/-- CONFIGURE sets one item within its range, the other items standing; a value outside its range, an unknown item and an item
named twice are refused RANGE; ranges that hang together, as those of division and motion band do, are judged on the values the
command would leave in force; a scale item is refused BUSY while the slot zeroes. CONFIGURE DEFAULTS sets every item to its
factory value. Neither changes the scale items in force, which wait for the next sample. The model's choices it rests on: log
entries 12, 59 and 63. -/
def Obligations.ConfigureAndDefaults : Prop :=
  ∀ s : State, s.day.isOpen = false →
    (∀ v : Nat, s.takes 5 → s.settings.inRange = true → s.weigh = none →
      (10000 ≤ v → v ≤ 150000 → v % s.settings.division = 0 → exec (.configure (1 :: bytesOf 4 v)) s =
        .next (State.answered [1] { s.accepted 5 with settings := { s.settings with capacity := v } })) ∧
      (v = 5 ∨ v = 10 ∨ v = 20 ∨ v = 50 → s.settings.capacity % v = 0 → s.settings.motionBand ≤ 5 * v →
        exec (.configure (2 :: bytesOf 4 v)) s =
        .next (State.answered [1] { s.accepted 5 with settings := { s.settings with division := v } })) ∧
      (3 ≤ v → v ≤ 32 → exec (.configure (3 :: bytesOf 4 v)) s =
        .next (State.answered [1] { s.accepted 5 with settings := { s.settings with windowLength := v } })) ∧
      (1 ≤ v → v ≤ 5 * s.settings.division → exec (.configure (4 :: bytesOf 4 v)) s =
        .next (State.answered [1] { s.accepted 5 with settings := { s.settings with motionBand := v } })) ∧
      (1 ≤ v → v ≤ 50 → exec (.configure (5 :: bytesOf 4 v)) s =
        .next (State.answered [1] { s.accepted 5 with settings := { s.settings with clearThreshold := v } })) ∧
      (5 ≤ v → v ≤ 120 → exec (.configure (6 :: bytesOf 4 v)) s =
        .next (State.answered [1] { s.accepted 5 with settings := { s.settings with captureTimeout := v } })) ∧
      (10 ≤ v → v ≤ 250 → exec (.configure (7 :: bytesOf 4 v)) s =
        .next (State.answered [1] { s.accepted 5 with settings := { s.settings with claimWindow := v } })) ∧
      (30 ≤ v → v ≤ 600 → exec (.configure (8 :: bytesOf 4 v)) s =
        .next (State.answered [1] { s.accepted 5 with settings := { s.settings with confirmTimeout := v } })) ∧
      (v = 1 ∨ v = 2 → exec (.configure (9 :: bytesOf 4 v)) s =
        .next (State.answered [1] { s.accepted 5 with settings :=
          { s.settings with faultScope := if v = 1 then .station else .block } })) ∧
      (v = 1 ∨ v = 2 → exec (.configure (10 :: bytesOf 4 v)) s =
        .next (State.answered [1] { s.accepted 5 with settings :=
          { s.settings with lockMode := if v = 1 then .line else .weighIn } })) ∧
      (v ≤ 1 → exec (.configure (11 :: bytesOf 4 v)) s =
        .next (State.answered [1] { s.accepted 5 with settings := { s.settings with homeCheck := decide (v = 1) } })) ∧
      (v ≤ 1 → exec (.configure (12 :: bytesOf 4 v)) s =
        .next (State.answered [1] { s.accepted 5 with settings :=
          { s.settings with receiptRequired := decide (v = 1) } })) ∧
      (v ≤ 1 → exec (.configure (13 :: bytesOf 4 v)) s =
        .next (State.answered [1] { s.accepted 5 with settings :=
          { s.settings with shortToTransfer := decide (v = 1) } })) ∧
      (v ≤ 300900000 → exec (.configure (14 :: bytesOf 4 v)) s =
        .next (State.answered [1] { s.accepted 5 with settings := { s.settings with regulatedCap := v } })) ∧
      (v ≤ 300900000 → exec (.configure (15 :: bytesOf 4 v)) s =
        .next (State.answered [1] { s.accepted 5 with settings := { s.settings with ticketCashMax := v } }))) ∧
    (∀ i v : Nat, s.takes 5 → s.settings.inRange = true → s.weigh = none → v < 2 ^ 32 →
      (i = 1 ∧ (v < 10000 ∨ 150000 < v ∨ v % s.settings.division ≠ 0) ∨
       i = 2 ∧ ((v ≠ 5 ∧ v ≠ 10 ∧ v ≠ 20 ∧ v ≠ 50) ∨ s.settings.capacity % v ≠ 0 ∨ 5 * v < s.settings.motionBand) ∨
       i = 3 ∧ (v < 3 ∨ 32 < v) ∨ i = 4 ∧ (v < 1 ∨ 5 * s.settings.division < v) ∨ i = 5 ∧ (v < 1 ∨ 50 < v) ∨
       i = 6 ∧ (v < 5 ∨ 120 < v) ∨ i = 7 ∧ (v < 10 ∨ 250 < v) ∨ i = 8 ∧ (v < 30 ∨ 600 < v) ∨
       (i = 9 ∨ i = 10) ∧ v ≠ 1 ∧ v ≠ 2 ∨ (i = 11 ∨ i = 12 ∨ i = 13) ∧ 1 < v ∨
       (i = 14 ∨ i = 15) ∧ 300900000 < v) →
      exec (.configure (byte i :: bytesOf 4 v)) s = .next ((s.accepted 5).answered [5])) ∧
    (∀ (i : Byte) (v w : Nat), s.takes 10 → s.weigh = none →
      exec (.configure ((i :: bytesOf 4 v) ++ (i :: bytesOf 4 w))) s = .next ((s.accepted 10).answered [5])) ∧
    (∀ d m : Nat, s.takes 10 → s.settings.inRange = true → s.weigh = none → m < 2 ^ 32 →
      (d = 5 ∨ d = 10 ∨ d = 20 ∨ d = 50) → s.settings.capacity % d = 0 →
      exec (.configure ((2 :: bytesOf 4 d) ++ (4 :: bytesOf 4 m))) s =
        (if 1 ≤ m ∧ m ≤ 5 * d
          then .next (State.answered [1]
            { s.accepted 10 with settings := { s.settings with division := d, motionBand := m } })
          else .next ((s.accepted 10).answered [5]))) ∧
    (∀ (i : Byte) (v : Nat), s.takes 5 → s.weigh = none → (i = 0 ∨ 15 < i.toNat) →
      exec (.configure (i :: bytesOf 4 v)) s = .next ((s.accepted 5).answered [5])) ∧
    (∀ (i : Byte) (v : Nat) (o : WeighOp), s.takes 5 → s.weigh = some o → o.phase = .zeroing →
      1 ≤ i.toNat → i.toNat ≤ 6 →
      exec (.configure (i :: bytesOf 4 v)) s = .next ((s.accepted 5).answered [3])) ∧
    (s.takes 0 → s.weigh = none → exec (.configureDefaults []) s = .next (State.answered [1]
      { s.accepted 0 with settings :=
          ⟨⟨60000, 20, 10, 20, 10, 30⟩, 50, 120, .station, .line, true, true, true, 0, 1000000⟩ }))

/-- DAY OPEN: in one change the day is OPEN with its number and its clock started, the day totals of every block are
0, each grade keeps its newest version from time 0, and settled register entries leave. It is refused NOT READY in
WAIT ID, RANGE for its number or time, HALTED while RETAINED LOST is latched. The model's choices it rests on: log
entries 12, 30 and 37. -/
def Obligations.DayOpen : Prop :=
  ∀ (n k : Nat) (s : State), s.takes 5 → s.day.isOpen = false → s.flags.restarted = false → n ≤ 65535 → k < 2 ^ 24 →
    let c := Instr.dayOpen (bytesOf 2 n ++ bytesOf 3 k)
    (s.identity.inForce = none → exec c s = .next ((s.accepted 5).answered [10])) ∧
    (s.identity.inForce ≠ none → (n = 0 ∨ 172799 < k) → exec c s = .next ((s.accepted 5).answered [5])) ∧
    (s.identity.inForce ≠ none → n ≠ 0 → k ≤ 172799 → s.flags.retainedLost.latched = true →
      exec c s = .next ((s.accepted 5).answered [13])) ∧
    (s.identity.inForce ≠ none → n ≠ 0 → k ≤ 172799 → s.flags.retainedLost.latched = false →
      ∃ t : State, exec c s = .next (State.answered [1] t) ∧
        t = { s.accepted 5 with
          day := { isOpen := true, number := n, clock := k, tick := some 1000, totals := ⟨0, 0, 0⟩ }
          tickets := { s.tickets with register := s.tickets.register.filter (fun e =>
            decide (e.life = .opened) || decide (e.life = .complete)) }
          pricing := t.pricing
          drawer := { s.drawer with totals := ⟨0, 0, 0, 0, 0, 0, 0, 0⟩ }
          flags := t.flags
          notices := t.notices } ∧
        t.pricing.totals = [] ∧
        t.pricing.grades = s.pricing.grades.map (fun p => (p.1, { p.2 with versions :=
          match p.2.versions.getLast? with
          | some v => [{ v with effective := 0 }]
          | none => [] })) ∧
        t.latched .cashWarn = (s.latched .cashWarn || decide (s.drawer.warn = 0)) ∧
        t.latched .cashLimit = (s.latched .cashLimit || decide (s.drawer.limit = 0)) ∧
        (s.notices.queue.length ≤ 12 → ∃ q, (q, Notice.day n .opened 0) ∈ t.notices.queue))

/-- DAY CLOSE is refused BUSY while a slot works, and PRINT QUEUE FULL when its report has no room while receipts are required.
A plain DAY CLOSE with no OPEN entry of the register: the DAY REPORT is queued, the day is CLOSED, its clock stopped, every
total kept. An OPEN entry refuses it. DAY CLOSE FORCE with no OPEN entry held: each OPEN entry becomes VOIDED with holder 0 and
no claim, the other entries staying; its ticket enters the closed list in the order of the register, its record leaves the
table, and its CLOSED frame goes to the link where the queue has room; the voids are counted and the count is answered, the
report is made after them, and the day is CLOSED. An OPEN entry with a holder refuses it. The model's choices it rests on: log
entries 10, 11 and 37. -/
def Obligations.DayClosePlainAndForce : Prop :=
  (∀ (b : Byte) (s : State), s.takes 1 → s.day.isOpen = true → s.flags.restarted = false → b.toNat ≤ 1 →
     (s.weigh ≠ none ∨ s.payOp ≠ none → exec (.dayClose [b]) s = .next ((s.accepted 1).answered [3])) ∧
     (s.weigh = none → s.payOp = none → (∀ e ∈ s.tickets.register, e.life ≠ .opened) →
       s.settings.receiptRequired = true → 8 ≤ s.printer.jobs.length →
       exec (.dayClose [b]) s = .next ((s.accepted 1).answered [20]))) ∧
  (∀ s : State, s.takes 1 → s.day.isOpen = true → s.flags.restarted = false → s.weigh = none → s.payOp = none →
     ((∃ e ∈ s.tickets.register, e.life = .opened) →
       exec (.dayClose [0]) s = .next ((s.accepted 1).answered [21])) ∧
     ((∀ e ∈ s.tickets.register, e.life ≠ .opened) → s.printer.jobs.length < 8 → s.notices.queue.length < 16 →
       exec (.dayClose [0]) s = .next (State.answered [1, byte s.printer.nextNumber, 0, 0]
         { s.accepted 1 with
           day := { s.day with isOpen := false, tick := none }
           printer := { s.printer with
             load := none
             jobs := s.printer.jobs ++
               [{ number := s.printer.nextNumber, kind := .dayReport, ticket := none, copy := 0, restarts := 0,
                  state := .queued, lines := dayReportLines s, sent := 0, awaitsBusy := false }]
             nextJob := if 255 ≤ s.printer.nextNumber then 1 else s.printer.nextNumber + 1 }
           notices := { s.notices with
             queue := s.notices.queue ++ [(s.notices.seq, .day s.day.number .closed 0)]
             seq := (s.notices.seq + 1) % 256 } }))) ∧
  (∀ s : State, s.takes 1 → s.day.isOpen = true → s.flags.restarted = false → s.weigh = none → s.payOp = none →
     ((∃ e ∈ s.tickets.register, e.life = .opened ∧ e.holder ≠ 0) →
       exec (.dayClose [1]) s = .next ((s.accepted 1).answered [4])) ∧
     (s.tickets.owner ≠ 0 → (∀ e ∈ s.tickets.register, e.life = .opened → e.holder = 0) → s.printer.jobs.length < 8 →
       s.tickets.register.Pairwise (fun a b => a.serial < b.serial) → s.tickets.closed.length ≤ 32 →
       let opens := s.tickets.register.filter (fun e => decide (e.life = .opened))
       let number (e : RegEntry) : TicketNo := { home := s.tickets.owner, serial := e.serial }
       let seller (e : RegEntry) : Bool := match s.findRecord (number e) with
         | some r => r.seller.isSome
         | none => false
       (∀ e ∈ opens, s.closedEntry (number e) = none) →
       let voided := if opens.length = 0 then s.day.totals.voided else min 65535 (s.day.totals.voided + opens.length)
       let closed := s.tickets.closed ++ opens.map (fun e =>
         { number := number e, closure := .settled .voided 0 0 s.myId (seller e) })
       ∃ t : State, exec (.dayClose [1]) s =
           .next (State.answered ([1, byte s.printer.nextNumber] ++ bytesOf 2 opens.length) t) ∧
         t = { s.accepted 1 with
           day := { s.day with isOpen := false, tick := none, totals := { s.day.totals with voided := voided } }
           tickets := { s.tickets with
             table := t.tickets.table
             register := s.tickets.register.map (fun e =>
               if e.life = .opened then { e with life := .voided, holder := 0 } else e)
             closed := closed.drop (closed.length - 32)
             cursor := t.tickets.cursor }
           link := { s.link with queue := t.link.queue }
           printer := { s.printer with
             load := none
             jobs := s.printer.jobs ++
               [{ number := s.printer.nextNumber, kind := .dayReport, ticket := none, copy := 0, restarts := 0,
                  state := .queued, sent := 0, awaitsBusy := false
                  lines := dayReportLines
                    { s with day := { s.day with totals := { s.day.totals with voided := voided } } } }]
             nextJob := if 255 ≤ s.printer.nextNumber then 1 else s.printer.nextNumber + 1 }
           flags := t.flags
           notices := t.notices } ∧
         t.tickets.table.map (fun r => { r with pendingBroadcast := false }) =
           (s.tickets.table.filter (fun r => !(opens.any (fun e => decide (r.number = number e))))).map
             (fun r => { r with pendingBroadcast := false }) ∧
         (s.occupied + opens.length ≤ 24 → t.link.queue = opens.foldl
           (fun q e => placed (.single (.closed (number e) .voided 0 0 (seller e))) q) s.link.queue) ∧
         (24 ≤ s.occupied →
           (∀ i ∈ s.link.queue, i.burst = none ∧ i.frames.head?.map Frame.kind ≠ some .announce) →
           t.link.queue = s.link.queue) ∧
         (s.notices.queue.length < 16 → t.flags = s.flags ∧ t.notices = { s.notices with
           queue := s.notices.queue ++ [(s.notices.seq, .day s.day.number .closed opens.length)]
           seq := (s.notices.seq + 1) % 256 })))

/-- The yard clock: a running clock advances by one each second and holds at 172,799; in the event of reaching the top
a DAY notice is posted; a stopped clock does nothing. The model's choices it rests on: log entries 1, 5 and 6. -/
def Obligations.YardClock : Prop :=
  ∀ s : State,
    (s.day.tick = none → exec .yardClockTick s = .next s ∧ exec .clockTop s = .next s) ∧
    (∀ r, s.powered = true → s.day.tick = some r → s.day.clock ≤ 172799 → s.day.clock ≠ 172798 →
      exec .yardClockTick s = .next (settle { elapse r s with day :=
        { s.day with clock := if s.day.clock = 172799 then 172799 else s.day.clock + 1, tick := some 1000 } })) ∧
    (∀ r, s.powered = true → s.day.tick = some r → s.day.clock = 172798 → s.notices.queue.length < 16 →
      let t := settle { elapse r s with
        day := { s.day with clock := 172799, tick := some 1000 }
        notices := { s.notices with
          queue := s.notices.queue ++ [(s.notices.seq, .day s.day.number .clockTop 0)]
          seq := (s.notices.seq + 1) % 256 } }
      exec .yardClockTick s = .next t ∧ exec .clockTop s = .next t) ∧
    (∀ r, s.powered = false → s.day.tick = some r → s.day.clock < 172799 →
      exec .yardClockTick s = .next { elapse r s with day := { s.day with clock := s.day.clock + 1, tick := some 1000 } })

/-! ### The weigh slot -/

/-- NEW TICKET with its checks passed: the slot captures with target NEW, its places reserved; the table and the
register full refuse it, in that order. ZERO in an idle slot whose gate passes opens a ZERO context; the slot is
then ZEROING. The capture timer starts at the capture timeout in force, that of the last sample. The model's choices it
rests on: log entry 59. -/
def Obligations.NewTicketAndZeroOpenAContext : Prop :=
  (∀ (tag seller : Text) (s : State), let ps := textBytes tag ++ textBytes seller
     s.takes ps.length → s.hasWeigh = true → s.day.isOpen = true → s.flags.restarted = false → s.weigh = none →
     tag.length ≤ 12 → seller.length ≤ 16 → (∀ c ∈ tag ++ seller, 32 ≤ c ∧ c ≤ 126) →
     gatePasses .newTicket s = true → s.link.state ≠ .silent →
     (48 ≤ s.tickets.table.length →
       exec (.newTicket ps) s = .next ((s.accepted ps.length).answered [11])) ∧
     (s.tickets.table.length < 48 → 1024 ≤ s.tickets.register.length →
       exec (.newTicket ps) s = .next ((s.accepted ps.length).answered [12])) ∧
     (s.tickets.table.length < 48 → s.tickets.register.length < 1024 →
       (s.settings.receiptRequired = true → s.printer.jobs.length < 8) →
       exec (.newTicket ps) s = .next (State.answered [2]
         { s.accepted ps.length with
           weigh := some { phase := .capturing
                           kind := .newTicket (if tag = [] then none else some tag)
                                              (if seller = [] then none else some seller)
                           target := none, grant := .notYet, claimedStep := 0, reserved := true, closing := false }
           scale := { s.scale with
             context := some { kind := .capture .newTicket, window := [], timer := 1000 * s.scale.inForce.captureTimeout,
                               stableSeen := false } } }))) ∧
  (∀ s : State, s.takes 0 → s.hasWeigh = true → gatePasses .zero s = true →
     (s.weigh ≠ none → exec (.zero []) s = .next ((s.accepted 0).answered [3])) ∧
     (s.weigh = none → exec (.zero []) s = .next (State.answered [2]
       { s.accepted 0 with
         weigh := some { phase := .zeroing, kind := .zero, target := none, grant := .notYet, claimedStep := 0,
                         reserved := false, closing := false }
         scale := { s.scale with
           context := some { kind := .zeroing, window := [], timer := 1000 * s.scale.inForce.captureTimeout,
                             stableSeen := false } } })))

/-- WEIGH STEP with its checks in their order: the slot BUSY, RANGE, HALTED, CLOSED, NO TICKET, STALE with the ASK offered again,
NOT ALLOWED for a COMPLETE record, BUSY for custody not FREE, LINES FULL for the eighth line without the final mark and for a
ninth, PRINT QUEUE FULL; then the claim engine's HOME ABSENT, LINK DOWN and LINK BUSY. A refusal changes nothing but the port and,
for STALE, the queue. In UP custody is CLAIMING, the claim timer QUEUED, and the CLAIM stands in the queue behind its class. A
local grant, in ALONE and in DOWN, makes custody HELD, the claim timer GRANTED and the register holder this station, queues
nothing, notes the link state and opens the capture. The model's choices it rests on: log entries 9, 51, 59 and 68. -/
def Obligations.WeighStepAsksForCustody : Prop :=
  ∀ (n : TicketNo) (g d f : Nat) (s : State),
    let ps := ticketBytes n ++ [byte g] ++ bytesOf 2 d ++ [byte f]
    let refused (code : Byte) : Prop := exec (.weighStep ps) s = .next ((s.accepted 7).answered [code])
    s.takes 7 → s.hasWeigh = true → s.day.isOpen = true → s.flags.restarted = false →
    n.home ≤ 255 → n.serial ≤ 65535 → g ≤ 255 → d ≤ 65535 → f ≤ 255 →
    (s.weigh ≠ none → refused 3) ∧
    (s.weigh = none → ¬ s.stepInRange n g d f → refused 5) ∧
    (s.weigh = none → s.stepInRange n g d f → gatePasses .weighStep s = false → refused 13) ∧
    (s.weigh = none → s.stepInRange n g d f → gatePasses .weighStep s = true →
      s.ticketChecks n (fun life => life = .opened) refused
        (fun r => exec (.weighStep ps) s = .next (State.answered [8]
          { s.accepted 7 with link := { s.link with queue := s.queueAsking n r.step } }))
        (fun r =>
          let op : WeighOp := { phase := .claiming, kind := .weighStep g d (decide (f = 1)), target := some n,
                                grant := .notYet, claimedStep := r.step, reserved := false, closing := false }
          let sub : Subject := ⟨n, .weigh, r.step⟩
          let full : Prop := (r.lines.length = 7 ∧ f = 0) ∨ 8 ≤ r.lines.length
          let noRoom : Prop := s.settings.receiptRequired = true ∧ 8 ≤ s.printer.jobs.length
          (full → refused 18) ∧ (¬ full → noRoom → refused 20) ∧
          (¬ full → ¬ noRoom → s.claimEnds n refused
            (exec (.weighStep ps) s = .next (State.answered [2] { s.accepted 7 with
              weigh := some op
              weighTimer := { phase := .queued, subject := some sub, count := none }
              tickets := s.tickets.claimed n .weigh .weigh
              link := { s.link with queue := s.queueClaiming .weigh sub } }))
            (exec (.weighStep ps) s = .next (State.answered [2] { s.accepted 7 with
              weigh := some { op with phase := .capturing, grant := .byLink s.link.state }
              weighTimer := { phase := .granted, subject := some sub, count := none }
              tickets := s.tickets.held n (.held .weigh .weigh) s.myId
              scale := { s.scale with
                context := some { kind := .capture (.ticket n), window := [],
                                  timer := 1000 * s.scale.inForce.captureTimeout, stableSeen := false } } })))))

/-- VOID TICKET runs in the weigh slot at a BRIDGE station and for an OPEN or unknown ticket at a BOTH station, in the pay slot
at a WINDOW station and for a COMPLETE ticket at a BOTH station. Its checks and the claim engine's refusals are those of WEIGH
STEP but for the life and the lines, and the other slot is not asked. In UP the CLAIM is queued. A local grant is the commit: the
ticket enters the closed list, its record leaves, the register entry is VOIDED, the count grows, the CLOSED frame is queued, the
VOID SLIP made, with its OFFLINE line in DOWN, and the slot is IDLE with a DONE notice. The model's choices it rests on: log
entry 11. -/
def Obligations.VoidTicketCommitsOrClaims : Prop :=
  ∀ (n : TicketNo) (s : State),
    let ps := ticketBytes n
    let refused (code : Byte) : Prop := exec (.voidTicket ps) s = .next ((s.accepted 3).answered [code])
    s.takes 3 → s.day.isOpen = true → s.flags.restarted = false → n.home ≤ 255 → n.serial ≤ 65535 →
    let slot : SlotId := s.voidRunsIn n
    (¬ s.slotIdle slot → refused 3) ∧
    (s.slotIdle slot → ¬ ticketInRange n → refused 5) ∧
    (s.slotIdle slot → ticketInRange n → gatePasses .voidTicket s = false → refused 13) ∧
    (s.slotIdle slot → ticketInRange n → gatePasses .voidTicket s = true →
      s.ticketChecks n (fun _ => True) refused
        (fun r => exec (.voidTicket ps) s = .next (State.answered [8]
          { s.accepted 3 with link := { s.link with queue := s.queueAsking n r.step } }))
        (fun r =>
          let sub : Subject := ⟨n, .void, r.step⟩
          let timer (phase : Phase) : ClaimTimer := { phase := phase, subject := some sub, count := none }
          let noRoom : Prop := s.settings.receiptRequired = true ∧ 8 ≤ s.printer.jobs.length
          (noRoom → refused 20) ∧
          (¬ noRoom → s.claimEnds n refused
            (exec (.voidTicket ps) s = .next (State.answered [2] { s.accepted 3 with
              weigh := if slot = .weigh then
                  some { phase := .claiming, kind := .void, target := some n, grant := .notYet, claimedStep := r.step,
                         reserved := false, closing := false }
                else s.weigh
              payOp := if slot = .pay then
                  some { isVoid := true, target := n, given := none, placeholder := none, grant := .notYet,
                         claimedStep := r.step, closing := false, offer := none, confirm := none }
                else s.payOp
              weighTimer := if slot = .weigh then timer .queued else s.weighTimer
              payTimer := if slot = .pay then timer .queued else s.payTimer
              tickets := s.tickets.claimed n slot .void
              link := { s.link with queue := s.queueClaiming slot sub } }))
            (s.occupied < 24 → s.printer.jobs.length < 8 → s.notices.queue.length < 16 →
              exec (.voidTicket ps) s = .next (State.answered [2] { s.accepted 3 with
                weighTimer := if slot = .weigh then timer .committed else s.weighTimer
                payTimer := if slot = .pay then timer .committed else s.payTimer
                scale := if slot = .weigh then { s.scale with context := none } else s.scale
                tickets := { s.tickets with
                  closed := s.tickets.closed.drop (if 32 ≤ s.tickets.closed.length then 1 else 0) ++
                    [{ number := n, closure := .settled .voided 0 0 s.myId r.seller.isSome }]
                  table := s.tickets.table.filter (fun x => decide (x.number ≠ n))
                  cursor :=
                    if s.tickets.cursor = some n
                    then ((s.tickets.table.takeWhile (fun x => decide (x.number ≠ n))).getLast?).map Record.number
                    else s.tickets.cursor
                  register :=
                    if n.home = s.tickets.owner ∧ s.tickets.owner ≠ 0
                    then s.tickets.register.map (fun e =>
                      if e.serial = n.serial then { e with life := .voided, holder := 0 } else e)
                    else s.tickets.register }
                day := { s.day with totals := { s.day.totals with voided := min 65535 (s.day.totals.voided + 1) } }
                link := { s.link with queue := placed (.single (.closed n .voided 0 0 r.seller.isSome)) s.link.queue }
                printer := { s.printer with
                  load := none
                  jobs := s.printer.jobs ++
                    [{ number := s.printer.nextNumber, kind := .voidSlip, ticket := some n, copy := 0, restarts := 0,
                       state := .queued, lines := voidSlipLines r (decide (s.link.state = .down)) s, sent := 0,
                       awaitsBusy := false }]
                  nextJob := if 255 ≤ s.printer.nextNumber then 1 else s.printer.nextNumber + 1 }
                notices := { s.notices with
                  queue := s.notices.queue ++ [(s.notices.seq, .done slot .ok (some n) none 0 0)]
                  seq := (s.notices.seq + 1) % 256 } })))))

/-- WEIGH CANCEL: with no operation it is refused; a NEW TICKET or ZERO just ends CANCELLED; a step that holds custody gives it
back with a RELEASE on the closing place that a hold by frame has; a claim not yet sent is withdrawn from the queue, and in
place of one that has been on the wire, or was delivered, a RELEASE goes out. A record that neither the role nor the last writer
keeps leaves the table. The model's choices it rests on: log entries 25, 26 and 41. -/
def Obligations.WeighCancel : Prop :=
  ∀ s : State, s.takes 0 → s.hasWeigh = true →
    (s.weigh = none → exec (.weighCancel []) s = .next ((s.accepted 0).answered [4])) ∧
    (∀ o, s.weigh = some o → s.notices.queue.length < 16 →
      let cancelled : State := { s.accepted 0 with
        weigh := none
        scale := { s.scale with context := none }
        notices := { s.notices with queue := s.notices.queue ++ [(s.notices.seq, .done .weigh .cancelled o.target none 0 0)]
                                    seq := (s.notices.seq + 1) % 256 } }
      (o.target = none → exec (.weighCancel []) s = .next (State.answered [1] cancelled)) ∧
      (∀ r, o.target = some r.number → s.findRecord r.number = some r →
        let release : QueueItem := .single (.release r.number)
        let others : List QueueItem := s.link.queue.filter (fun i => decide (i.slot ≠ some .weigh))
        let ended (k : Tickets) (queue : List QueueItem) : Prop :=
          exec (.weighCancel []) s = .next (State.answered [1] { cancelled with
            weighTimer := { s.weighTimer with phase := .ended, count := none }
            tickets := k
            link := { s.link with queue := queue } })
        let back : Tickets := s.tickets.handedBack r (s.roleKeeps r)
        (o.phase = .capturing → r.custody = .held .weigh .weigh →
          ended back (if o.closing = true then placed release s.link.queue else s.link.queue)) ∧
        (∀ p, o.phase = .claiming → r.custody = .claiming .weigh p →
          (∀ i, s.link.queue.filter (fun i => decide (i.slot = some .weigh)) = [i] →
            (i.started = false → i.onWire = false → ended { back with register := s.tickets.register } others) ∧
            ((i.started = true ∨ i.onWire = true) → ended back (placed release others))) ∧
          ((∀ i ∈ s.link.queue, i.slot ≠ some .weigh) → o.closing = true →
            ended back (placed release s.link.queue)))))

/-! ### The scale -/

/-- The captured weight is the multiple of the division nearest to the average of the window's net weights, and of
two equally near the one away from zero. -/
def Obligations.CapturedWeightIsNearest : Prop :=
  ∀ (c : ScaleItems) (zero sum : Int), 0 < c.windowLength → 0 < c.division →
    let w := capturedWeight c zero sum
    (∃ k : Int, w = c.division * k) ∧
    2 * ((c.windowLength : Int) * w - (sum - c.windowLength * zero)).natAbs ≤ c.windowLength * c.division ∧
    (2 * ((c.windowLength : Int) * w - (sum - c.windowLength * zero)).natAbs = c.windowLength * c.division →
      (sum - c.windowLength * zero).natAbs < ((c.windowLength : Int) * w).natAbs)

/-- A sample with no capture in progress: it becomes the last sample, restarts the silence timer and brings the scale items
last configured into force; a fault status latches SCALE FAULT, an overload latches OVERLOAD with its net value, and an OK
sample of at most the clear threshold sets deck clear. A station without a weigh slot, and a malformed message, change
nothing. In a capture a sample goes into the window, which holds the last M samples, the oldest leaving a full one: while
the window is short, holds a sample that is not good, or spreads over more than the motion band, only the window changes; a
stable window whose deck condition does not hold is noted; an overloaded sample latches OVERLOAD and stands in the window as
not good; a fault sample ends the capture SCALE FAULT, and gives a weigh step's hold back with a RELEASE. The model's
choices it rests on: log entry 59. -/
def Obligations.SamplesOutsideAndInsideACapture : Prop :=
  (∀ (raw : Int) (s : State), s.powered = true → -99999 ≤ raw → raw ≤ 199999 →
     let net := raw - s.scale.zero
     let clear := if net ≤ (s.settings.clearThreshold * s.settings.division : Int) then true else s.scale.deckClear
     (∀ st, s.hasWeigh = false → exec (.sampleMessage st raw) s = .next (settle s)) ∧
     exec .malformedSample s = .next (settle s) ∧
     (s.hasWeigh = true → s.scale.context = none →
       exec (.sampleMessage .cellFault raw) s = .next (settle (latchEvent .scaleFault (.scale .cellFault)
         { s with scale := s.sampled .cellFault raw })) ∧
       exec (.sampleMessage .converterFault raw) s = .next (settle (latchEvent .scaleFault (.scale .converterFault)
         { s with scale := s.sampled .converterFault raw })) ∧
       exec (.sampleMessage .overload raw) s = .next (settle (latchEvent .overload (.overload .status net)
         { s with scale := s.sampled .overload raw })) ∧
       ((s.settings.capacity + 9 * s.settings.division : Int) < net →
         exec (.sampleMessage .ok raw) s = .next (settle (latchEvent .overload (.overload .net net)
           { s with scale := { s.sampled .ok raw with deckClear := clear } }))) ∧
       (net ≤ (s.settings.capacity + 9 * s.settings.division : Int) →
         exec (.sampleMessage .ok raw) s = .next (settle
           { s with scale := { s.sampled .ok raw with deckClear := clear } })))) ∧
  (∀ (raw : Int) (c : CaptureContext) (s : State), s.powered = true → s.hasWeigh = true → -99999 ≤ raw →
     raw ≤ 199999 → s.scale.context = some c →
     let net := raw - s.scale.zero
     let window (good : Bool) : List WindowSample := s.windowWith raw good c
     let clear := if net ≤ (s.settings.clearThreshold * s.settings.division : Int) then true else s.scale.deckClear
     (net ≤ (s.settings.capacity + 9 * s.settings.division : Int) →
       ((window true).length < s.settings.windowLength ∨ (∃ x ∈ window true, x.good = false) ∨
         (∃ x ∈ window true, ∃ y ∈ window true, (s.settings.motionBand : Int) < x.raw - y.raw)) →
       exec (.sampleMessage .ok raw) s = .next (settle { s with scale := { s.sampled .ok raw with
         deckClear := clear, context := some { c with window := window true } } })) ∧
     (∀ target, net ≤ (s.settings.capacity + 9 * s.settings.division : Int) → 0 < s.settings.windowLength →
       s.settings.windowLength ≤ c.window.length + 1 → (∀ x ∈ window true, x.good = true) →
       (∀ x ∈ window true, ∀ y ∈ window true, x.raw - y.raw ≤ s.settings.motionBand) →
       c.kind = .capture target → clear = false → (target = .newTicket ∨ s.scale.captured ≠ some target) →
       exec (.sampleMessage .ok raw) s = .next (settle { s with scale := { s.sampled .ok raw with
         context := some { c with window := window true, stableSeen := true } } })) ∧
     ((s.settings.capacity + 9 * s.settings.division : Int) < net →
       exec (.sampleMessage .ok raw) s = .next (settle (latchEvent .overload (.overload .net net)
         { s with scale := { s.sampled .ok raw with
             deckClear := clear, context := some { c with window := window false } } }))) ∧
     exec (.sampleMessage .overload raw) s = .next (settle (latchEvent .overload (.overload .status net)
       { s with scale := { s.sampled .overload raw with context := some { c with window := window false } } })) ∧
     (∀ (st : SampleStatus) (o : WeighOp), (st = .cellFault ∨ st = .converterFault) → s.weigh = some o →
       s.notices.queue.length < 15 →
       ∃ t : State, exec (.sampleMessage st raw) s = .next (settle t) ∧ t.weigh = none ∧
         t.scale = { s.sampled st raw with context := none } ∧
         t.latched .scaleFault = true ∧
         (∃ q, (q, Notice.done .weigh .scaleFault o.target none 0 0) ∈ t.notices.queue) ∧
         t.day = s.day ∧ t.pricing = s.pricing ∧ t.drawer = s.drawer ∧ t.tickets.closed = s.tickets.closed ∧
         (o.target = none → t.tickets = s.tickets ∧ t.link = s.link) ∧
         (∀ n, o.target = some n → (∀ x ∈ t.tickets.table, x.number = n → x.custody = .free) ∧
           (o.closing = true → ∃ i ∈ t.link.queue, i.frames = [.release n]))))

/-- The sample that completes a stable window of a NEW TICKET, filling it or sliding a full one, creates the ticket where the
deck condition holds. Its serial is the first from the next serial on, 65,535 followed by 1, that no register entry, record or
closed list entry has; record, register entry and next serial, the day's count, the slip and the DONE notice follow; the burst
is queued whole, or the record is marked pending broadcast; the deck is no longer clear. A captured weight below 20 divisions
ends the command NO LOAD, one below 0 UNDER ZERO, and a full print queue with RECEIPT REQUIRED on PRINT QUEUE FULL, with no
record. The model's choices it rests on: log entries 35, 37, 53 and 59. -/
def Obligations.CaptureCreatesTheTicket : Prop :=
  ∀ (raw : Int) (c : CaptureContext) (o : WeighOp) (tag seller : Option Text) (s : State),
    s.captureCompletes .newTicket raw c →
    (s.scale.deckClear = true ∨ raw - s.scale.zero ≤ (s.settings.clearThreshold * s.settings.division : Int)) →
    s.weigh = some o → o.kind = .newTicket tag seller → o.target = none → s.notices.queue.length < 16 →
    let n : TicketNo := { home := s.myId, serial := s.allocated }
    let w := (s.capturedWith raw c).toNat
    let live (m : Nat) : Prop := (∃ e ∈ s.tickets.register, e.serial = m) ∨
      (∃ r ∈ s.tickets.table, r.number = ⟨s.myId, m⟩) ∨ (∃ e ∈ s.tickets.closed, e.number = ⟨s.myId, m⟩)
    let made : Record :=
      { number := n, issueDay := s.day.number, life := .opened, step := 0, grossIn := w, lastWeight := w,
        weighInTime := s.day.clock, lastStepTime := s.day.clock, lines := [], tag := tag, seller := seller,
        offline := decide (s.link.state = .down), priceEarly := false, lastWriter := s.myId, custody := .free,
        stale := false, pendingBroadcast := false }
    (s.ticketsOk → ∃ k, n.serial = (s.tickets.nextSerial - 1 + k) % 65535 + 1 ∧ ¬ live n.serial ∧
      ∀ j, j < k → live ((s.tickets.nextSerial - 1 + j) % 65535 + 1)) ∧
    ((20 * s.settings.division : Int) ≤ s.capturedWith raw c → s.printer.jobs.length < 8 →
      ∃ t : State, exec (.sampleMessage .ok raw) s = .next (settle t) ∧
        (if s.link.state ≠ .down ∧ s.link.state ≠ .silent ∧ s.placesUsed (s.queueWithout n) + made.burst.length ≤ 24
         then t.link = { s.link with queue := placed (burstItem made) (s.queueWithout n) } ∧
           t.tickets.table = s.tickets.table ++ [made]
         else t.link = s.link ∧ t.tickets.table = (s.tickets.table ++ [made]).map (fun x =>
           if x.number = n then { x with pendingBroadcast := true } else x)) ∧
        { serial := n.serial, life := .opened, step := 0, holder := 0, issueDay := s.day.number } ∈ t.tickets.register ∧
        t.tickets.register.length = s.tickets.register.length + 1 ∧
        t.tickets.nextSerial = (if 65535 ≤ n.serial then 1 else n.serial + 1) ∧
        t.tickets.closed = s.tickets.closed ∧
        t.scale = { s.sampled .ok raw with deckClear := false, captured := some (.ticket n), context := none } ∧
        t.day = { s.day with totals := { s.day.totals with issued := min 65535 (s.day.totals.issued + 1) } } ∧
        t.weigh = none ∧ t.settings = s.settings ∧ t.drawer = s.drawer ∧ t.pricing = s.pricing ∧ t.flags = s.flags ∧
        (∃ j ∈ t.printer.jobs, j.kind = .weighSlip ∧ j.ticket = some n ∧ j.state = .queued ∧ j.copy = 0) ∧
        t.notices.queue = s.notices.queue ++ [(s.notices.seq, .done .weigh .ok (some n) none 0 0)]) ∧
    (let ended (out : Result) (scale : ScaleUnit) : State := { s with
       weigh := none, scale := scale,
       notices := { s.notices with queue := s.notices.queue ++ [(s.notices.seq, .done .weigh out none none 0 0)]
                                   seq := (s.notices.seq + 1) % 256 } }
     (0 ≤ s.capturedWith raw c → s.capturedWith raw c < (20 * s.settings.division : Int) →
       exec (.sampleMessage .ok raw) s = .next (settle (ended .noLoad
         { s.sampled .ok raw with deckClear := false, captured := some .newTicket, context := none }))) ∧
     (s.capturedWith raw c < 0 →
       exec (.sampleMessage .ok raw) s = .next (settle (ended .underZero { s.sampled .ok raw with
         deckClear := true, context := none }))) ∧
     ((20 * s.settings.division : Int) ≤ s.capturedWith raw c → s.settings.receiptRequired = true →
       8 ≤ s.printer.jobs.length → exec (.sampleMessage .ok raw) s = .next (settle (ended .printQueueFull
         { s.sampled .ok raw with deckClear := false, captured := some .newTicket, context := none }))))

/-- The sample that completes a weigh step's window, filling it or sliding a full one, commits the step, whatever the grant: one
line is appended, its net the weight since the last step, its values from the grade table as it stands, marked OFFLINE where the
grant was local with the link DOWN; the record, the register, the counts and the hold follow, and the grade's day totals take
the line, a total that would pass an end of its range holding there with a held mark; the conditions on a record's lines stay
true. The burst goes out, its HEAD on the closing place a hold by frame has; where it is not queued whole, a RELEASE takes that
place and the record is pending broadcast, as it is after a grant in DOWN. Before the commit the operation ends UNDER ZERO with
a weight below 0, NO NET with less than one division dropped, LOST with CHANGED or STALE where the record's step is no longer
the claimed one or the record is stale, and PRINT QUEUE FULL where RECEIPT REQUIRED finds no room: the record is unchanged,
custody FREE, the register holder 0, the claim timer ENDED, a RELEASE on the closing place where the grant was by frame; all but
UNDER ZERO clear deck clear and keep the ticket as the captured one. The model's choices it rests on: log entries 20, 21, 31,
35, 37, 53 and 59. -/
def Obligations.CaptureCommitsTheStep : Prop :=
  (∀ (raw : Int) (c : CaptureContext) (o : WeighOp) (r : Record) (g d : Nat) (final : Bool) (s : State),
     s.captureCompletes (.ticket r.number) raw c →
     (s.scale.deckClear = true ∨ s.scale.captured = some (.ticket r.number) ∨
       raw - s.scale.zero ≤ (s.settings.clearThreshold * s.settings.division : Int)) →
     s.weigh = some o → o.kind = .weighStep g d final → o.target = some r.number →
     s.findRecord r.number = some r → (∀ x ∈ s.tickets.table, x.number = r.number → x = r) →
     r.custody = .held .weigh .weigh → r.step = o.claimedStep → r.stale = false → r.lines.length < 8 → r.linesOk →
     s.printer.jobs.length < 8 → s.notices.queue.length < 15 →
     0 ≤ s.capturedWith raw c → s.capturedWith raw c + s.settings.division ≤ r.lastWeight →
     ∃ (t : State) (r' : Record), exec (.sampleMessage .ok raw) s = .next (settle t) ∧
       t.tickets.table = s.tickets.table.map (fun x => if x.number = r.number then r' else x) ∧
       let w := (s.capturedWith raw c).toNat
       let net := r.lastWeight - w
       let total := d + s.gradeDeduction g
       let paid := net - roundHalfUp (net * total) 1000
       let p := priceLine g paid s.day.clock r.weighInTime r.issueDay s
       let down := decide (o.grant = .byLink .down)
       r' = { r with
         lines := r.lines ++ [{ index := r.step + 1, grade := g, kind := p.kind, regulated := p.regulated, net := net,
                                deduction := total, paid := paid, price := p.price, amount := p.amount,
                                priceEarly := p.priceEarly, offline := down,
                                localPart := some ⟨d, s.gradeDeduction g, p.tier⟩ }]
         step := r.step + 1
         lastWeight := w
         lastStepTime := s.day.clock
         life := if final = true then .complete else r.life
         offline := r.offline || down
         priceEarly := r.priceEarly || p.priceEarly
         lastWriter := s.myId
         custody := .free
         pendingBroadcast := r'.pendingBroadcast } ∧
       (if s.link.state ≠ .down ∧ s.link.state ≠ .silent ∧
            s.placesUsed (s.queueWithout r.number) + r'.burst.length ≤ 24
        then t.link = { s.link with queue := placed (burstItem r') (s.queueWithout r.number) } ∧
          r'.pendingBroadcast = (r.pendingBroadcast || down)
        else t.link = { s.link with queue :=
            if o.closing = true then placed (.single (.release r.number)) s.link.queue else s.link.queue } ∧
          r'.pendingBroadcast = true) ∧
       r'.linesOk ∧
       (r.number.home = s.tickets.owner → s.tickets.owner ≠ 0 → t.tickets.register = s.tickets.register.map (fun e =>
         if e.serial = r.number.serial then
           { e with step := r.step + 1, life := if final = true then .complete else e.life, holder := 0 } else e)) ∧
       t.tickets.closed = s.tickets.closed ∧ t.weigh = none ∧ t.weighTimer.phase = .committed ∧
       t.scale = { s.sampled .ok raw with
         deckClear := false, captured := some (.ticket r.number), context := none } ∧
       t.day.totals.completed =
         (if final = true then min 65535 (s.day.totals.completed + 1) else s.day.totals.completed) ∧
       t.day = { s.day with totals := { s.day.totals with completed := t.day.totals.completed } } ∧
       (let old := s.gradeTotals g
        t.gradeTotals g =
          { lines := if old.linesHeld = true then old.lines else min 65535 (old.lines + 1)
            paid := if old.paidHeld = true then old.paid else min 999999999 (old.paid + paid)
            amount := if old.amountHeld = true then old.amount
                      else max (-999999999999) (min 999999999999 (old.amount + p.amount))
            linesHeld := old.linesHeld || decide (65535 < old.lines + 1)
            paidHeld := old.paidHeld || decide (999999999 < old.paid + paid)
            amountHeld := old.amountHeld || decide (999999999999 < old.amount + p.amount)
                            || decide (old.amount + p.amount < -999999999999) }) ∧
       (∀ m, m ≠ g → t.gradeTotals m = s.gradeTotals m) ∧
       t.pricing.grades = s.pricing.grades ∧ t.drawer = s.drawer ∧ t.settings = s.settings ∧
       (∃ j ∈ t.printer.jobs, j.kind = (if final = true then .ticket else .weighSlip) ∧ j.ticket = some r.number ∧
         j.state = .queued) ∧
       (∃ q, (q, Notice.done .weigh .ok (some r.number) none 0 0) ∈ t.notices.queue)) ∧
  (∀ (raw : Int) (c : CaptureContext) (o : WeighOp) (r : Record) (g d : Nat) (final : Bool) (s : State),
     s.captureCompletes (.ticket r.number) raw c →
     (s.scale.deckClear = true ∨ s.scale.captured = some (.ticket r.number) ∨
       raw - s.scale.zero ≤ (s.settings.clearThreshold * s.settings.division : Int)) →
     s.weigh = some o → o.kind = .weighStep g d final → o.target = some r.number →
     s.findRecord r.number = some r → r.custody = .held .weigh .weigh → s.notices.queue.length < 16 →
     let ends (outcome : Result) (loss : Option LossReason) (scale : ScaleUnit) : Prop :=
       exec (.sampleMessage .ok raw) s = .next (settle { s with
         weigh := none
         weighTimer := { s.weighTimer with phase := .ended, count := none }
         scale := { scale with context := none }
         tickets := s.tickets.handedBack r (s.roleKeeps r)
         link := { s.link with queue :=
           if o.closing = true then placed (.single (.release r.number)) s.link.queue else s.link.queue }
         notices := { s.notices with
           queue := s.notices.queue ++ [(s.notices.seq, .done .weigh outcome (some r.number) loss 0 0)]
           seq := (s.notices.seq + 1) % 256 } })
     let captured : ScaleUnit := { s.sampled .ok raw with deckClear := false, captured := some (.ticket r.number) }
     let dropped : Int := r.lastWeight - s.capturedWith raw c
     (s.capturedWith raw c < 0 → ends .underZero none { s.sampled .ok raw with
       deckClear := s.scale.deckClear ||
         decide (raw - s.scale.zero ≤ (s.settings.clearThreshold * s.settings.division : Int)) }) ∧
     (0 ≤ s.capturedWith raw c → dropped < s.settings.division → ends .noNet none captured) ∧
     (0 ≤ s.capturedWith raw c → (s.settings.division : Int) ≤ dropped →
       (r.step ≠ o.claimedStep → ends .lost (some .changed) captured) ∧
       (r.step = o.claimedStep → r.stale = true → ends .lost (some .stale) captured) ∧
       (r.step = o.claimedStep → r.stale = false → s.settings.receiptRequired = true → 8 ≤ s.printer.jobs.length →
         ends .printQueueFull none captured)))

/-- The sample that completes the window of a ZERO, filling it or sliding a full one: an average of at most 2 % of capacity
becomes the zero offset, to the nearest kilogram, halves away from zero; any other average ends it ZERO RANGE, the offset
kept. A sample of at most the clear threshold sets deck clear as ever. The model's choices it rests on: log entry 59. -/
def Obligations.ZeroSetsTheOffset : Prop :=
  ∀ (raw : Int) (c : CaptureContext) (o : WeighOp) (s : State),
    s.windowCompletes raw c → c.kind = .zeroing →
    s.weigh = some o → o.target = none → s.notices.queue.length < 16 →
    let sum := s.windowSumWith raw c
    let z := roundHalfAway sum s.settings.windowLength
    let clear := if raw - s.scale.zero ≤ (s.settings.clearThreshold * s.settings.division : Int)
                   then true else s.scale.deckClear
    (50 * sum.natAbs ≤ s.settings.capacity * s.settings.windowLength →
      exec (.sampleMessage .ok raw) s = .next (settle { s with
        weigh := none,
        scale := { s.sampled .ok raw with zero := z, context := none, deckClear := clear },
        notices := { s.notices with queue := s.notices.queue ++ [(s.notices.seq, .done .weigh .ok none none 0 z)]
                                    seq := (s.notices.seq + 1) % 256 } })) ∧
    (s.settings.capacity * s.settings.windowLength < 50 * sum.natAbs →
      exec (.sampleMessage .ok raw) s = .next (settle { s with
        weigh := none,
        scale := { s.sampled .ok raw with context := none, deckClear := clear },
        notices := { s.notices with queue := s.notices.queue ++ [(s.notices.seq, .done .weigh .zeroRange none none 0 0)]
                                    seq := (s.notices.seq + 1) % 256 } }))

/-- Silence latches SCALE FAULT and starts its timer again; a running capture of a NEW TICKET or of a weigh step then ends SCALE
FAULT, and an expired capture timer ends it NOT STABLE, or DECK NOT CLEARED when a stable window was seen. A weigh step's hold
is given back: custody FREE, the register holder 0, the claim timer ENDED, a RELEASE on the closing place where the grant was by
frame. The model's choices it rests on: log entries 1 and 37. -/
def Obligations.SilenceAndCaptureTimer : Prop :=
  ∀ s : State, s.powered = true →
    (∀ r, s.scale.silence = some r → s.scale.context = none → exec .silenceTimerExpiry s =
      .next (settle (latchEvent .scaleFault (.scale .silence)
        { elapse r s with scale := { (elapse r s).scale with silence := some 500 } }))) ∧
    (∀ r o c, s.scale.silence = some r → s.scale.context = some c → s.weigh = some o → o.target = none →
      s.notices.queue.length < 15 →
      ∃ t : State, exec .silenceTimerExpiry s = .next (settle t) ∧ t.weigh = none ∧
        t.scale = { (elapse r s).scale with silence := some 500, context := none } ∧ t.latched .scaleFault = true ∧
        (∃ q, (q, Notice.done .weigh .scaleFault none none 0 0) ∈ t.notices.queue) ∧ t.tickets = s.tickets ∧
        t.link = (elapse r s).link) ∧
    (∀ o c, s.scale.context = some c → s.weigh = some o → o.target = none → s.notices.queue.length < 16 →
      exec .captureTimerExpiry s = .next (settle { elapse c.timer s with
        weigh := none
        scale := { (elapse c.timer s).scale with context := none }
        notices := { s.notices with
          queue := s.notices.queue ++
            [(s.notices.seq, .done .weigh (if c.stableSeen = true then .deckNotCleared else .notStable) none none 0 0)]
          seq := (s.notices.seq + 1) % 256 } })) ∧
    (∀ o c record, s.scale.context = some c → s.weigh = some o → o.target = some record.number →
      s.findRecord record.number = some record → record.custody = .held .weigh .weigh →
      let released (u : State) : State := { u with
        weigh := none
        weighTimer := { s.weighTimer with phase := .ended, count := none }
        tickets := s.tickets.handedBack record (s.roleKeeps record)
        link := { u.link with queue :=
          if o.closing = true then placed (.single (.release record.number)) u.link.queue else u.link.queue } }
      (∀ r, s.scale.silence = some r → s.notices.queue.length < 15 →
        ∃ t : State, exec .silenceTimerExpiry s = .next (settle t) ∧
          t = { released (elapse r s) with
            scale := { (elapse r s).scale with silence := some 500, context := none }
            flags := t.flags
            notices := t.notices } ∧ t.latched .scaleFault = true ∧
          (∃ q, (q, Notice.done .weigh .scaleFault (some record.number) none 0 0) ∈ t.notices.queue)) ∧
      (s.notices.queue.length < 16 →
        exec .captureTimerExpiry s = .next (settle { released (elapse c.timer s) with
          scale := { (elapse c.timer s).scale with context := none }
          notices := { s.notices with
            queue := s.notices.queue ++ [(s.notices.seq,
              .done .weigh (if c.stableSeen = true then .deckNotCleared else .notStable) (some record.number) none 0 0)]
            seq := (s.notices.seq + 1) % 256 } })))

/-! ### Grades and prices -/

/-- LOAD GRADE with its checks passed writes the entry whole, with one version from time 0; its removal form makes the entry
absent; a number out of range is refused. ADD PRICE VERSION to a present grade: a time equal to the newest version's replaces
it, a later one is appended, the oldest of three leaving first; an earlier one is refused ORDER. The answer gives the count, and
the time of the version replaced or evicted. The model's choices it rests on: log entries 9, 10, 12 and 65. -/
def Obligations.LoadGradeAndAddPriceVersion : Prop :=
  (∀ (n k reg d : Nat) (name : Text) (ts : List Tier) (s : State),
     let ps := [byte n] ++ textBytes name ++ [byte k, byte reg, byte d, byte ts.length]
                 ++ ts.flatMap (fun t => bytesOf 3 t.bound ++ bytesOf 3 t.price)
     s.takes ps.length → s.day.isOpen = false → n ≤ 255 → name.length ≤ 12 → (∀ c ∈ name, 32 ≤ c ∧ c ≤ 126) →
     k ≤ 255 → reg ≤ 1 → d ≤ 200 → ts.length ≤ 4 → (∀ t ∈ ts, t.bound ≤ 150450 ∧ t.price ≤ 2000000) →
     ((n = 0 ∨ 32 < n) → exec (.loadGrade ps) s = .next ((s.accepted ps.length).answered [5])) ∧
     (1 ≤ n → n ≤ 32 → ts = [] →
       ∃ t : State, exec (.loadGrade ps) s = .next (State.answered [1] t) ∧
         t = { s.accepted ps.length with pricing := { s.pricing with grades := t.pricing.grades } } ∧
         t.grade n = none ∧ ∀ m, m ≠ n → t.grade m = s.grade m) ∧
     (1 ≤ n → n ≤ 32 → name ≠ [] → (k = 1 ∨ k = 2) → (ts.head?.map Tier.bound = some 0) →
       ts.Pairwise (fun a b => a.bound < b.bound) →
       ∃ t : State, exec (.loadGrade ps) s = .next (State.answered [1] t) ∧
         t = { s.accepted ps.length with pricing := { s.pricing with grades := t.pricing.grades } } ∧
         t.grade n = some { name := name, kind := if k = 1 then .buy else .charge, regulated := decide (reg = 1),
                            deduction := d, versions := [{ effective := 0, tiers := ts }] } ∧
         ∀ m, m ≠ n → t.grade m = s.grade m)) ∧
  (∀ (n e : Nat) (ts : List Tier) (g : Grade) (old : List Version) (v : Version) (s : State),
     let ps := [byte n] ++ bytesOf 3 e ++ [byte ts.length] ++ ts.flatMap (fun t => bytesOf 3 t.bound ++ bytesOf 3 t.price)
     s.takes ps.length → 1 ≤ n → n ≤ 32 → e ≤ 172799 → 1 ≤ ts.length → ts.length ≤ 4 →
     (∀ t ∈ ts, t.bound ≤ 150450 ∧ t.price ≤ 2000000) → ts.head?.map Tier.bound = some 0 →
     ts.Pairwise (fun a b => a.bound < b.bound) → s.grade n = some g → g.versions = old ++ [v] → old.length ≤ 2 →
     (e < v.effective → exec (.addPriceVersion ps) s = .next ((s.accepted ps.length).answered [6])) ∧
     (v.effective ≤ e →
       let new : List Version × Nat :=
         if e = v.effective then (old ++ [{ effective := e, tiers := ts }], e)
         else if old.length = 2 then
           (g.versions.drop 1 ++ [{ effective := e, tiers := ts }], (g.versions.head?.map Version.effective).getD 0)
         else (g.versions ++ [{ effective := e, tiers := ts }], 0)
       ∃ t : State, exec (.addPriceVersion ps) s =
           .next (State.answered ([1, byte new.1.length] ++ bytesOf 3 new.2) t) ∧
         t = { s.accepted ps.length with pricing := { s.pricing with grades := t.pricing.grades } } ∧
         t.grade n = some { g with versions := new.1 } ∧ ∀ m, m ≠ n → t.grade m = s.grade m))

/-- The lock time, and the version it chooses: the newest one effective by then; with none, the oldest, and PRICE
EARLY. -/
def Obligations.VersionByLockTime : Prop :=
  (∀ (step weighIn day : Nat) (s : State), s.lockTime step weighIn day =
    if s.settings.lockMode = .line then step else if day = s.day.number then weighIn else 0) ∧
  (∀ (lock : Nat) (vs : List Version), vs.Pairwise (fun a b => a.effective < b.effective) →
    ((∃ v ∈ vs, v.effective ≤ lock) →
      ∃ v ∈ vs, chooseVersion lock vs = (some v, false) ∧ v.effective ≤ lock ∧
        ∀ u ∈ vs, u.effective ≤ lock → u.effective ≤ v.effective) ∧
    ((∀ v ∈ vs, lock < v.effective) → chooseVersion lock vs = (vs.head?, true)))

/-- Within the chosen version the tier with the largest lower bound at most the paid weight prices the whole of it,
and its number goes into the line's local part. A paid weight of 0 does not arise. -/
def Obligations.TierByPaidWeight : Prop :=
  ∀ (r : Record) (n d w : Nat) (off : Bool) (g : Grade) (v : Version) (early : Bool) (s : State),
    s.grade n = some g → tiersOk v.tiers = true →
    chooseVersion (s.lockTime s.day.clock r.weighInTime r.issueDay) g.versions = (some v, early) →
    let l := buildLine r n d w off s
    (∃ (i : Nat) (t : Tier), v.tiers[i]? = some t ∧ t.bound ≤ l.paid ∧
      (∀ u ∈ v.tiers, u.bound ≤ l.paid → u.bound ≤ t.bound) ∧
      l.price = t.price ∧ l.amount.natAbs = roundHalfUp (l.paid * t.price) 1000 ∧
      l.localPart.map LocalPart.tier = some (i + 1)) ∧
    l.priceEarly = early ∧
    (d ≤ 500 → g.deduction ≤ 200 → 5 ≤ s.scale.inForce.division → w + s.scale.inForce.division ≤ r.lastWeight → 0 < l.paid)

/-- The amount of a line: paid weight times price per tonne over 1000, to the nearest minor unit, halves up, negated
for a CHARGE; the kind and the regulated mark are the grade's; the size stays within 300,900,000. -/
def Obligations.AmountOfALine : Prop :=
  ∀ (r : Record) (n d w : Nat) (off : Bool) (g : Grade) (s : State), s.grade n = some g →
    let l := buildLine r n d w off s
    l.kind = g.kind ∧ l.regulated = g.regulated ∧
    (∃ a : Nat, l.amount = (if g.kind = .buy then (a : Int) else -(a : Int)) ∧
      2 * (1000 * a) ≤ 2 * (l.paid * l.price) + 1000 ∧ 2 * (l.paid * l.price) + 1000 < 2 * (1000 * (a + 1))) ∧
    (r.lastWeight ≤ 150450 → l.price ≤ 2000000 → l.amount.natAbs ≤ 300900000)

/-! ### The payout -/

/-- The offer of a ticket with a net amount above 0: the stages of its cash part, its breakdown from the drawer's
stock, counted from the largest value to the smallest as often as the stock and the remainder allow, and the transfer that
takes the rest. An offer whose net amount is 0 or below pays no cash and transfers the
net amount; the working values are 0. -/
def Obligations.OfferOfATicket : Prop :=
  (∀ (i : OfferInput) (s : State), 0 < i.net →
     let f := computeOffer i s
     let a := i.net.toNat
     f.net = i.net ∧ f.regulated = i.regulated ∧
     f.rPrime = min i.regulated.toNat a ∧ f.unregulated = a - f.rPrime ∧
     f.c0 = f.unregulated + min f.rPrime s.settings.regulatedCap ∧ f.c1 = min f.c0 s.settings.ticketCashMax ∧
     f.room = s.drawer.limit - s.drawer.totals.cash ∧ f.c2 = min f.c1 f.room ∧
     ((∃ p ∈ s.drawer.denominations, p.enabled = true ∧ 0 < p.value) →
       (∀ p ∈ s.drawer.denominations, 0 < p.value) →
       (∃ p ∈ s.drawer.denominations, p.enabled = true ∧ p.value = f.unit) ∧
       (∀ p ∈ s.drawer.denominations, p.enabled = true → f.unit ≤ p.value) ∧
       f.c3 = f.c2 - f.c2 % f.unit) ∧
     ((∀ p ∈ s.drawer.denominations, p.enabled = false) → f.c3 = 0) ∧
     f.residue = f.c2 - f.c3 ∧ f.cash + f.shortfall = f.c3 ∧
     f.cash = (f.breakdown.map (fun p => p.1 * p.2)).sum ∧
     (∀ q ∈ f.breakdown, 0 < q.2 ∧
       ∃ p ∈ s.drawer.denominations, p.enabled = true ∧ p.value = q.1 ∧ q.2 ≤ p.count) ∧
     (s.drawer.denominations.Pairwise (fun p q => q.value < p.value) → (∀ p ∈ s.drawer.denominations, 0 < p.value) →
       f.breakdown.Pairwise (fun p q => q.1 < p.1) ∧
       ∀ p ∈ s.drawer.denominations, p.enabled = true →
         ((f.breakdown.filter (fun q => decide (q.1 = p.value))).map Prod.snd).sum =
           min p.count ((f.c3 - ((f.breakdown.filter (fun q => decide (p.value < q.1))).map (fun q => q.1 * q.2)).sum)
             / p.value)) ∧
     (f.cash : Int) + f.transfer = i.net ∧ (f.cash : Int) ≤ i.net ∧ f.cash ≤ f.room ∧
     f.cls = (if 0 < f.cash then .cash else .allTransfer)) ∧
  (∀ (i : OfferInput) (s : State), i.net ≤ 0 →
     computeOffer i s =
       { net := i.net, regulated := i.regulated, cls := if i.net = 0 then .nothingPayable else .amountDue, cash := 0,
         transfer := i.net, rPrime := 0, unregulated := 0, c0 := 0, c1 := 0, room := 0, c2 := 0, unit := 0, c3 := 0,
         residue := 0, shortfall := 0, breakdown := [], limit := s.drawer.limit, paidAtOffer := s.drawer.totals.cash,
         offline := i.offline, seller := i.seller })

/-- PAY with its checks in their order: the slot BUSY, RANGE, HALTED, CLOSED, NO TICKET, STALE with the ASK offered again, NOT
ALLOWED for an OPEN record, BUSY for custody not FREE, SELLER REQUIRED for a regulated line without a seller reference, NOT
ALLOWED for a reference other than the record's, PRINT QUEUE FULL; then the claim engine's HOME ABSENT, LINK DOWN and LINK BUSY,
which take the placeholder away with its number used. In UP the voucher's placeholder stands in the print queue where receipts are
required, custody is CLAIMING, and the CLAIM is queued. A local grant, in ALONE and in DOWN, makes the offer in the same event,
marked OFFLINE in DOWN, custody HELD and the confirm timer started, or ends the PAY DRAWER SHORT with custody FREE and no RELEASE.
The model's choices it rests on: log entry 29. -/
def Obligations.PayClaimsByFrame : Prop :=
  ∀ (n : TicketNo) (seller : Text) (s : State),
    let ps := ticketBytes n ++ textBytes seller
    let refused (code : Byte) : Prop := exec (.pay ps) s = .next ((s.accepted ps.length).answered [code])
    s.takes ps.length → s.hasPay = true → s.day.isOpen = true → s.flags.restarted = false →
    n.home ≤ 255 → n.serial ≤ 65535 → seller.length ≤ 16 → (∀ c ∈ seller, c ≤ 255) →
    let inRange : Prop := ticketInRange n ∧ ∀ c ∈ seller, 32 ≤ c ∧ c ≤ 126
    (s.payOp ≠ none → refused 3) ∧
    (s.payOp = none → ¬ inRange → refused 5) ∧
    (s.payOp = none → inRange → gatePasses .pay s = false → refused 13) ∧
    (s.payOp = none → inRange → gatePasses .pay s = true →
      s.ticketChecks n (fun life => life = .complete) refused
        (fun r => exec (.pay ps) s = .next (State.answered [8]
          { s.accepted ps.length with link := { s.link with queue := s.queueAsking n r.step } }))
        (fun r =>
          let sub : Subject := ⟨n, .pay, r.step⟩
          let timer (phase : Phase) : ClaimTimer := { phase := phase, subject := some sub, count := none }
          let required : Bool := s.settings.receiptRequired
          let unnamed : Prop := r.seller = none ∧ seller = [] ∧ ∃ l ∈ r.lines, l.regulated = true
          let other : Prop := r.seller ≠ none ∧ seller ≠ [] ∧ r.seller ≠ some seller
          let noRoom : Prop := required = true ∧ 8 ≤ s.printer.jobs.length
          let printer (jobs : List Job) : Printer := { s.printer with
            load := none
            jobs := jobs
            nextJob := if required = true then (if 255 ≤ s.printer.nextNumber then 1 else s.printer.nextNumber + 1)
                       else s.printer.nextJob }
          let withVoucher : List Job := if required = true then
              s.printer.jobs ++ [{ number := s.printer.nextNumber, kind := .voucher, ticket := some n, copy := 0,
                                   restarts := 0, state := .waiting, lines := [], sent := 0, awaitsBusy := false }]
            else s.printer.jobs
          let op : PayOp := { isVoid := false, target := n, given := if seller = [] then none else some seller,
                              placeholder := if required = true then some s.printer.nextNumber else none,
                              grant := .notYet, claimedStep := r.step, closing := false, offer := none, confirm := none }
          let f := computeOffer (r.offered (decide (s.link.state = .down)) (r.seller.isSome || decide (seller ≠ []))) s
          let told (outcome : Result) : Notices := { s.notices with
            queue := s.notices.queue ++ [(s.notices.seq, .done .pay outcome (some n) none 0 0)]
            seq := (s.notices.seq + 1) % 256 }
          (unnamed → refused 19) ∧ (other → refused 4) ∧ (¬ unnamed → ¬ other → noRoom → refused 20) ∧
          (¬ unnamed → ¬ other → ¬ noRoom → s.claimEnds n
            (fun code => exec (.pay ps) s = .next (State.answered [code]
              { s.accepted ps.length with printer := printer s.printer.jobs }))
            (exec (.pay ps) s = .next (State.answered [2] { s.accepted ps.length with
              payOp := some op
              payTimer := timer .queued
              printer := printer withVoucher
              tickets := s.tickets.claimed n .pay .pay
              link := { s.link with queue := s.queueClaiming .pay sub } }))
            (s.notices.queue.length < 16 →
              ((f.shortfall = 0 ∨ s.settings.shortToTransfer = true) →
                exec (.pay ps) s = .next (State.answered [2] { s.accepted ps.length with
                  payOp := some { op with grant := .byLink s.link.state, offer := some f
                                          confirm := some (1000 * s.settings.confirmTimeout) }
                  payTimer := timer .granted
                  printer := printer withVoucher
                  tickets := s.tickets.held n (.held .pay .pay) s.myId
                  drawer := if 0 < f.cash then { s.drawer with pulses := s.drawer.pulses + 1 } else s.drawer
                  notices := told .ok })) ∧
              (0 < f.shortfall → s.settings.shortToTransfer = false →
                exec (.pay ps) s = .next (State.answered [2] { s.accepted ps.length with
                  payTimer := timer .ended
                  printer := printer s.printer.jobs
                  tickets := s.tickets.handedBack r (s.roleKeeps r)
                  notices := told .drawerShort }))))))

/-- PAY CONFIRM of the ticket on offer: the drawer and the window totals change, the ticket closes PAID here and with a CLOSED
frame, on the closing place of a grant by frame, and on an empty place under a local grant; with no empty place and nothing to
evict that frame is dropped. The voucher fills its placeholder, or without one is a job of its own, and without room for the job
PRINT LOST is latched. Any other ticket, one with home or serial 0 among them, is refused NOT ALLOWED. The model's choices it
rests on: log entries 10, 11, 21 and 57. -/
def Obligations.PayConfirmCommitsTheOffer : Prop :=
  ∀ (o : PayOp) (f : Offer) (r : Record) (n : TicketNo) (s : State), s.takes 3 → s.hasPay = true →
    n.home ≤ 255 → n.serial ≤ 65535 →
    (s.payOp = none → exec (.payConfirm (ticketBytes n)) s = .next ((s.accepted 3).answered [4])) ∧
    (s.payOp = some o → o.offer = some f → o.target ≠ n →
      exec (.payConfirm (ticketBytes n)) s = .next ((s.accepted 3).answered [4])) ∧
    (s.payOp = some o → o.offer = some f → o.target = n → s.findRecord n = some r → r.custody = .held .pay .pay →
      r.step = o.claimedStep → r.stale = false → (o.grant = .byFrame → o.closing = true) → s.closedEntry n = none →
      let closed : QueueItem := .single (.closed n .paid f.cash f.transfer f.seller)
      let lines : List Text := voucherLines r f (if r.seller = none then o.given else r.seller) s
      let job := match o.placeholder with
        | some j => j
        | none => if s.printer.jobs.length < 8 then s.printer.nextNumber else 0
      ∃ t : State, exec (.payConfirm (ticketBytes n)) s = .next (State.answered
          ([1] ++ bytesOf 4 f.cash ++ signedBytes 4 f.transfer ++ [byte f.cls.code, byte job]) t) ∧
        t.payOp = none ∧ t.payTimer = { s.payTimer with phase := .committed, count := none } ∧
        t.tickets.closed = s.tickets.closed.drop (if 32 ≤ s.tickets.closed.length then 1 else 0) ++
          [{ number := n, closure := .settled .paid f.cash f.transfer s.myId f.seller }] ∧
        t.tickets.table = s.tickets.table.filter (fun x => decide (x.number ≠ n)) ∧
        t.tickets.register = (if n.home = s.tickets.owner ∧ s.tickets.owner ≠ 0 then s.tickets.register.map (fun e =>
          if e.serial = n.serial then { e with life := .paid, holder := 0 } else e) else s.tickets.register) ∧
        t.drawer = { s.drawer with
          denominations := s.drawer.denominations.map (fun p =>
            { p with count := p.count - ((f.breakdown.filter (fun q => decide (q.1 = p.value))).map Prod.snd).sum })
          totals := t.drawer.totals } ∧
        t.drawer.totals =
          { payouts := min 65535 (s.drawer.totals.payouts + 1)
            cash := min 999999999 (s.drawer.totals.cash + f.cash)
            transfer := if 0 < f.net then min 999999999999 (s.drawer.totals.transfer + f.transfer.toNat)
                        else s.drawer.totals.transfer
            residue := min 999999999 (s.drawer.totals.residue + f.residue)
            shortfall := min 999999999 (s.drawer.totals.shortfall + f.shortfall)
            offline := min 65535 (s.drawer.totals.offline + (if f.offline = true then 1 else 0))
            dueCount := if f.net < 0 then min 65535 (s.drawer.totals.dueCount + 1) else s.drawer.totals.dueCount
            dueSum := if f.net < 0 then min 999999999 (s.drawer.totals.dueSum + f.net.natAbs)
                      else s.drawer.totals.dueSum } ∧
        ((o.grant = .byFrame ∨ s.occupied < 24) →
          t.link = { s.link with queue := placed closed s.link.queue }) ∧
        (o.grant ≠ .byFrame → 24 ≤ s.occupied →
          (∀ i ∈ s.link.queue, i.onWire = true ∨ i.frames.head?.map Frame.kind ≠ some .announce) →
          (∀ i ∈ s.link.queue, i.burst = none ∨ i.started = true ∨ i.onWire = true) → t.link = s.link) ∧
        (∀ j, o.placeholder = some j → t.printer = { s.printer with
          load := none
          jobs := s.printer.jobs.map (fun i => if i.number = j then { i with state := .queued, lines := lines } else i) }) ∧
        (o.placeholder = none → s.printer.jobs.length < 8 → t.printer = { s.printer with
          load := none
          jobs := s.printer.jobs ++
            [{ number := s.printer.nextNumber, kind := .voucher, ticket := some n, copy := 0, restarts := 0,
               state := .queued, lines := lines, sent := 0, awaitsBusy := false }]
          nextJob := if 255 ≤ s.printer.nextNumber then 1 else s.printer.nextNumber + 1 }) ∧
        (o.placeholder = none → 8 ≤ s.printer.jobs.length →
          t.printer = { s.printer with load := none } ∧ t.latched .printLost = true) ∧
        t.weigh = s.weigh ∧ t.day = s.day ∧ t.pricing = s.pricing ∧ t.settings = s.settings ∧ t.scale = s.scale)

/-- PAY CANCEL, and the expiry of the confirm timer. With no operation PAY CANCEL is refused NOT ALLOWED. In every other case
the record becomes FREE, the register holder 0, the claim timer ENDED, the placeholder leaves, no count and no total changes, and
a record that neither the role nor the last writer keeps leaves the table. Of an offer, a RELEASE goes out on the closing place
where the grant was by frame, and none where it was local. Before an offer, of a PAY or a void, a claim not yet sent is withdrawn
from the queue, and in place of one that has been on the wire, or was delivered, a RELEASE goes out; a DONE notice CANCELLED is
posted. The expiry ends an offer as PAY CANCEL does and posts a DONE notice TIMEOUT. The model's choices it rests on: log entries
1, 25 and 26. -/
def Obligations.OfferEndsWithoutAPayout : Prop :=
  ∀ s : State, s.hasPay = true →
    (s.takes 0 → s.payOp = none → exec (.payCancel []) s = .next ((s.accepted 0).answered [4])) ∧
    (∀ (o : PayOp) (r : Record), s.payOp = some o → s.findRecord o.target = some r →
      let release : QueueItem := .single (.release o.target)
      let others : List QueueItem := s.link.queue.filter (fun i => decide (i.slot ≠ some .pay))
      let ended (queue : List QueueItem) (u : State) : State := { u with
        payOp := none
        payTimer := { s.payTimer with phase := .ended, count := none }
        tickets := s.tickets.handedBack r (s.roleKeeps r)
        link := { u.link with queue := queue }
        printer := { u.printer with jobs := u.printer.jobs.filter (fun j => decide (some j.number ≠ o.placeholder)) } }
      let done (outcome : Result) : Notices := { s.notices with
        queue := s.notices.queue ++ [(s.notices.seq, .done .pay outcome (some o.target) none 0 0)]
        seq := (s.notices.seq + 1) % 256 }
      (∀ f, o.offer = some f → r.custody = .held .pay .pay →
        let released (q : List QueueItem) : List QueueItem := if o.closing = true then placed release q else q
        (s.takes 0 → exec (.payCancel []) s =
          .next (State.answered [1] (ended (released s.link.queue) (s.accepted 0)))) ∧
        (∀ ms, s.powered = true → o.confirm = some ms → s.notices.queue.length < 16 →
          exec .confirmTimerExpiry s = .next (settle
            { ended (released (elapse ms s).link.queue) (elapse ms s) with notices := done .timeout }))) ∧
      (∀ p, o.offer = none → r.custody = .claiming .pay p → s.takes 0 → s.notices.queue.length < 16 →
        let cancelled (queue : List QueueItem) : Prop := exec (.payCancel []) s =
          .next (State.answered [1] { ended queue (s.accepted 0) with notices := done .cancelled })
        (∀ i, s.link.queue.filter (fun i => decide (i.slot = some .pay)) = [i] →
          (i.started = false → i.onWire = false → cancelled others) ∧
          ((i.started = true ∨ i.onWire = true) → cancelled (placed release others))) ∧
        ((∀ i ∈ s.link.queue, i.slot ≠ some .pay) → o.closing = true → cancelled (placed release s.link.queue))))

/-- REFILL of a present denomination changes its count by the signed change, within 0 to 9,999, and its low mark when
one is given; SET CASH LIMITS sets both figures, a warn level above the limit being refused. DRAWER LOW, or CASH WARN
and CASH LIMIT, are judged again. The model's choices it rests on: log entries 9, 10 and 12. -/
def Obligations.RefillAndCashLimits : Prop :=
  (∀ (v m : Nat) (c : Int) (d : Denomination) (s : State),
    let ps := bytesOf 3 v ++ signedBytes 2 c ++ bytesOf 2 m
    s.takes 7 → s.hasPay = true → s.flags.restarted = false → s.offered = false → v ≤ 1000000 → m ≤ 9999 →
    -9999 ≤ c → c ≤ 9999 → s.drawer.denominations.find? (fun p => decide (p.value = v)) = some d →
    (((d.count : Int) + c < 0 ∨ 9999 < (d.count : Int) + c) →
      exec (.refill ps) s = .next ((s.accepted 7).answered [5])) ∧
    (0 ≤ (d.count : Int) + c → (d.count : Int) + c ≤ 9999 →
      let n := ((d.count : Int) + c).toNat
      exec (.refill ps) s = .next (State.answered (1 :: bytesOf 2 n) (judge .drawerLow
        { s.accepted 7 with drawer := { s.drawer with denominations := s.drawer.denominations.map (fun p =>
            if p.value = v then { p with count := n, lowMark := if m = 0 then p.lowMark else m } else p) } })))) ∧
  (∀ (limit warn : Nat) (s : State), s.takes 8 → s.hasPay = true → limit < 2 ^ 32 → warn < 2 ^ 32 →
    let ps := bytesOf 4 limit ++ bytesOf 4 warn
    ((999999999 < limit ∨ limit < warn) → exec (.setCashLimits ps) s = .next ((s.accepted 8).answered [5])) ∧
    (limit ≤ 999999999 → warn ≤ limit →
      exec (.setCashLimits ps) s = .next (State.answered [1] (judge .cashLimit (judge .cashWarn
        { s.accepted 8 with drawer := { s.drawer with limit := limit, warn := warn } })))))

/-- SET DENOMINATIONS replaces the table: a value present before keeps its count, a new one starts at 0, largest
first; a value counted above 0 that the list leaves out refuses it, and so does a value named twice. The model's
choices it rests on: log entries 12 and 39. -/
def Obligations.SetDenominationsReplacesTheTable : Prop :=
  ∀ (l : List DenominationParams) (s : State),
    let ps := byte l.length :: l.flatMap (fun p => bytesOf 3 p.value ++ [byte p.enabled] ++ bytesOf 2 p.lowMark)
    s.takes ps.length → s.hasPay = true → s.day.isOpen = false → s.flags.restarted = false → s.offered = false →
    (∀ p ∈ l, 1 ≤ p.value ∧ p.value ≤ 1000000 ∧ p.enabled ≤ 1 ∧ p.lowMark ≤ 9999) →
    (¬ (l.map DenominationParams.value).Nodup →
      exec (.setDenominations ps) s = .next ((s.accepted ps.length).answered [5])) ∧
    ((l.map DenominationParams.value).Nodup →
      (∃ d ∈ s.drawer.denominations, 0 < d.count ∧ ∀ p ∈ l, p.value ≠ d.value) →
      exec (.setDenominations ps) s = .next ((s.accepted ps.length).answered [4])) ∧
    ((l.map DenominationParams.value).Nodup →
      (∀ d ∈ s.drawer.denominations, 0 < d.count → ∃ p ∈ l, p.value = d.value) →
      ∃ t : State, exec (.setDenominations ps) s = .next (State.answered [1] (judge .drawerLow t)) ∧
        t = { s.accepted ps.length with drawer := { s.drawer with denominations := t.drawer.denominations } } ∧
        t.drawer.denominations.length = l.length ∧
        t.drawer.denominations.Pairwise (fun a b => b.value < a.value) ∧
        ∀ p ∈ l, { value := p.value, enabled := decide (p.enabled = 1), lowMark := p.lowMark
                   count := match s.drawer.denominations.find? (fun d => decide (d.value = p.value)) with
                            | some d => d.count
                            | none => 0 } ∈ t.drawer.denominations)

/-! ### Readings and lookups -/

/-- The READ commands of the blocks answer OK with their values and change nothing but the port; READ LINK's clear parameter
returns the CRC error count to 0 after reporting it. READ PRINTER's part 0 answers with the port and the jobs, parts 1 to 4 with
the header line of that place or NOT READY, and a part above 4 is refused RANGE. The order and the widths of the values, and the
forms of a peer and a job, are log entry 10's; that a flag's detail fills 5 bytes, and that a clear flag reads as bytes 0, is
log entry 34's; that READ WEIGHT judges overload by the items in force since the last sample is log entry 59's; the code of its
deck clear is log entry 64's; that a level, a mark that is set and a thing that is present read as 1, and else as 0, is log
entry 67's; that READ LINK's clear parameter is a byte is log entry 9's, and that it is 0 or 1 log entry 68's. -/
def Obligations.ReadingsChangeNothing : Prop :=
  ∀ s : State,
    (s.takes 0 →
      exec (.readFlags []) s = .next ((s.accepted 0).answered ([1] ++ Flag.all.flatMap (fun f =>
          [flagByte (s.flag f).latched] ++ fill 5 (s.flag f).detail.bytes
            ++ (if f.isCondition = true then [] else [byte (s.flag f).count]))
        ++ [flagByte s.flags.restarted, if s.settings.faultScope = .station then 1 else 2])) ∧
      exec (.readConfig []) s = .next ((s.accepted 0).answered ([1] ++ bytesOf 3 s.settings.capacity
        ++ [byte s.settings.division, byte s.settings.windowLength, byte s.settings.motionBand,
            byte s.settings.clearThreshold, byte s.settings.captureTimeout, byte s.settings.claimWindow]
        ++ bytesOf 2 s.settings.confirmTimeout
        ++ [if s.settings.faultScope = .station then 1 else 2, if s.settings.lockMode = .line then 1 else 2,
            flagByte s.settings.homeCheck, flagByte s.settings.receiptRequired, flagByte s.settings.shortToTransfer]
        ++ bytesOf 4 s.settings.regulatedCap ++ bytesOf 4 s.settings.ticketCashMax
        ++ [byte s.identity.straps.id, byte s.identity.straps.role, byte s.identity.straps.rate]
        ++ identityBytes s.identity.override ++ identityBytes s.identity.inForce
        ++ [byte s.identity.straps.rateCode, if s.day.isOpen = true then 2 else 1] ++ bytesOf 2 s.day.number
        ++ bytesOf 3 s.day.clock ++ [flagByte s.day.tick.isSome] ++ bytesOf 2 s.day.totals.issued
        ++ bytesOf 2 s.day.totals.completed ++ bytesOf 2 s.day.totals.voided)) ∧
      exec (.readRoster []) s = .next ((s.accepted 0).answered
        ([1, byte s.link.roster.length] ++ s.link.roster.flatMap Peer.bytes))) ∧
    (s.takes 1 → ∀ b : Byte, b.toNat ≤ 1 →
      exec (.readLink [b]) s = .next (State.answered
        [1, byte s.link.state.code, byte s.myId, byte s.identity.straps.rateCode, byte s.occupied, byte s.closingPlaces,
         byte s.heldFrames, byte s.link.undelivered, flagByte s.link.restartOwed,
         byte (s.link.roster.filter (fun p => p.present)).length, byte s.link.crcErrors]
        { s.accepted 1 with link := if b = 1 then { s.link with crcErrors := 0 } else s.link })) ∧
    (s.takes 1 →
      exec (.readPrinter [0]) s = .next ((s.accepted 1).answered ([1, byte s.printer.port.code, flagByte s.printer.busy,
        flagByte s.printer.paperOut, flagByte s.printer.fault, flagByte s.printer.stalled, byte s.printer.nextJob,
        byte s.printer.jobs.length] ++ s.printer.jobs.flatMap Job.bytes)) ∧
      ∀ b : Byte,
        (1 ≤ b.toNat → b.toNat ≤ 4 → exec (.readPrinter [b]) s = .next ((s.accepted 1).answered
          (match s.printer.header[b.toNat - 1]? with
           | some line => 1 :: textBytes line
           | none => [10]))) ∧
        (5 ≤ b.toNat → exec (.readPrinter [b]) s = .next ((s.accepted 1).answered [5])) ∧
        (2 ≤ b.toNat → exec (.readLink [b]) s = .next ((s.accepted 1).answered [5]))) ∧
    (s.takes 0 → s.hasPay = true →
      exec (.readDrawer []) s = .next ((s.accepted 0).answered ([1, byte s.drawer.denominations.length]
        ++ s.drawer.denominations.flatMap (fun p =>
             bytesOf 3 p.value ++ [flagByte p.enabled] ++ bytesOf 2 p.count ++ bytesOf 2 p.lowMark)
        ++ bytesOf 4 s.drawer.limit ++ bytesOf 4 s.drawer.warn ++ bytesOf 4 s.drawer.totals.cash
        ++ s.drawer.totals.bytes)) ∧
      (s.offered = false → exec (.readOffer []) s = .next ((s.accepted 0).answered [10])) ∧
      (∀ o f, s.payOp = some o → o.offer = some f → exec (.readOffer []) s = .next ((s.accepted 0).answered
        ([1] ++ f.bytes ++ bytesOf 2 (o.confirm.getD 0 / 1000) ++ [byte (o.placeholder.getD 0)])))) ∧
    (s.takes 0 → s.hasWeigh = true →
      (s.scale.last = none → exec (.readWeight []) s = .next ((s.accepted 0).answered [10])) ∧
      (∀ l, s.scale.last = some l → exec (.readWeight []) s = .next ((s.accepted 0).answered ([(1 : Byte)]
        ++ signedBytes 3 l.raw
        ++ [byte (match l.status with | .ok => 1 | .overload => 2 | .cellFault => 3 | .converterFault => 4)]
        ++ signedBytes 3 (l.raw - s.scale.zero)
        ++ [flagByte (decide (l.status = .overload) || (decide (l.status = .ok) &&
              decide ((s.scale.inForce.capacity + 9 * s.scale.inForce.division : Int) < l.raw - s.scale.zero)))]
        ++ bytesOf 2 l.age ++ signedBytes 2 s.scale.zero ++ [flagByte s.scale.deckClear]
        ++ targetBytes s.scale.captured ++ contextBytes s.scale.context))))

/-- READ TICKET answers from the first collection that knows the ticket: the table, the closed list, the register; READ GRADE's
part 0 answers for a present and an absent entry, its parts 1 to 3 give the versions in their order or are refused RANGE. A part
of READ TICKET above 9 is refused RANGE before any collection is looked at. Neither command changes anything but the port. The
model's choices it rests on: log entries 10, 12, 65, 66 and 67. -/
def Obligations.LookupsAnswerFromTheStore : Prop :=
  ∀ (n : TicketNo) (s : State), 1 ≤ n.home → n.home ≤ 15 → 1 ≤ n.serial → n.serial ≤ 65535 → s.takes 4 →
    (∀ r, s.findRecord n = some r →
      exec (.readTicket (ticketBytes n ++ [0])) s = .next ((s.accepted 4).answered (1 :: r.headBytes)) ∧
      exec (.readTicket (ticketBytes n ++ [9])) s = .next ((s.accepted 4).answered
        ([1] ++ textBytes (r.tag.getD []) ++ textBytes (r.seller.getD []))) ∧
      ∀ (k : Nat), 1 ≤ k → k ≤ 8 → exec (.readTicket (ticketBytes n ++ [byte k])) s = .next ((s.accepted 4).answered
        (match r.lines[k - 1]? with
         | some l => 1 :: l.bytes
         | none => [5]))) ∧
    (∀ (e : ClosedEntry) (k : Byte), s.findRecord n = none → s.closedEntry n = some e → k.toNat ≤ 9 →
      exec (.readTicket (ticketBytes n ++ [k])) s = .next ((s.accepted 4).answered (9 :: e.bytes))) ∧
    (∀ (e : RegEntry), s.findRecord n = none → s.closedEntry n = none → s.regEntry n = some e →
      exec (.readTicket (ticketBytes n ++ [0])) s = .next ((s.accepted 4).answered
        ([1] ++ ticketBytes n ++ [byte e.life.code, byte e.step, byte e.holder] ++ bytesOf 2 e.issueDay ++ [1])) ∧
      ∀ k : Byte, 1 ≤ k.toNat → k.toNat ≤ 9 →
        exec (.readTicket (ticketBytes n ++ [k])) s = .next ((s.accepted 4).answered [7])) ∧
    (s.findRecord n = none → s.closedEntry n = none → s.regEntry n = none → ∀ k : Byte, k.toNat ≤ 9 →
      exec (.readTicket (ticketBytes n ++ [k])) s = .next ((s.accepted 4).answered [7])) ∧
    (∀ k : Byte, 9 < k.toNat →
      exec (.readTicket (ticketBytes n ++ [k])) s = .next ((s.accepted 4).answered [5])) ∧
    (∀ m : Nat, 1 ≤ m → m ≤ 32 → s.takes 2 →
      (s.grade m = none → exec (.readGrade [byte m, 0]) s = .next ((s.accepted 2).answered
        ([1, byte m, 0] ++ (s.gradeTotals m).bytes))) ∧
      (∀ g, s.grade m = some g → exec (.readGrade [byte m, 0]) s = .next ((s.accepted 2).answered
        ([1, byte m, 1] ++ g.bytes ++ (s.gradeTotals m).bytes)) ∧
        ∀ k : Nat, 1 ≤ k → k ≤ 3 → exec (.readGrade [byte m, byte k]) s = .next ((s.accepted 2).answered
          (match g.versions[k - 1]? with
           | some v => [1] ++ bytesOf 3 v.effective ++ [byte v.tiers.length]
               ++ v.tiers.flatMap (fun t => bytesOf 3 t.bound ++ bytesOf 3 t.price)
           | none => [5]))))

/-- FIND BY TAG answers with part 0 of the oldest record of the table whose tag is the one given, with NO TICKET when there is
none, and is refused RANGE for a tag of no characters or of other codes. It changes nothing but the port. The model's choices it
rests on: log entries 10, 12, 66 and 67. -/
def Obligations.FindByTagFindsTheOldest : Prop :=
  ∀ (tag : Text) (s : State), s.takes (tag.length + 1) → tag.length ≤ 12 → (∀ c ∈ tag, c ≤ 255) →
    (tag ≠ [] → (∀ c ∈ tag, 32 ≤ c ∧ c ≤ 126) →
      (∀ (before : List Record) (r : Record) (after : List Record), s.tickets.table = before ++ r :: after →
        r.tag = some tag → (∀ q ∈ before, q.tag ≠ some tag) →
        exec (.findByTag (textBytes tag)) s =
          .next ((s.accepted (tag.length + 1)).answered (1 :: r.headBytes))) ∧
      ((∀ r ∈ s.tickets.table, r.tag ≠ some tag) →
        exec (.findByTag (textBytes tag)) s = .next ((s.accepted (tag.length + 1)).answered [7]))) ∧
    ((tag = [] ∨ ∃ c ∈ tag, c < 32 ∨ 126 < c) →
      exec (.findByTag (textBytes tag)) s = .next ((s.accepted (tag.length + 1)).answered [5]))

/-- LIST TICKETS reports up to 4 records after the cursor: MORE moves the cursor to the last reported, END returns it to the
start. RELEASE FOREIGN frees the holds of an absent station in this station's copies; a present one refuses it. Its ticket form
frees one ticket: a record TAKEN, with its register entry, or without a record the entry another station holds; an unknown
ticket is refused NO TICKET, one that no station holds NOT ALLOWED. The model's choices it rests on: log entries 9, 10, 12, 13,
55, 62 and 66 to 68. -/
def Obligations.ListTicketsAndReleaseForeign : Prop :=
  (∀ (s : State) (rest : List Record), s.takes 1 →
    let more := decide (4 < rest.length)
    let t (l : Nat) : State := { s.accepted l with tickets := { s.tickets with
      cursor := if more = true then (rest.take 4).getLast?.map Record.number else none } }
    let a := [1, if more = true then 1 else 2, byte (rest.take 4).length] ++ (rest.take 4).flatMap Record.summary
    (s.tickets.table = rest → exec (.listTickets [1]) s = .next ((t 1).answered a)) ∧
    (s.tickets.table = rest → s.tickets.cursor = none → exec (.listTickets [0]) s = .next ((t 1).answered a)) ∧
    (∀ (before : List Record) (r : Record), s.tickets.table = before ++ r :: rest → s.tickets.cursor = some r.number →
      (∀ q ∈ before, q.number ≠ r.number) → exec (.listTickets [0]) s = .next ((t 1).answered a))) ∧
  (∀ (x : Byte) (s : State), s.takes 1 → s.flags.restarted = false →
    ((x = 0 ∨ 15 < x.toNat ∨ x.toNat = s.myId) → exec (.releaseForeign [x]) s = .next ((s.accepted 1).answered [5])) ∧
    (x ≠ 0 → x.toNat ≤ 15 → x.toNat ≠ s.myId → s.present x.toNat = true →
      exec (.releaseForeign [x]) s = .next ((s.accepted 1).answered [4])) ∧
    (x ≠ 0 → x.toNat ≤ 15 → x.toNat ≠ s.myId → s.present x.toNat = false →
      exec (.releaseForeign [x]) s = .next (State.answered (1 :: bytesOf 2
          ((s.tickets.table.filter (fun r => match r.custody with
                                             | .taken h _ => decide (h = x.toNat)
                                             | _ => false)).length
            + (s.tickets.register.filter (fun e => decide (e.holder = x.toNat))).length))
        { s.accepted 1 with tickets := { s.tickets with
            table := s.tickets.table.map (fun r =>
              match r.custody with
              | .taken h _ => if h = x.toNat then { r with custody := .free } else r
              | _ => r)
            register := s.tickets.register.map (fun e =>
              if e.holder = x.toNat then { e with holder := 0 } else e) } }))) ∧
  (∀ (n : TicketNo) (s : State), s.takes 3 → s.flags.restarted = false → n.home ≤ 255 → n.serial ≤ 65535 →
    let c := Instr.releaseForeign (ticketBytes n)
    let refused (code : Byte) : Prop := exec c s = .next ((s.accepted 3).answered [code])
    let freed (k : Tickets) : Prop := exec c s = .next (State.answered [1] { s.accepted 3 with tickets := k })
    let others (e : RegEntry) : Prop := e.holder ≠ 0 ∧ e.holder ≠ s.myId
    ((n.home = 0 ∨ 15 < n.home ∨ n.serial = 0) → refused 5) ∧
    (1 ≤ n.home → n.home ≤ 15 → 1 ≤ n.serial →
      (s.findRecord n = none → s.regEntry n = none → refused 7) ∧
      (∀ r h, s.findRecord n = some r → r.taker = some h →
        (s.present h = true → refused 4) ∧ (s.present h = false → freed (s.tickets.held n .free 0))) ∧
      (∀ r, s.findRecord n = some r → r.taker = none → (∀ e ∈ s.regEntry n, ¬ others e) → refused 4) ∧
      (∀ e, s.regEntry n = some e → (∀ r ∈ s.findRecord n, r.taker = none) →
        (s.findRecord n = none → ¬ others e → refused 4) ∧
        (others e → s.present e.holder = true → refused 4) ∧
        (others e → s.present e.holder = false → freed { s.tickets with register := s.tickets.register.map (fun q =>
          if q.serial = n.serial then { q with holder := 0 } else q) }))))

/-! ### The yard link and the claim engine -/

/-- The claim window runs out with no objection: custody is HELD, the register holder this station; a weigh step goes to its
capture, a PAY makes its offer, gives one drawer pulse when there is cash, and starts its confirm timer, and a void in either
slot commits in the same event. A PAY whose drawer falls short, with SHORT TO TRANSFER off, ends DRAWER SHORT, and a PAY or a
void whose record has another step than the one claimed, or is stale, ends LOST: custody is given back, the holder is 0, a
RELEASE goes out on the closing place, and a record that neither the role nor the last writer keeps leaves the table. A void
whose receipt has no room while RECEIPT REQUIRED is on ends PRINT QUEUE FULL likewise. The model's choices it rests on: log
entries 1, 11, 20, 37 and 59. -/
def Obligations.ClaimWindowGrants : Prop :=
  ∀ (sub : Subject) (ms : Nat) (s : State), s.powered = true →
    let window : ClaimTimer := { phase := .window, subject := some sub, count := some ms }
    let ended : ClaimTimer := { phase := .ended, subject := some sub, count := none }
    let committed : ClaimTimer := { phase := .committed, subject := some sub, count := none }
    let told (slot : SlotId) (outcome : Result) (loss : Option LossReason) : Notices := { s.notices with
      queue := s.notices.queue ++ [(s.notices.seq, .done slot outcome (some sub.ticket) loss 0 0)]
      seq := (s.notices.seq + 1) % 256 }
    let noRoom : Prop := s.settings.receiptRequired = true ∧ 8 ≤ s.printer.jobs.length
    let sent (closing : Bool) (f : Frame) : Link := { (elapse ms s).link with
      queue := if closing = true then placed (.single f) (elapse ms s).link.queue else (elapse ms s).link.queue }
    let lostPay (o : PayOp) (r : Record) (outcome : Result) (loss : Option LossReason) : Prop :=
      exec (.claimWindowExpiry .pay) s = .next (settle { elapse ms s with
        payOp := none, payTimer := ended, tickets := s.tickets.handedBack r (s.roleKeeps r)
        link := sent o.closing (.release sub.ticket)
        printer := { (elapse ms s).printer with
          jobs := s.printer.jobs.filter (fun j => decide (some j.number ≠ o.placeholder)) }
        notices := told .pay outcome loss })
    let lostVoid (o : WeighOp) (r : Record) (outcome : Result) (loss : Option LossReason) : Prop :=
      exec (.claimWindowExpiry .weigh) s = .next (settle { elapse ms s with
        weigh := none, weighTimer := ended, tickets := s.tickets.handedBack r (s.roleKeeps r)
        link := sent o.closing (.release sub.ticket)
        scale := { (elapse ms s).scale with context := none }
        notices := told .weigh outcome loss })
    let voided (slot : SlotId) (closing : Bool) (r : Record) : Prop :=
      ∃ t : State, exec (.claimWindowExpiry slot) s = .next (settle t) ∧
        t.link = sent closing (.closed sub.ticket .voided 0 0 r.seller.isSome) ∧
        t.tickets.closed = s.tickets.closed.drop (if 32 ≤ s.tickets.closed.length then 1 else 0) ++
          [{ number := sub.ticket, closure := .settled .voided 0 0 s.myId r.seller.isSome }] ∧
        t.tickets.table = s.tickets.table.filter (fun x => decide (x.number ≠ sub.ticket)) ∧
        t.tickets.register = (if sub.ticket.home = s.tickets.owner ∧ s.tickets.owner ≠ 0 then s.tickets.register.map (fun e =>
          if e.serial = sub.ticket.serial then { e with life := .voided, holder := 0 } else e) else s.tickets.register) ∧
        t.day.totals = { s.day.totals with voided := min 65535 (s.day.totals.voided + 1) } ∧
        (s.printer.jobs.length < 8 → t.notices = told slot .ok none ∧ t.flags = s.flags ∧
          t.printer.jobs = s.printer.jobs ++
            [{ number := s.printer.nextNumber, kind := .voidSlip, ticket := some sub.ticket, copy := 0, restarts := 0,
               state := .queued, lines := voidSlipLines r false s, sent := 0, awaitsBusy := false }]) ∧
        (8 ≤ s.printer.jobs.length → t.printer.jobs = s.printer.jobs ∧ t.latched .printLost = true) ∧
        t.weigh = (if slot = .weigh then none else s.weigh) ∧ (slot = .pay → t.payOp = none) ∧
        t.weighTimer = (if slot = .weigh then committed else (elapse ms s).weighTimer) ∧
        t.payTimer = (if slot = .pay then committed else (elapse ms s).payTimer) ∧
        t.drawer = s.drawer ∧ t.pricing = s.pricing ∧ t.settings = s.settings
    (∀ (o : WeighOp) (g d : Nat) (final : Bool), s.weigh = some o → o.kind = .weighStep g d final →
      s.weighTimer = window →
      exec (.claimWindowExpiry .weigh) s = .next (settle { elapse ms s with
        weighTimer := { phase := .granted, subject := some sub, count := none }
        tickets := s.tickets.held sub.ticket (.held .weigh sub.purpose) s.myId
        weigh := some { o with grant := .byFrame, phase := .capturing }
        scale := { (elapse ms s).scale with
          context := some { kind := .capture (.ticket sub.ticket), window := [],
                            timer := 1000 * s.scale.inForce.captureTimeout, stableSeen := false } } })) ∧
    (∀ (o : PayOp) (r : Record), s.payOp = some o → o.target = sub.ticket → s.payTimer = window →
      s.findRecord sub.ticket = some r → s.notices.queue.length < 16 →
      (r.step ≠ o.claimedStep → lostPay o r .lost (some .changed)) ∧
      (r.step = o.claimedStep → r.stale = true → lostPay o r .lost (some .stale)) ∧
      (r.step = o.claimedStep → r.stale = false → o.isVoid = false →
        let f := computeOffer (r.offered false (r.seller.isSome || o.given.isSome)) s
        (0 < f.shortfall → s.settings.shortToTransfer = false → lostPay o r .drawerShort none) ∧
        ((f.shortfall = 0 ∨ s.settings.shortToTransfer = true) →
          exec (.claimWindowExpiry .pay) s = .next (settle { elapse ms s with
            payTimer := { phase := .granted, subject := some sub, count := none }
            tickets := s.tickets.held sub.ticket (.held .pay sub.purpose) s.myId
            payOp := some { o with grant := .byFrame, offer := some f
                                   confirm := some (1000 * s.settings.confirmTimeout) }
            drawer := if 0 < f.cash then { s.drawer with pulses := s.drawer.pulses + 1 } else s.drawer
            notices := told .pay .ok none }))) ∧
      (r.step = o.claimedStep → r.stale = false → o.isVoid = true → o.placeholder = none →
        (noRoom → lostPay o r .printQueueFull none) ∧
        (¬ noRoom → s.closedEntry sub.ticket = none → voided .pay o.closing r))) ∧
    (∀ (o : WeighOp) (r : Record), s.weigh = some o → o.kind = .void → o.target = some sub.ticket → s.weighTimer = window →
      s.findRecord sub.ticket = some r → s.notices.queue.length < 16 →
      (r.step ≠ o.claimedStep → lostVoid o r .lost (some .changed)) ∧
      (r.step = o.claimedStep → r.stale = true → lostVoid o r .lost (some .stale)) ∧
      (r.step = o.claimedStep → r.stale = false → noRoom → lostVoid o r .printQueueFull none) ∧
      (r.step = o.claimedStep → r.stale = false → ¬ noRoom → s.closedEntry sub.ticket = none → voided .weigh o.closing r))

/-- An own frame in UP and in ALONE: its start, of the first item or of a burst under way wherever it stands, puts it on the
wire; arbitration lost takes it off with its place and its attempts kept; it is delivered by an acknowledgement in UP and by the
one transmission in ALONE. A delivered CLAIM leaves its place to the hold and starts the window, a delivered ANNOUNCE pays the
restart mark, a burst goes on to its next frame, and whole it clears its record's pending mark. In UP a frame is dropped by a
third unacknowledged attempt, and in both states by its transmit timeout, off the wire at once and else at the end of the
attempt: a CLAIM ends its operation TIMEOUT with custody FREE, a burst marks its record pending, and in UP the drop counts
toward DOWN. The third drop in a row, of any frame and by any of these ends, brings the link to DOWN: a dropped CLAIM's
operation ends first, LINK DOWN is latched, RELEASE and CLOSED frames are held, and every other frame leaves the queue, a burst
marking its record pending and a CLAIM ending its operation TIMEOUT. The model's choices it rests on: log entries 1, 22, 25, 26,
28, 33, 37 and 47. -/
def Obligations.OwnFramesOnTheWire : Prop :=
  ∀ (i : QueueItem) (f : Frame) (s : State), s.powered = true → (s.link.state = .up ∨ s.link.state = .alone) →
    let told (slot : SlotId) (n : TicketNo) : Notices := { s.notices with
      queue := s.notices.queue ++ [(s.notices.seq, .done slot .timeout (some n) none 0 0)]
      seq := (s.notices.seq + 1) % 256 }
    -- item `i` is dropped by `c`, and leaves the rest of the queue and the other parts as `u` has them
    let dropped (c : Instr) (u : State) : Prop :=
      let link : Link := { u.link with undelivered :=
        if s.link.state = .up then s.link.undelivered + 1 else s.link.undelivered }
      (i.slot = none → i.burst = none → exec c s = .next (settle { u with link := link })) ∧
      (∀ n, i.slot = none → i.burst = some n → exec c s = .next (settle { u with
        link := link
        tickets := { s.tickets with table := s.tickets.table.map (fun r =>
          if r.number = n ∧ r.lastWriter = s.myId then { r with pendingBroadcast := true } else r) } })) ∧
      (∀ o r p, i.slot = some .weigh → s.weigh = some o → o.target = some r.number → s.findRecord r.number = some r →
        r.custody = .claiming .weigh p → s.notices.queue.length < 16 →
        exec c s = .next (settle { u with
          link := link, weigh := none, scale := { u.scale with context := none }
          weighTimer := { s.weighTimer with phase := .ended, count := none }
          tickets := { s.tickets.handedBack r (s.roleKeeps r) with register := s.tickets.register }
          notices := told .weigh r.number })) ∧
      (∀ o r p, i.slot = some .pay → s.payOp = some o → o.target = r.number → s.findRecord r.number = some r →
        r.custody = .claiming .pay p → s.notices.queue.length < 16 →
        exec c s = .next (settle { u with
          link := link, payOp := none
          payTimer := { s.payTimer with phase := .ended, count := none }
          printer := { u.printer with jobs := s.printer.jobs.filter (fun j => decide (some j.number ≠ o.placeholder)) }
          tickets := { s.tickets.handedBack r (s.roleKeeps r) with register := s.tickets.register }
          notices := told .pay r.number }))
    -- the drop of item `i` by `c` is the third in a row: the entry to DOWN from the state `u` without it
    let leadsDown (c : Instr) (u : State) : Prop := s.link.state = .up → s.link.undelivered = 2 →
      let heldKind (j : QueueItem) : Bool := decide (j.frames.head?.map Frame.kind = some .release) ||
        decide (j.frames.head?.map Frame.kind = some .closed)
      let gone (j : QueueItem) : Prop := j = i ∨ (j ∈ u.link.queue ∧ heldKind j = false)
      let freed (n : TicketNo) (t : State) : Prop := ∀ r ∈ t.tickets.table, r.number = n → r.custody = .free
      ∃ t : State, exec c s = .next (settle t) ∧
        t.link = { u.link with
          state := .down, undelivered := 0, upAlone := none, probe := none
          queue := (u.link.queue.filter heldKind).map (fun j =>
            { j with attempts := 0, timeout := none, timedOut := false }) } ∧
        t.latched .linkDown = true ∧
        (s.latched .linkDown = false →
          (i.slot = none → s.notices.queue.length < 16 →
            t.notices.queue[s.notices.queue.length]? = some (s.notices.seq, .flag .linkDown .none)) ∧
          (∀ slot n, i.slot = some slot → s.slotTicket slot = some n → s.notices.queue.length < 15 →
            t.notices.queue[s.notices.queue.length]? = some (s.notices.seq, .done slot .timeout (some n) none 0 0) ∧
            t.notices.queue[s.notices.queue.length + 1]? = some ((s.notices.seq + 1) % 256, .flag .linkDown .none))) ∧
        (∀ j, gone j → ∀ n, j.slot = none → j.burst = some n →
          ∀ r ∈ t.tickets.table, r.number = n → r.lastWriter = s.myId → r.pendingBroadcast = true) ∧
        (∀ j, gone j → ∀ o, j.slot = some .pay → s.payOp = some o →
          t.payOp = none ∧ t.payTimer.phase = .ended ∧ freed o.target t ∧
          t.printer.jobs = u.printer.jobs.filter (fun q => decide (some q.number ≠ o.placeholder)) ∧
          (s.notices.queue.length < 13 →
            ∃ q, (q, Notice.done .pay .timeout (some o.target) none 0 0) ∈ t.notices.queue)) ∧
        (∀ j, gone j → ∀ o n, j.slot = some .weigh → s.weigh = some o → o.target = some n →
          t.weigh = none ∧ t.weighTimer.phase = .ended ∧ freed n t ∧
          (s.notices.queue.length < 13 →
            ∃ q, (q, Notice.done .weigh .timeout (some n) none 0 0) ∈ t.notices.queue)) ∧
        t.tickets.register = s.tickets.register ∧ t.tickets.closed = s.tickets.closed ∧ t.day = u.day ∧
        t.drawer = s.drawer ∧ t.pricing = s.pricing ∧ t.settings = s.settings
    (∀ before rest, s.link.wire = none → s.link.queue = before ++ i :: rest → i.frames.head? = some f →
      ((i.burst.isSome = true ∧ (i.started = true ∨ i.onWire = true) ∧
          ∀ x ∈ before, x.burst = none ∨ (x.started = false ∧ x.onWire = false)) ∨
        (before = [] ∧ ∀ x ∈ s.link.queue, x.burst = none ∨ (x.started = false ∧ x.onWire = false))) →
      exec .frameStart s = .next (settle { s with link := { s.link with
        queue := before ++ { i with onWire := true } :: rest
        wire := some { frame := f, probe := false, bits := frameBits s.myId f } } })) ∧
    (∀ w before after, s.link.wire = some w → w.probe = false → s.link.queue = before ++ i :: after →
      (∀ x ∈ before, x.onWire = false) → i.onWire = true →
      let without : Link := { s.link with wire := none, queue := before ++ after }
      (i.timedOut = false → exec .arbitrationLost s = .next (settle { s with link := { s.link with
        wire := none, queue := before ++ { i with onWire := false } :: after } })) ∧
      (i.timedOut = true → (s.link.state = .alone ∨ s.link.undelivered < 2) →
        dropped .arbitrationLost { s with link := without }) ∧
      (∀ ack, (ack = true ∨ s.link.state = .alone) →
        let link : Link := { without with undelivered := if s.link.state = .up then 0 else s.link.undelivered }
        (i.frames = [f] → i.slot = none → i.burst = none → f.kind ≠ .announce →
          exec (.attemptEnd ack) s = .next (settle { s with link := link })) ∧
        (∀ a, i.frames = [.announce a] → i.slot = none → i.burst = none →
          exec (.attemptEnd ack) s = .next (settle { s with link := { link with
            restartOwed := s.link.restartOwed && !a.restart } })) ∧
        (i.frames = [f] → i.slot = some .weigh →
          exec (.attemptEnd ack) s = .next (settle { s with
            link := link
            weigh := s.weigh.map (fun o => { o with closing := true })
            weighTimer := { s.weighTimer with phase := .window, count := some s.settings.claimWindow } })) ∧
        (i.frames = [f] → i.slot = some .pay →
          exec (.attemptEnd ack) s = .next (settle { s with
            link := link
            payOp := s.payOp.map (fun o => { o with closing := true })
            payTimer := { s.payTimer with phase := .window, count := some s.settings.claimWindow } })) ∧
        (∀ g rest, i.frames = f :: g :: rest → exec (.attemptEnd ack) s = .next (settle { s with link := { link with
          queue := before ++ { i with frames := g :: rest, started := true, onWire := false, attempts := 0
                                      timeout := none, timedOut := false } :: after } })) ∧
        (∀ n, i.frames = [f] → i.slot = none → i.burst = some n →
          (∀ r ∈ s.tickets.table, r.number ≠ n → r.pendingBroadcast = false) →
          exec (.attemptEnd ack) s = .next (settle { s with
            link := link
            tickets := { s.tickets with table := s.tickets.table.map (fun r =>
              if r.number = n then { r with pendingBroadcast := false } else r) } }))) ∧
      (s.link.state = .up → i.timedOut = false → i.attempts < 2 →
        exec (.attemptEnd false) s = .next (settle { s with link := { s.link with
          wire := none
          queue := before ++ { i with started := true, onWire := false, attempts := i.attempts + 1 } :: after } })) ∧
      (s.link.state = .up → (i.timedOut = true ∨ i.attempts = 2) → s.link.undelivered < 2 →
        dropped (.attemptEnd false) { s with link := without }) ∧
      (i.timedOut = true → leadsDown .arbitrationLost { s with link := without }) ∧
      ((i.timedOut = true ∨ i.attempts = 2) → leadsDown (.attemptEnd false) { s with link := without })) ∧
    (∀ p ms, s.link.queue[p]? = some i → i.timeout = some ms →
      (i.onWire = true → exec (.transmitTimeout p) s = .next (settle { elapse ms s with link := { (elapse ms s).link with
        queue := (elapse ms s).link.queue.set p { i with timeout := none, timedOut := true } } })) ∧
      (i.onWire = false → (s.link.state = .alone ∨ s.link.undelivered < 2) →
        dropped (.transmitTimeout p) { elapse ms s with link := { (elapse ms s).link with
          queue := (elapse ms s).link.queue.eraseIdx p } }) ∧
      (i.onWire = false → leadsDown (.transmitTimeout p) { elapse ms s with link := { (elapse ms s).link with
        queue := (elapse ms s).link.queue.eraseIdx p } }))

/-- An ID conflict, seen on the wire or by a well-formed frame of any kind that bears this station's own ID, stops the frame on
the wire and brings the link to SILENT: ID CONFLICT is latched, RELEASE and CLOSED frames are held, every other frame leaves the
queue, and a claim whose CLAIM was queued ends. A frame with a bad CRC is counted and not acknowledged; a malformed one only
refreshes its sender outside a burst, and reveals no conflict. Without a frame on the wire no bit of it is read. The model's
choices it rests on: log entries 2, 13, 26, 32, 33, 37 and 49. -/
def Obligations.IdConflictAndDamagedFrames : Prop :=
  ∀ s : State, s.powered = true →
    let silenced (c : Instr) : Prop := ∃ t : State, exec c s = .next (settle t) ∧
      t.link.state = .silent ∧ t.link.wire = none ∧ t.link.joinTimer = none ∧ t.link.announceTimer = none ∧
      t.latched .idConflict = true ∧
      t.link.queue.map QueueItem.frames = (s.link.queue.filter (fun i =>
        decide (i.frames.head?.map Frame.kind = some .release) ||
        decide (i.frames.head?.map Frame.kind = some .closed))).map QueueItem.frames ∧
      (∀ i ∈ s.link.queue, i.slot = some .pay → i.frames.head?.map Frame.kind = some .claim → t.payOp = none) ∧
      (∀ i ∈ s.link.queue, ∀ o, i.slot = some .weigh → i.frames.head?.map Frame.kind = some .claim →
        s.weigh = some o → o.target ≠ none → t.weigh = none) ∧
      (∀ i ∈ s.link.queue, ∀ n, i.burst = some n → i.slot = none →
        decide (i.frames.head?.map Frame.kind = some .release) = false →
        decide (i.frames.head?.map Frame.kind = some .closed) = false →
        ∀ r ∈ t.tickets.table, r.number = n → r.lastWriter = s.myId → r.pendingBroadcast = true) ∧
      t.link.roster = s.link.roster ∧ t.link.contexts = s.link.contexts ∧ t.tickets.register = s.tickets.register ∧
      t.tickets.closed = s.tickets.closed ∧ t.day = s.day ∧ t.drawer = s.drawer
    (s.link.wire ≠ none → silenced .idConflictDetected) ∧
    (∀ f : Frame, f.inRange = true → 1 ≤ s.myId → s.myId ≤ 15 → silenced (f.received s.myId)) ∧
    (s.link.wire = none → exec .idConflictDetected s = .next (settle s)) ∧
    exec .badCrcFrame s = .next (settle { s with link := { s.link with
      crcErrors := min 255 (s.link.crcErrors + 1), ackDriven := false } }) ∧
    (∀ x, s.reads x → s.contextOf x = none → exec (.malformedFrame x) s = .next (settle (s.heard x))) ∧
    (s.link.state = .up → exec (.malformedFrame s.myId) s = .next (settle
      { s with link := { s.link with ackDriven := true } }))

/-- A peer's CLAIM: a record FREE, or TAKEN by that peer, and not ahead of its step is TAKEN by the peer, and one behind its
step is marked stale, its ASK queued; a record ahead of it draws an OBJECT STALE; one that another peer took, that a slot holds,
or that a slot claims with its CLAIM delivered, an OBJECT HELD; a closed ticket an OBJECT CLOSED; an own CLAIM still queued is
withdrawn, unless the record is ahead. A home station without a record judges by the register entry alone: an entry ahead of the
step draws an OBJECT STALE, one that another station holds an OBJECT HELD naming it, a settled one an OBJECT CLOSED with the
entry's step, and any other takes the peer as holder. All this is in UP. In DOWN, where no own CLAIM waits, the
same judgement changes custody, holder and stale mark, and queues no OBJECT and no ASK. In JOINING and SILENT, where the frame is
not acknowledged, only a record behind the step is marked stale; the ASK is queued in JOINING, with a place empty, and lost in
SILENT. The model's choices it rests on: log entries 25, 26 and 33. -/
def Obligations.ClaimReceived : Prop :=
  (∀ (x : Nat) (n : TicketNo) (p : Purpose) (step : Nat) (s : State), s.reads x → s.contextOf x = none →
     1 ≤ n.home → n.home ≤ 15 → 1 ≤ n.serial → n.serial ≤ 65535 → step ≤ 8 →
     let c := Instr.claimReceived x (ticketBytes n ++ [byte p.code, byte step])
     let objecting (h : Nat) (reason : ObjectReason) (own : Nat) : Prop := s.occupied < 24 →
       exec c s = .next (settle { s.heard x with link := { (s.heard x).link with
         queue := placed (.single (.object n x h reason own)) s.link.queue } })
     let taken : Tickets := s.tickets.held n (.taken x p) x
     (∀ r, s.isClosed n = false → s.findRecord n = some r → (r.custody = .free ∨ r.taker = some x) →
       (r.step = step → exec c s = .next (settle { s.heard x with tickets := taken })) ∧
       (r.step < step → r.stale = true → exec c s = .next (settle { s.heard x with tickets := taken })) ∧
       (r.step < step → r.stale = false → s.payOp = none → s.occupied < 24 →
         exec c s = .next (settle { s.heard x with
           tickets := { taken with
             table := taken.table.map (fun q => if q.number = n then { q with stale := true } else q) }
           link := { (s.heard x).link with queue := placed (.single (.ask n r.step)) s.link.queue } })) ∧
       (step < r.step → objecting 0 .stale r.step)) ∧
     (∀ r, s.isClosed n = false → s.findRecord n = some r → step ≤ r.step →
       (∀ y, r.taker = some y → y ≠ x → objecting y .held r.step) ∧
       (∀ slot q, r.custody = .held slot q → objecting s.myId .held r.step) ∧
       (∀ slot q, r.custody = .claiming slot q → (s.claimTimer slot).phase ≠ .queued → objecting s.myId .held r.step) ∧
       (∀ slot q, r.custody = .claiming slot q → (s.claimTimer slot).phase = .queued → step < r.step →
         objecting 0 .stale r.step)) ∧
     (s.isClosed n = true → s.findRecord n = none → s.regEntry n = none → objecting 0 .closed 0) ∧
     (s.isClosed n = false → s.findRecord n = none → s.regEntry n = none → exec c s = .next (settle (s.heard x))) ∧
     (∀ e, s.findRecord n = none → s.regEntry n = some e →
       ((e.life = .paid ∨ e.life = .voided ∨ e.life = .closed) → objecting 0 .closed e.step) ∧
       (s.isClosed n = false → (e.holder = 0 ∨ e.holder = x) → step < e.step → objecting 0 .stale e.step) ∧
       (s.isClosed n = false → (e.holder = 0 ∨ e.holder = x) → e.step ≤ step →
         exec c s = .next (settle { s.heard x with tickets := { s.tickets with
           register := s.tickets.register.map (fun q => if q.serial = n.serial then { q with holder := x } else q) } })) ∧
       (s.isClosed n = false → e.holder ≠ 0 → e.holder ≠ x → objecting e.holder .held e.step)) ∧
     (∀ r q, s.isClosed n = false → s.findRecord n = some r → r.step = step → s.notices.queue.length < 16 →
       let withdrawn (slot : SlotId) : State := { s.heard x with
         tickets := s.tickets.handedOver r (.taken x p) x (s.roleKeeps r)
         link := { (s.heard x).link with queue := s.link.queue.filter (fun i => decide (i.slot ≠ some slot)) }
         notices := { s.notices with
           queue := s.notices.queue ++ [(s.notices.seq, .done slot .lost (some n) (some .withdrawn) x 0)]
           seq := (s.notices.seq + 1) % 256 } }
       (∀ o, r.custody = .claiming .weigh q → s.weighTimer.phase = .queued → s.weigh = some o → o.target = some n →
         exec c s = .next (settle { withdrawn .weigh with
           weigh := none
           scale := { s.scale with context := none }
           weighTimer := { s.weighTimer with phase := .ended, count := none } })) ∧
       (∀ o, r.custody = .claiming .pay q → s.payTimer.phase = .queued → s.payOp = some o → o.target = n →
         exec c s = .next (settle { withdrawn .pay with
           payOp := none
           payTimer := { s.payTimer with phase := .ended, count := none }
           printer := { s.printer with jobs := s.printer.jobs.filter (fun j =>
             decide (some j.number ≠ o.placeholder)) } })))) ∧
  (∀ (x : Nat) (n : TicketNo) (p : Purpose) (step : Nat) (s : State), s.hears x → s.contextOf x = none →
     1 ≤ n.home → n.home ≤ 15 → 1 ≤ n.serial → n.serial ≤ 65535 → step ≤ 8 →
     (∀ q ∈ s.payOp, q.target = n → q.offer = none) →
     let c := Instr.claimReceived x (ticketBytes n ++ [byte p.code, byte step])
     let judged (ack : Bool) (k : Tickets) (queue : List QueueItem) : Prop :=
       exec c s = .next (settle { s.heard x with
         tickets := k
         link := { (s.heard x).link with ackDriven := ack, queue := queue } })
     let newlyStale (r : Record) : Prop := r.step < step ∧ r.stale = false
     let stale (k : Tickets) : Tickets :=
       { k with table := k.table.map (fun q => if q.number = n then { q with stale := true } else q) }
     (s.link.state = .down →
       (∀ r, s.findRecord n = some r →
         let after (k : Tickets) : Prop :=
           (newlyStale r → judged true (stale k) s.link.queue) ∧ (¬ newlyStale r → judged true k s.link.queue)
         let free : Prop := s.isClosed n = false ∧ (r.custody = .free ∨ r.taker = some x)
         (free → r.step ≤ step → after (s.tickets.held n (.taken x p) x)) ∧
         (free → step < r.step → after s.tickets) ∧
         (s.isClosed n = true → after s.tickets) ∧
         (∀ y, r.taker = some y → y ≠ x → after s.tickets) ∧
         (∀ slot q, r.custody = .held slot q → after s.tickets) ∧
         (∀ slot q, r.custody = .claiming slot q → (s.claimTimer slot).phase ≠ .queued ∨ step < r.step →
           after s.tickets)) ∧
       (s.findRecord n = none →
         (s.isClosed n = true ∨ s.regEntry n = none → judged true s.tickets s.link.queue) ∧
         (∀ e, s.isClosed n = false → s.regEntry n = some e →
           let free : Prop := e.holder = 0 ∨ e.holder = x
           (free → e.step ≤ step → judged true { s.tickets with register := s.tickets.register.map (fun q =>
             if q.serial = n.serial then { q with holder := x } else q) } s.link.queue) ∧
           (¬ free ∨ step < e.step → judged true s.tickets s.link.queue)))) ∧
     (s.link.state = .joining ∨ s.link.state = .silent →
       (s.findRecord n = none → judged false s.tickets s.link.queue) ∧
       (∀ r, s.findRecord n = some r →
         (¬ newlyStale r → judged false s.tickets s.link.queue) ∧
         (newlyStale r →
           (s.link.state = .silent ∨ 24 ≤ s.occupied → judged false (stale s.tickets) s.link.queue) ∧
           (s.link.state = .joining → s.occupied < 24 →
             judged false (stale s.tickets) (placed (.single (.ask n r.step)) s.link.queue))))))

/-- A peer's OBJECT that names this station as claimant: in the claim window it ends the operation LOST without a RELEASE, whatever
holder it names: HELD gives the record to the named holder, and frees it where that is no peer; STALE frees it and marks it
stale, its ASK queued; CLOSED moves the ticket into the closed list; in a hold before its commit it ends the operation LOST, custody FREE, the register
holder 0 and a RELEASE on the closing place, STALE marking the record stale with its ASK, CLOSED moving the ticket into the
closed list without a RELEASE; past the commit it latches CONFLICT and changes no custody. One that names another claimant
frees, with reason STALE, a record TAKEN by that claimant. The model's choices it rests on: log entries 16, 17, 33, 37 and
54. -/
def Obligations.ObjectReceived : Prop :=
  ∀ (x c h : Nat) (n : TicketNo) (step : Nat) (s : State), s.reads x → s.contextOf x = none →
    1 ≤ n.home → n.home ≤ 15 → 1 ≤ n.serial → n.serial ≤ 65535 → 1 ≤ c → c ≤ 15 → h ≤ 15 → step ≤ 8 →
    let frame (reason : ObjectReason) :=
      Instr.objectReceived x (ticketBytes n ++ [byte c, byte h, byte reason.code, byte step])
    (∀ sub, c = s.myId → h ≠ s.myId → s.weighTimer.phase = .committed → s.weighTimer.subject = some sub →
      sub.ticket = n → s.payTimer.subject = none → s.findRecord n = none →
      exec (frame .held) s = .next (settle (latchEvent .conflict (.conflict n x .held) (s.heard x)))) ∧
    (let obeyed (slot : SlotId) (r : Record) (closing : Bool) (held freed : Tickets) (ended : State → State) : Prop :=
       let lost (why : LossReason) (holder : Nat) : Notices := { s.notices with
         queue := s.notices.queue ++ [(s.notices.seq, .done slot .lost (some n) (some why) holder 0)]
         seq := (s.notices.seq + 1) % 256 }
       let released : List QueueItem :=
         if closing = true then placed (.single (.release n)) s.link.queue else s.link.queue
       exec (frame .held) s = .next (settle { ended (s.heard x) with
         tickets := held
         link := { (s.heard x).link with queue := released }
         notices := lost .held h }) ∧
       (r.stale = false → s.roleKeeps r → s.occupied < 24 →
         exec (frame .stale) s = .next (settle { ended (s.heard x) with
           tickets := { freed with table := freed.table.map (fun q =>
             if q.number = n then { q with stale := true } else q) }
           link := { (s.heard x).link with queue := placed (.single (.ask n r.step)) released }
           notices := lost .stale 0 })) ∧
       (s.closedEntry n = none → s.tickets.closed.length < 32 →
         ∃ t : State, exec (frame .closed) s = .next (settle t) ∧
           t = { ended (s.heard x) with tickets := t.tickets, notices := lost .closed 0 } ∧
           t.tickets.closed = s.tickets.closed ++ [{ number := n, closure := .elsewhere }] ∧
           t.tickets.table = s.tickets.table.filter (fun q => decide (q.number ≠ n)) ∧
           t.tickets.register = (if n.home = s.tickets.owner ∧ s.tickets.owner ≠ 0
             then s.tickets.register.map (fun e => if e.serial = n.serial then
               { e with life := if e.life = .paid ∨ e.life = .voided then e.life else .closed, holder := 0 } else e)
             else s.tickets.register))
     let given (r : Record) (kept : Custody) (holder : Nat) : Tickets := s.tickets.handedOver r kept holder (s.roleKeeps r)
     let unclaimed (r : Record) : Tickets := { given r .free 0 with register := s.tickets.register }
     let yielded (r : Record) (p : Purpose) : Tickets :=
       if 1 ≤ h ∧ h ≠ s.myId then given r (.taken h p) h else given r .free 0
     (∀ sub o r, c = s.myId → s.weighTimer.subject = some sub → sub.ticket = n →
       (∀ u ∈ s.payTimer.subject, u.ticket = n → s.payTimer.phase = .committed ∨ s.payTimer.phase = .ended) →
       (∀ q ∈ s.payOp, q.target ≠ n) →
       s.weigh = some o → o.target = some n → s.findRecord n = some r → step ≤ r.step → s.notices.queue.length < 16 →
       let ended (u : State) : State := { u with
         weigh := none
         scale := { s.scale with context := none }
         weighTimer := { s.weighTimer with phase := .ended, count := none } }
       (s.weighTimer.phase = .window → r.custody = .claiming .weigh sub.purpose →
         obeyed .weigh r false (yielded r sub.purpose) (unclaimed r) ended) ∧
       (s.weighTimer.phase = .granted → r.custody = .held .weigh sub.purpose →
         obeyed .weigh r o.closing (given r .free 0) (given r .free 0) ended)) ∧
     (∀ sub o r, c = s.myId → s.payTimer.subject = some sub → sub.ticket = n →
       (∀ u ∈ s.weighTimer.subject, u.ticket = n → s.weighTimer.phase = .committed ∨ s.weighTimer.phase = .ended) →
       s.payOp = some o → o.target = n → s.findRecord n = some r → step ≤ r.step → s.notices.queue.length < 16 →
       let ended (u : State) : State := { u with
         payOp := none
         payTimer := { s.payTimer with phase := .ended, count := none }
         printer := { s.printer with jobs := s.printer.jobs.filter (fun j =>
           decide (some j.number ≠ o.placeholder)) } }
       (s.payTimer.phase = .window → r.custody = .claiming .pay sub.purpose →
         obeyed .pay r false (yielded r sub.purpose) (unclaimed r) ended) ∧
       (s.payTimer.phase = .granted → r.custody = .held .pay sub.purpose →
         obeyed .pay r o.closing (given r .free 0) (given r .free 0) ended))) ∧
    (∀ r p, c ≠ s.myId → s.findRecord n = some r → r.custody = .taken c p → step ≤ r.step →
      ∃ t : State, exec (frame .stale) s = .next (settle t) ∧ t = { s.heard x with tickets := t.tickets } ∧
        t.tickets.table = s.tickets.table.map (fun q => if q.number = n then { q with custody := .free } else q) ∧
        (n.home = s.tickets.owner → s.tickets.owner ≠ 0 → t.tickets.register = s.tickets.register.map (fun e =>
          if e.serial = n.serial ∧ e.holder = c then { e with holder := 0 } else e)) ∧
        t.tickets.closed = s.tickets.closed)

/-- A peer's RELEASE frees its own hold and no other's; a peer's CLOSED moves the ticket into the closed list, its record
leaving the table with a CLOSED ELSEWHERE notice, and settles the register entry. The model's choices it rests on: log entries
14, 17, 33 and 49. -/
def Obligations.ReleaseAndClosedReceived : Prop :=
  ∀ (x : Nat) (n : TicketNo) (r : Record) (s : State), s.reads x → s.contextOf x = none →
    1 ≤ n.home → n.home ≤ 15 → 1 ≤ n.serial → n.serial ≤ 65535 → s.findRecord n = some r →
    (∀ y p, r.custody = .taken y p →
      ∃ t : State, exec (.releaseReceived x (ticketBytes n)) s = .next (settle t) ∧
        t = { s.heard x with tickets := t.tickets } ∧
        t.tickets.table = (if y = x
          then s.tickets.table.map (fun q => if q.number = n then { q with custody := .free } else q)
          else s.tickets.table) ∧
        (n.home = s.tickets.owner → s.tickets.owner ≠ 0 → t.tickets.register = s.tickets.register.map (fun e =>
          if e.serial = n.serial ∧ e.holder = x then { e with holder := 0 } else e)) ∧
        t.tickets.closed = s.tickets.closed) ∧
    (∀ (how : Settlement) (cash : Nat) (transfer : Int) (seller : Bool), cash ≤ 300900000 →
      -300900000 ≤ transfer → transfer ≤ 300900000 → s.weighTimer.subject = none → s.payTimer.subject = none →
      s.closedEntry n = none → s.tickets.closed.length < 32 → s.notices.queue.length < 16 →
      ∃ t : State, exec (.closedReceived x (ticketBytes n ++ [byte how.code] ++ bytesOf 4 cash
          ++ signedBytes 4 transfer ++ [flagByte seller])) s = .next (settle t) ∧
        t = { s.heard x with tickets := t.tickets, notices := t.notices } ∧
        t.tickets.closed = s.tickets.closed ++ [{ number := n, closure := .settled how cash transfer x seller }] ∧
        t.tickets.table = s.tickets.table.filter (fun q => decide (q.number ≠ n)) ∧
        (n.home = s.tickets.owner → s.tickets.owner ≠ 0 → t.tickets.register = s.tickets.register.map (fun e =>
          if e.serial = n.serial then { e with life := if how = .paid then .paid else .voided, holder := 0 } else e)) ∧
        t.notices.queue = s.notices.queue ++
          [(s.notices.seq, .closedElsewhere n (.settled how cash transfer x seller))])

/-- A peer's burst: a HEAD that announces lines opens the context, the next LINE or NOTE is added to it, and the frame that
completes it has the record judged: here stored at the end of the table when it is not held, or put in place of a record of a
lower step. The model's choices it rests on: log entries 13, 32, 33, 44 and 49. -/
def Obligations.BurstRebuildsTheRecord : Prop :=
  ∀ (x : Nat) (h : HeadValues) (s : State), s.reads x → s.role = some .both →
    (Frame.head h).inRange = true → s.isClosed h.ticket = false →
    let life := if h.life = .opened then RegLife.opened else .complete
    let register := if h.ticket.home = s.tickets.owner ∧ s.tickets.owner ≠ 0
      then s.tickets.register.map (fun e =>
        if e.serial = h.ticket.serial ∧ (e.life = .opened ∨ e.life = .complete) then
        { e with step := max e.step h.step, life := if e.step ≤ h.step then life else e.life, holder := 0 } else e)
      else s.tickets.register
    let contexts := s.link.contexts.filter (fun c => decide (c.peer ≠ x))
    let record (lines : List Line) (tag : Option Text) (custody : Custody) : Record :=
      { number := h.ticket, issueDay := h.issueDay, life := h.life, step := h.step, grossIn := h.grossIn,
        lastWeight := h.lastWeight, weighInTime := h.weighInTime, lastStepTime := h.lastStepTime, lines := lines,
        tag := tag, seller := none, offline := h.offline, priceEarly := h.priceEarly, lastWriter := x,
        custody := custody, stale := false, pendingBroadcast := false }
    (s.contextOf x = none → 0 < h.lineCount →
      exec (.headReceived x (Frame.head h).payload) s = .next (settle { s.heard x with link := { (s.heard x).link with
        contexts := contexts ++ [{ peer := x, head := h, lines := [], tag := none, seller := none, timer := 200 }] } })) ∧
    (s.contextOf x = none → h.lineCount = 0 → h.hasTag = false → h.hasSeller = false → h.step = 0 →
      h.life = .opened → h.grossIn = h.lastWeight → s.findRecord h.ticket = none → s.weigh = none →
      s.tickets.table.length < 48 →
      exec (.headReceived x (Frame.head h).payload) s = .next (settle { s.heard x with
        tickets := { s.tickets with table := s.tickets.table ++ [record [] none .free], register := register }
        link := { (s.heard x).link with contexts := contexts } })) ∧
    (∀ (c : Reassembly) (l : Line), s.contextOf x = some c → c.peer = x → c.head = h → (Frame.line h.ticket l).inRange = true →
      l.index = c.lines.length + 1 → l.index < h.lineCount →
      exec (.lineReceived x (Frame.line h.ticket l).payload) s = .next (settle { s.heard x with
        link := { (s.heard x).link with contexts := contexts ++ [{ c with lines := c.lines ++ [l] }] } })) ∧
    (∀ (c : Reassembly) (l : Line) (old : Record), s.contextOf x = some c → c.peer = x → c.head = h → c.tag = none →
      c.seller = none → (Frame.line h.ticket l).inRange = true → l.index = c.lines.length + 1 →
      l.index = h.lineCount → h.hasTag = false → h.hasSeller = false → h.step = h.lineCount → h.life = .opened →
      (((c.lines ++ [l]).map Line.net).sum : Int) = (h.grossIn : Int) - h.lastWeight →
      s.findRecord h.ticket = some old → old.step < h.step → old.custody = .free → old.lines = [] → s.payOp = none →
      exec (.lineReceived x (Frame.line h.ticket l).payload) s = .next (settle { s.heard x with
        tickets := { s.tickets with
          table := s.tickets.table.map (fun q =>
            if q.number = h.ticket then
              record ((c.lines ++ [l]).map (fun l => { l with localPart := none })) none .free else q)
          register := register }
        link := { (s.heard x).link with contexts := contexts } })) ∧
    (∀ (c : Reassembly) (tag : Text), s.contextOf x = some c → c.peer = x → c.head = h → c.lines = [] → c.tag = none →
      c.seller = none → 1 ≤ tag.length → tag.length ≤ 12 → (∀ ch ∈ tag, 32 ≤ ch ∧ ch ≤ 126) → h.lineCount = 0 →
      h.hasTag = true → h.hasSeller = false → h.step = 0 → h.life = .opened → h.grossIn = h.lastWeight →
      s.findRecord h.ticket = none → s.weigh = none → s.tickets.table.length < 48 →
      exec (.noteReceived x (ticketBytes h.ticket ++ [1] ++ tag.map byte)) s = .next (settle { s.heard x with
        tickets := { s.tickets with table := s.tickets.table ++ [record [] (some tag) .free], register := register }
        link := { (s.heard x).link with contexts := contexts } }))

/-- An ASK is answered with the record's burst only by the station whose record is not stale, at least at the step, and last
written here. An ANNOUNCE sets its sender's values; a change of role or of day state and the restart mark are reported, in that
order, with the new values, and the restart mark frees the sender's holds. The first ANNOUNCE of a peer makes its roster entry,
reports it present, and then its role and its day state. The model's choices it rests on: log entries 15, 33 and 35. -/
def Obligations.AskAndAnnounceReceived : Prop :=
  (∀ (x : Nat) (a : AnnounceValues) (s : State), s.powered = true → 1 ≤ x → x ≤ 15 → x ≠ s.myId → s.waitId = false →
     s.peer x = none → s.link.state = .up → s.contextOf x = none → a.dayNumber ≤ 65535 → a.tableLoad ≤ 48 →
     a.restart = false → s.notices.queue.length < 14 → s.notices.seq < 256 →
     let reported (c : PeerChange) : Notice := .peer x c (some a.role) (some a.dayNumber) (some a.dayOpen)
     exec (.announceReceived x (Frame.announce a).payload) s = .next (settle { s with
       link := { s.link with
         ackDriven := true
         upAlone := none
         roster := s.link.roster.takeWhile (fun q => decide (q.id < x))
           ++ [{ id := x, role := some a.role, dayNumber := some a.dayNumber, dayOpen := some a.dayOpen,
                 tableLoad := some a.tableLoad, present := true, sinceHeard := 0 }]
           ++ s.link.roster.dropWhile (fun q => decide (q.id < x)) }
       notices := { s.notices with
         queue := s.notices.queue ++ [(s.notices.seq, .peer x .present none none none),
           ((s.notices.seq + 1) % 256, reported .role), ((s.notices.seq + 2) % 256, reported .dayState)]
         seq := (s.notices.seq + 3) % 256 } })) ∧
  ∀ (x : Nat) (s : State), s.reads x → s.contextOf x = none →
    (∀ (n : TicketNo) (step : Nat) (r : Record), 1 ≤ n.home → n.home ≤ 15 → 1 ≤ n.serial → n.serial ≤ 65535 →
      step ≤ 8 → s.findRecord n = some r →
      ((r.stale = true ∨ r.step < step ∨ r.lastWriter ≠ s.myId) →
        exec (.askReceived x (ticketBytes n ++ [byte step])) s = .next (settle (s.heard x))) ∧
      (r.stale = false → step ≤ r.step → r.lastWriter = s.myId → s.occupied + r.burst.length ≤ 24 →
        ∃ t : State, exec (.askReceived x (ticketBytes n ++ [byte step])) s = .next (settle t) ∧
          t = { s.heard x with link := { (s.heard x).link with queue := t.link.queue } } ∧
          ∃ i ∈ t.link.queue, i.frames = r.burst ∧ i.burst = some n ∧ i.started = false)) ∧
    (∀ (a : AnnounceValues) (p : Peer), a.dayNumber ≤ 65535 → a.tableLoad ≤ 48 → s.peer x = some p →
      let t : State := { s.heard x with link := { (s.heard x).link with
        roster := s.link.roster.map (fun q => if q.id = x then
          { q with present := true, sinceHeard := 0, role := some a.role, dayNumber := some a.dayNumber,
                   dayOpen := some a.dayOpen, tableLoad := some a.tableLoad } else q) } }
      (p.role = some a.role → p.dayOpen = some a.dayOpen → a.restart = false →
        exec (.announceReceived x (Frame.announce a).payload) s = .next (settle t)) ∧
      (p.role = some a.role → p.dayOpen = some a.dayOpen → a.restart = true → s.notices.queue.length < 16 →
        exec (.announceReceived x (Frame.announce a).payload) s = .next (settle { t with
          notices := { s.notices with
            queue := s.notices.queue ++
              [(s.notices.seq, .peer x .restart (some a.role) (some a.dayNumber) (some a.dayOpen))]
            seq := (s.notices.seq + 1) % 256 }
          tickets := { s.tickets with
            table := s.tickets.table.map (fun r =>
              match r.custody with
              | .taken h _ => if h = x then { r with custody := .free } else r
              | _ => r)
            register := s.tickets.register.map (fun e => if e.holder = x then { e with holder := 0 } else e) } })) ∧
      (a.restart = false → s.notices.queue.length < 15 → s.notices.seq < 256 →
        let changes := (if p.role = some a.role then [] else [PeerChange.role])
          ++ (if p.dayOpen = some a.dayOpen then [] else [.dayState])
        exec (.announceReceived x (Frame.announce a).payload) s = .next (settle { t with
          notices := { s.notices with
            queue := s.notices.queue ++ changes.mapIdx (fun i change =>
              ((s.notices.seq + i) % 256, .peer x change (some a.role) (some a.dayNumber) (some a.dayOpen)))
            seq := (s.notices.seq + changes.length) % 256 } })))

/-- The timers of the link: the join timer leads to UP or ALONE with an ANNOUNCE queued; the ANNOUNCE timer starts again, and in
DOWN makes a probe due; a silent peer becomes absent, the last one leading to ALONE; UP without a peer ends in ALONE; an expired
reassembly is lost. A probe goes on the wire in DOWN whatever the queue holds, once for the expiry that made it due;
unacknowledged it is dropped without being counted, losing arbitration it waits again; acknowledged it brings the link to UP, a
probe that still waits being discarded, the held frames staying with no attempt counted, and pending records are fed. The
model's choices it rests on: log entries 1, 25, 35, 37, 47, 48 and 69. -/
def Obligations.LinkTimers : Prop :=
  ∀ s : State, s.powered = true →
    (∀ ms, s.link.joinTimer = some ms → s.occupied < 24 →
      (∀ i ∈ s.link.queue, i.frames.head?.map Frame.kind ≠ some .announce) →
      ∃ t : State, exec .joinTimerExpiry s = .next (settle t) ∧
        t.link.state = (if s.link.roster.any (fun p => p.present) = true then .up else .alone) ∧
        t.link.joinTimer = none ∧ t.link.announceTimer = some 1000 ∧ t.link.undelivered = 0 ∧
        (∃ i ∈ t.link.queue, i.frames = [.announce s.announceValues]) ∧
        t.tickets = s.tickets ∧ t.flags = s.flags ∧ t.notices = s.notices) ∧
    (∀ ms, s.link.announceTimer = some ms → s.link.state = .down →
      exec .announceTimerExpiry s = .next (settle { elapse ms s with link := { (elapse ms s).link with
        announceTimer := some 1000, probe := some s.announceValues } })) ∧
    (∀ a, s.link.wire = none → s.link.state = .down → s.link.probe = some a →
      exec .frameStart s = .next (settle { s with link := { s.link with
        probe := none
        wire := some { frame := .announce a, probe := true, bits := frameBits s.myId (.announce a) } } })) ∧
    (∀ a bits, s.link.wire = some { frame := .announce a, probe := true, bits := bits } → s.link.state = .down →
      exec (.attemptEnd false) s = .next (settle { s with link := { s.link with wire := none } }) ∧
      exec .arbitrationLost s = .next (settle { s with link := { s.link with
        wire := none, probe := some (s.link.probe.getD a) } }) ∧
      ((∀ r ∈ s.tickets.table, r.pendingBroadcast = false) →
        exec (.attemptEnd true) s = .next (settle { s with link := { s.link with
          state := .up, wire := none, probe := none, undelivered := 0
          restartOwed := if a.restart = true then false else s.link.restartOwed
          upAlone := if s.link.roster.any (fun p => p.present) = true then none else some 3000 } })) ∧
      (∀ before r after, s.tickets.table = before ++ r :: after → (∀ q ∈ before, q.pendingBroadcast = false) →
        r.pendingBroadcast = true → (∀ i ∈ s.link.queue, i.burst ≠ some r.number) →
        s.occupied + r.burst.length ≤ 24 →
        ∃ t : State, exec (.attemptEnd true) s = .next (settle t) ∧ t.link.state = .up ∧ t.link.undelivered = 0 ∧
          (∃ i ∈ t.link.queue, i.frames = r.burst ∧ i.burst = some r.number ∧ i.started = false) ∧
          (∀ i ∈ s.link.queue, i.burst = none → i ∈ t.link.queue) ∧ t.tickets = s.tickets)) ∧
    (∀ ms, s.link.announceTimer = some ms → s.link.state = .up → s.occupied < 24 →
      (∀ i ∈ s.link.queue, i.frames.head?.map Frame.kind ≠ some .announce) →
      ∃ t : State, exec .announceTimerExpiry s = .next (settle t) ∧ t.link.announceTimer = some 1000 ∧
        (∃ i ∈ t.link.queue, i.frames = [.announce s.announceValues]) ∧
        t.link.queue.length = s.link.queue.length + 1 ∧ t.tickets = s.tickets) ∧
    (∀ x p, s.peer x = some p → p.present = true → s.notices.queue.length < 16 →
      ∃ t : State, exec (.peerPresenceTimeout x) s = .next (settle t) ∧ t.present x = false ∧
        t.link.state = (if s.link.state = .up ∧ (∀ q ∈ s.link.roster, q.id ≠ x → q.present = false)
                          then .alone else s.link.state) ∧
        t.notices.queue = s.notices.queue ++ [(s.notices.seq, .peer x .absent p.role p.dayNumber p.dayOpen)] ∧
        t.tickets = s.tickets ∧ t.flags = s.flags) ∧
    (∀ ms, s.link.upAlone = some ms → ∃ t : State, exec .upAloneTimeout s = .next (settle t) ∧
      t.link.state = .alone ∧ t.link.upAlone = none ∧ t.tickets = s.tickets ∧ t.notices = s.notices) ∧
    (∀ x c, s.contextOf x = some c → s.findRecord c.head.ticket = none →
      exec (.reassemblyTimeout x) s = .next (settle (latchEvent .reassemblyLost (.reassembly x c.head.ticket)
        { elapse c.timer s with link := { (elapse c.timer s).link with
            contexts := (elapse c.timer s).link.contexts.filter (fun d => decide (d.peer ≠ x)) } })))

/-! ### The receipt unit -/

/-- REPRINT makes a copy of a WEIGH SLIP or a TICKET from the record, of a VOUCHER or a VOID SLIP from the closed list entry: a
job after every job present, its copy number one more than the copies made, holding at 255, its entry of the reprint list moved
to the newest place, and the oldest of 8 leaving for a new one. It is refused RANGE for another kind or a bad number, CLOSED and
NO TICKET for a record that has closed or is not there, NO TICKET without an entry, NOT ALLOWED for an OPEN record's TICKET and
for an entry of another outcome, and PRINT QUEUE FULL behind these checks. PRINT TEXT queues a job likewise, and both answer its
number. CANCEL JOB removes a queued job; a printing one, whose receipt is cut next; and a suspended one, a STOPPED port then
being READY; it is refused for a placeholder and for a number no job has. The model's choices it rests on: log entries 9, 10,
11, 12 and 13. -/
def Obligations.ReprintPrintTextCancelJob : Prop :=
  ∀ s : State,
    let next := if 255 ≤ s.printer.nextNumber then 1 else s.printer.nextNumber + 1
    (∀ (n : TicketNo) (c : Byte), s.takes 4 → n.home ≤ 255 → n.serial ≤ 65535 →
      let cmd := Instr.reprint (ticketBytes n ++ [c])
      let refused (code : Byte) : Prop := exec cmd s = .next ((s.accepted 4).answered [code])
      let kind : ReceiptKind := if c = 1 then .weighSlip else if c = 2 then .ticket else if c = 3 then .voucher else .voidSlip
      let was := s.printer.reprints.find? (fun e => decide (e.ticket = n ∧ e.kind = kind))
      let rest := s.printer.reprints.filter (fun e => !decide (e.ticket = n ∧ e.kind = kind))
      let copy := min 255 ((was.map Reprint.copies).getD 0 + 1)
      let made (lines : List Text) : Prop :=
        (8 ≤ s.printer.jobs.length → refused 20) ∧
        (s.printer.jobs.length < 8 → exec cmd s = .next (State.answered [1, byte s.printer.nextNumber, byte copy]
          { s.accepted 4 with printer := { s.printer with
              load := none
              jobs := s.printer.jobs ++
                [{ number := s.printer.nextNumber, kind := kind, ticket := some n, copy := copy, restarts := 0,
                   state := .queued, lines := lines, sent := 0, awaitsBusy := false }]
              nextJob := next
              reprints := rest.drop (if was = none ∧ 8 ≤ s.printer.reprints.length then 1 else 0)
                ++ [{ ticket := n, kind := kind, copies := copy }] } }))
      ((n.home = 0 ∨ 15 < n.home ∨ n.serial = 0 ∨ c = 0 ∨ 4 < c.toNat) → refused 5) ∧
      (1 ≤ n.home → n.home ≤ 15 → 1 ≤ n.serial →
        ((c = 1 ∨ c = 2) → (s.closedEntry n).isSome = true → refused 9) ∧
        ((c = 1 ∨ c = 2) → s.closedEntry n = none → s.findRecord n = none → refused 7) ∧
        (∀ r, s.closedEntry n = none → s.findRecord n = some r →
          (c = 1 → made (weighSlipLines copy r s)) ∧
          (c = 2 → r.life = .opened → refused 4) ∧
          (c = 2 → r.life = .complete → made (ticketLines copy r s))) ∧
        ((c = 3 ∨ c = 4) → s.closedEntry n = none → refused 7) ∧
        (∀ e, s.closedEntry n = some e →
          ((c = 3 ∨ c = 4) → e.closure = .elsewhere → refused 4) ∧
          (∀ cash transfer station seller, e.closure = .settled .paid cash transfer station seller →
            (c = 3 → made (voucherCopyLines copy n cash transfer station s)) ∧ (c = 4 → refused 4)) ∧
          (∀ cash transfer station seller, e.closure = .settled .voided cash transfer station seller →
            (c = 3 → refused 4) ∧ (c = 4 → made (voidCopyLines copy n station s)))))) ∧
    (∀ text : Text, s.takes (text.length + 1) → 1 ≤ text.length → text.length ≤ 40 → (∀ c ∈ text, 32 ≤ c ∧ c ≤ 126) →
      (8 ≤ s.printer.jobs.length →
        exec (.printText (textBytes text)) s = .next ((s.accepted (text.length + 1)).answered [20])) ∧
      (s.printer.jobs.length < 8 → exec (.printText (textBytes text)) s =
        .next (State.answered [1, byte s.printer.nextNumber] { s.accepted (text.length + 1) with
          printer := { s.printer with
            load := none
            jobs := s.printer.jobs ++
              [{ number := s.printer.nextNumber, kind := .text, ticket := none, copy := 0, restarts := 0,
                 state := .queued, lines := openingLines 0 s ++ [text], sent := 0, awaitsBusy := false }]
            nextJob := next } }))) ∧
    (∀ (n : Byte), s.takes 1 →
      let removed : Printer := { s.printer with
        load := none, jobs := s.printer.jobs.filter (fun i => decide (i.number ≠ n.toNat)) }
      let cancelled (p : Printer) : Prop :=
        exec (.cancelJob [n]) s = .next (State.answered [1] { s.accepted 1 with printer := p })
      ((∀ j ∈ s.printer.jobs, j.number ≠ n.toNat) →
        exec (.cancelJob [n]) s = .next ((s.accepted 1).answered [5])) ∧
      (∀ j, s.printer.jobs.find? (fun j => decide (j.number = n.toNat)) = some j →
        (j.state = .waiting → exec (.cancelJob [n]) s = .next ((s.accepted 1).answered [4])) ∧
        (j.state = .queued → cancelled removed) ∧
        (j.state = .printing → cancelled { removed with stream := [12], leadLine := false }) ∧
        (j.state = .suspended → cancelled { removed with
          port := if s.printer.port = .stopped then .ready else s.printer.port })))

/-- PRINTER LOAN and RECLAIM move the port between READY, STOPPED, PRINTING, LOAN PENDING and LOANED; HEADER BEGIN and HEADER
CONTINUE stage the header lines and set them in one when the last is given. A RECLAIM that finds FAULT active or the port
stalled latches PRINTER FAULT. The model's choices it rests on: log entries 9, 10, 33 and 36. -/
def Obligations.LoanReclaimAndHeader : Prop :=
  ∀ s : State,
    (s.takes 0 →
      (s.printer.port = .ready ∨ s.printer.port = .stopped → exec (.printerLoan []) s = .next (State.answered [1]
        { s.accepted 0 with printer := { s.printer with load := none, port := .loaned, dataLines := none } })) ∧
      (s.printer.port = .printing → exec (.printerLoan []) s = .next (State.answered [1]
        { s.accepted 0 with printer := { s.printer with load := none, port := .loanPending } })) ∧
      (s.printer.port = .loanPending ∨ s.printer.port = .loaned →
        exec (.printerLoan []) s = .next ((s.accepted 0).answered [4])) ∧
      (s.printer.port = .loaned → s.printer.fault = false → s.printer.stalled = false →
        exec (.reclaim []) s = .next (State.answered [1] { s.accepted 0 with printer := { s.printer with
          load := none
          port := if s.printer.jobs.any (fun j => decide (j.state = .suspended)) = true then .stopped else .ready
          dataLines := some 0 } })) ∧
      (s.printer.port = .loaned → (s.printer.fault = true ∨ s.printer.stalled = true) →
        ∃ t : State, exec (.reclaim []) s = .next (State.answered [1] t) ∧
          t = { s.accepted 0 with
            printer := { s.printer with
              load := none
              port := if s.printer.jobs.any (fun j => decide (j.state = .suspended)) = true then .stopped else .ready
              dataLines := some 0 }
            flags := t.flags
            notices := t.notices } ∧ t.latched .printerFault = true ∧
          (s.latched .printerFault = true → t.flags = s.flags ∧ t.notices = s.notices) ∧
          (s.latched .printerFault = false → s.notices.queue.length < 16 → t.notices = { s.notices with
            queue := s.notices.queue ++ [(s.notices.seq, .flag .printerFault
              (.printer (if s.printer.fault = true then .fault else .stall)))]
            seq := (s.notices.seq + 1) % 256 })) ∧
      (s.printer.port = .loanPending → exec (.reclaim []) s = .next (State.answered [1]
        { s.accepted 0 with printer := { s.printer with load := none, port := .printing } })) ∧
      (s.printer.port = .ready ∨ s.printer.port = .printing ∨ s.printer.port = .stopped →
        exec (.reclaim []) s = .next ((s.accepted 0).answered [4]))) ∧
    (s.takes 1 → s.day.isOpen = false → exec (.headerBegin [0]) s = .next (State.answered [1]
      { s.accepted 1 with printer := { s.printer with header := [], load := none } })) ∧
    (∀ text : Text, s.takes (text.length + 2) → s.day.isOpen = false → text.length ≤ 40 →
      (∀ c ∈ text, 32 ≤ c ∧ c ≤ 126) → exec (.headerBegin ([1] ++ textBytes text)) s = .next (State.answered [1]
        { s.accepted (text.length + 2) with printer := { s.printer with header := [text], load := none } })) ∧
    (∀ (n : Nat) (text : Text), s.takes (text.length + 2) → s.day.isOpen = false → text.length ≤ 40 →
      (∀ c ∈ text, 32 ≤ c ∧ c ≤ 126) → 2 ≤ n → n ≤ 4 →
      exec (.headerBegin ([byte n] ++ textBytes text)) s = .next (State.answered [1, byte (n - 1)]
        { s.accepted (text.length + 2) with printer := { s.printer with
            load := some { staged := [text], expected := n - 1 } } })) ∧
    (∀ (h : HeaderLoad) (text : Text), s.takes (text.length + 1) → s.printer.load = some h → text.length ≤ 40 →
      (∀ c ∈ text, 32 ≤ c ∧ c ≤ 126) →
      (h.expected = 1 → exec (.headerContinue (textBytes text)) s = .next (State.answered [1, 0]
        { s.acceptedOpen (text.length + 1) with printer := { s.printer with
            header := h.staged ++ [text], load := none } })) ∧
      (1 < h.expected → exec (.headerContinue (textBytes text)) s = .next (State.answered [1, byte (h.expected - 1)]
        { s.acceptedOpen (text.length + 1) with printer := { s.printer with
            load := some { staged := h.staged ++ [text], expected := h.expected - 1 } } }))) ∧
    (∀ text : Text, s.takes (text.length + 1) → s.printer.load = none → text.length ≤ 40 →
      (∀ c ∈ text, 32 ≤ c ∧ c ≤ 126) →
      exec (.headerContinue (textBytes text)) s = .next ((s.acceptedOpen (text.length + 1)).answered [4]))

/-- The printer's lines: a code is handed with one strobe while BUSY is inactive; the end of receipt completes the job
with its PRINTED notice, and ends a cancelled job's cut without one, the port passing to READY, or from LOAN PENDING to LOANED
with its lines released; a stall and FAULT latch PRINTER FAULT, and they and PAPER OUT suspend a printing job, a stall or FAULT
making it wait for BUSY as well, and drop a cancelled job's cut. In LOANED nothing is handed, FAULT latches nothing, and PAPER
OUT posts nothing. A restored printer only waits for the flag. The model's choices it rests on: log entries 1, 2, 24, 33, 36 and
61. -/
def Obligations.PrinterPortLines : Prop :=
  ∀ s : State, s.powered = true →
    let posted (n : Notice) : Notices := { s.notices with
      queue := s.notices.queue ++ [(s.notices.seq, n)], seq := (s.notices.seq + 1) % 256 }
    -- the port leaves PRINTING for `idle`, or LOAN PENDING for LOANED
    let left (idle : PrinterState) (p : Printer) : Printer := { p with
      stream := [], leadLine := false
      port := if s.printer.port = .printing then idle else .loaned
      dataLines := if s.printer.port = .printing then p.dataLines else none }
    let onPort : Prop := s.printer.port = .printing ∨ s.printer.port = .loanPending
    let printing : Option Job := s.printer.jobs.find? (fun j => decide (j.state = .printing))
    (∀ c rest, onPort → s.printer.busy = false → s.printer.stream = c :: rest →
      let handed : Printer := { s.printer with stream := rest, dataLines := some c, strobes := s.printer.strobes + 1 }
      (c ≠ 10 → c ≠ 12 → exec .handCode s = .next (settle { s with printer := handed })) ∧
      (c = 10 → s.printer.leadLine = false → exec .handCode s = .next (settle { s with printer := { handed with
        jobs := s.printer.jobs.map (fun j => if j.state = .printing then { j with sent := j.sent + 1 } else j) } })) ∧
      (c = 10 → s.printer.leadLine = true →
        exec .handCode s = .next (settle { s with printer := { handed with leadLine := false } })) ∧
      (∀ j, c = 12 → printing = some j → s.notices.queue.length < 16 →
        exec .handCode s = .next (settle { s with
          printer := left .ready { handed with jobs := s.printer.jobs.filter (fun i => decide (i.number ≠ j.number)) }
          notices := posted (.printed j.number j.kind j.ticket .complete) })) ∧
      (c = 12 → printing = none → exec .handCode s = .next (settle { s with printer := left .ready handed }))) ∧
    (s.printer.busy = true → exec .handCode s = .next (settle s)) ∧
    (¬ onPort → exec .handCode s = .next (settle s)) ∧
    exec .busyActive s = .next (settle { s with printer := { s.printer with busy := true } }) ∧
    exec .busyInactive s = .next (settle { s with printer := { s.printer with
      busy := false, stalled := false, stall := none } }) ∧
    exec .paperOutClear s = .next (settle { s with printer := { s.printer with paperOut := false } }) ∧
    exec .faultInactive s = .next (settle { s with printer := { s.printer with fault := false } }) ∧
    (s.printer.paperOut = false → ¬ onPort →
      exec .paperOutActive s = .next (settle { s with printer := { s.printer with paperOut := true } })) ∧
    (s.printer.port = .loaned → exec .faultActive s = .next (settle { s with printer := { s.printer with fault := true } })) ∧
    (s.printer.stall = none → exec .stallTimerExpiry s = .next s) ∧
    (s.latched .printerFault = false → s.notices.queue.length < 16 →
      let latchedBy (cause : PrinterCause) : Flags :=
        { s.flags with printerFault := { latched := true, count := 0, detail := .printer cause } }
      ((s.printer.port = .ready ∨ s.printer.port = .stopped) →
        exec .faultActive s = .next (settle { s with
          printer := { s.printer with fault := true }
          flags := latchedBy .fault
          notices := posted (.flag .printerFault (.printer .fault)) })) ∧
      (onPort → printing = none →
        exec .faultActive s = .next (settle { s with
          printer := left .ready { s.printer with fault := true }
          flags := latchedBy .fault
          notices := posted (.flag .printerFault (.printer .fault)) }) ∧
        (∀ ms, s.printer.stall = some ms → s.printer.fault = false →
          exec .stallTimerExpiry s = .next (settle { elapse ms s with
            printer := left .ready { s.printer with stalled := true, stall := none }
            flags := latchedBy .stall
            notices := posted (.flag .printerFault (.printer .stall)) }))) ∧
      (∀ j, onPort → printing = some j →
        let suspended (p : Printer) : Printer := left .stopped { p with
          jobs := p.jobs.map (fun i =>
            if i.number = j.number then { i with state := .suspended, awaitsBusy := true } else i) }
        exec .faultActive s = .next (settle { s with
          printer := suspended { s.printer with fault := true }
          flags := latchedBy .fault
          notices := posted (.flag .printerFault (.printer .fault)) }) ∧
        (∀ ms, s.printer.stall = some ms → s.printer.fault = false →
          exec .stallTimerExpiry s = .next (settle { elapse ms s with
            printer := suspended { s.printer with stalled := true, stall := none }
            flags := latchedBy .stall
            notices := posted (.flag .printerFault (.printer .stall)) })))) ∧
    (onPort → s.printer.paperOut = false →
      (printing = none → exec .paperOutActive s = .next (settle { s with
        printer := left .ready { s.printer with paperOut := true } })) ∧
      (∀ j, printing = some j → s.notices.queue.length < 16 →
        exec .paperOutActive s = .next (settle { s with
          printer := left .stopped { s.printer with
            paperOut := true
            jobs := s.printer.jobs.map (fun i =>
              if i.number = j.number then { i with state := .suspended, awaitsBusy := false } else i) }
          notices := posted (.printed j.number j.kind j.ticket .paperOut) })))

/-! ### Headline statements -/

/-- Every frame whose values lie in their ranges is read back from its payload bytes as it was. The model's choices it rests on:
log entries 13, 32 and 49. -/
def Obligations.EveryFrameIsReadBack : Prop :=
  ∀ f : Frame, f.inRange = true → readFrame f.kind f.payload = some f

/-- Every step keeps the bounds of the notice queue and of the closed list, which names no ticket twice. -/
def Obligations.StepKeepsNoticesAndClosedList : Prop :=
  ∀ s t : State, s.noticesOk → s.closedOk → step s = .next t → t.noticesOk ∧ t.closedOk

/-- Every step keeps the transmit queue, with the closing places, within its 24 places, and never leaves an empty
item. -/
def Obligations.StepKeepsTheTransmitQueue : Prop :=
  ∀ s t : State, s.queueOk → step s = .next t → t.queueOk

/-- Every step keeps the ticket store: with the places a NEW TICKET reserves, at most 48 records and 1,024 register
entries; at most 32 closed tickets; a next serial of 1 to 65,535; no ticket with two records, none with a record and a closed list entry; every
record's lines as R6 states. With these go what the weigh slot and the bursts being collected hold toward them. The
model's choices it rests on: log entries 20, 44 and 51. -/
def Obligations.StepKeepsTheTicketStore : Prop :=
  ∀ s t : State, s.ticketsOk → step s = .next t → t.ticketsOk

/-- The state after reset has the invariants. The model's choices it rests on: log entry 3. -/
def Obligations.ResetHasTheInvariants : Prop :=
  State.reset.noticesOk ∧ State.reset.closedOk ∧ State.reset.queueOk ∧ State.reset.ticketsOk
end

