-- ==== Sys2Proof/Laws/State.lean ====
section
/-! SUPPORT. One lemma for each field under each setter of State, true by rfl: no proof unfolds a record update. -/

namespace Sys2Proof.Machine

@[simp] theorem State.onDay_powered (f : YardDay → YardDay) (s : State) : (s.onDay f).powered = s.powered := rfl
@[simp] theorem State.onDay_identity (f : YardDay → YardDay) (s : State) : (s.onDay f).identity = s.identity := rfl
@[simp] theorem State.onDay_day (f : YardDay → YardDay) (s : State) : (s.onDay f).day = f s.day := rfl
@[simp] theorem State.onDay_settings (f : YardDay → YardDay) (s : State) : (s.onDay f).settings = s.settings := rfl
@[simp] theorem State.onDay_tickets (f : YardDay → YardDay) (s : State) : (s.onDay f).tickets = s.tickets := rfl
@[simp] theorem State.onDay_scale (f : YardDay → YardDay) (s : State) : (s.onDay f).scale = s.scale := rfl
@[simp] theorem State.onDay_weigh (f : YardDay → YardDay) (s : State) : (s.onDay f).weigh = s.weigh := rfl
@[simp] theorem State.onDay_pricing (f : YardDay → YardDay) (s : State) : (s.onDay f).pricing = s.pricing := rfl
@[simp] theorem State.onDay_link (f : YardDay → YardDay) (s : State) : (s.onDay f).link = s.link := rfl
@[simp] theorem State.onDay_weighTimer (f : YardDay → YardDay) (s : State) : (s.onDay f).weighTimer = s.weighTimer := rfl
@[simp] theorem State.onDay_payTimer (f : YardDay → YardDay) (s : State) : (s.onDay f).payTimer = s.payTimer := rfl
@[simp] theorem State.onDay_payOp (f : YardDay → YardDay) (s : State) : (s.onDay f).payOp = s.payOp := rfl
@[simp] theorem State.onDay_drawer (f : YardDay → YardDay) (s : State) : (s.onDay f).drawer = s.drawer := rfl
@[simp] theorem State.onDay_printer (f : YardDay → YardDay) (s : State) : (s.onDay f).printer = s.printer := rfl
@[simp] theorem State.onDay_flags (f : YardDay → YardDay) (s : State) : (s.onDay f).flags = s.flags := rfl
@[simp] theorem State.onDay_notices (f : YardDay → YardDay) (s : State) : (s.onDay f).notices = s.notices := rfl
@[simp] theorem State.onDay_port (f : YardDay → YardDay) (s : State) : (s.onDay f).port = s.port := rfl
@[simp] theorem State.onDay_pending (f : YardDay → YardDay) (s : State) : (s.onDay f).pending = s.pending := rfl
@[simp] theorem State.onDay_dataIn (f : YardDay → YardDay) (s : State) : (s.onDay f).dataIn = s.dataIn := rfl
@[simp] theorem State.onDay_myId (f : YardDay → YardDay) (s : State) : (s.onDay f).myId = s.myId := rfl
@[simp] theorem State.onDay_role (f : YardDay → YardDay) (s : State) : (s.onDay f).role = s.role := rfl
@[simp] theorem State.onDay_waitId (f : YardDay → YardDay) (s : State) : (s.onDay f).waitId = s.waitId := rfl
@[simp] theorem State.onDay_hasWeigh (f : YardDay → YardDay) (s : State) : (s.onDay f).hasWeigh = s.hasWeigh := rfl
@[simp] theorem State.onDay_hasPay (f : YardDay → YardDay) (s : State) : (s.onDay f).hasPay = s.hasPay := rfl

@[simp] theorem State.onTickets_powered (f : Tickets → Tickets) (s : State) : (s.onTickets f).powered = s.powered := rfl
@[simp] theorem State.onTickets_identity (f : Tickets → Tickets) (s : State) : (s.onTickets f).identity = s.identity := rfl
@[simp] theorem State.onTickets_day (f : Tickets → Tickets) (s : State) : (s.onTickets f).day = s.day := rfl
@[simp] theorem State.onTickets_settings (f : Tickets → Tickets) (s : State) : (s.onTickets f).settings = s.settings := rfl
@[simp] theorem State.onTickets_tickets (f : Tickets → Tickets) (s : State) : (s.onTickets f).tickets = f s.tickets := rfl
@[simp] theorem State.onTickets_scale (f : Tickets → Tickets) (s : State) : (s.onTickets f).scale = s.scale := rfl
@[simp] theorem State.onTickets_weigh (f : Tickets → Tickets) (s : State) : (s.onTickets f).weigh = s.weigh := rfl
@[simp] theorem State.onTickets_pricing (f : Tickets → Tickets) (s : State) : (s.onTickets f).pricing = s.pricing := rfl
@[simp] theorem State.onTickets_link (f : Tickets → Tickets) (s : State) : (s.onTickets f).link = s.link := rfl
@[simp] theorem State.onTickets_weighTimer (f : Tickets → Tickets) (s : State) : (s.onTickets f).weighTimer = s.weighTimer := rfl
@[simp] theorem State.onTickets_payTimer (f : Tickets → Tickets) (s : State) : (s.onTickets f).payTimer = s.payTimer := rfl
@[simp] theorem State.onTickets_payOp (f : Tickets → Tickets) (s : State) : (s.onTickets f).payOp = s.payOp := rfl
@[simp] theorem State.onTickets_drawer (f : Tickets → Tickets) (s : State) : (s.onTickets f).drawer = s.drawer := rfl
@[simp] theorem State.onTickets_printer (f : Tickets → Tickets) (s : State) : (s.onTickets f).printer = s.printer := rfl
@[simp] theorem State.onTickets_flags (f : Tickets → Tickets) (s : State) : (s.onTickets f).flags = s.flags := rfl
@[simp] theorem State.onTickets_notices (f : Tickets → Tickets) (s : State) : (s.onTickets f).notices = s.notices := rfl
@[simp] theorem State.onTickets_port (f : Tickets → Tickets) (s : State) : (s.onTickets f).port = s.port := rfl
@[simp] theorem State.onTickets_pending (f : Tickets → Tickets) (s : State) : (s.onTickets f).pending = s.pending := rfl
@[simp] theorem State.onTickets_dataIn (f : Tickets → Tickets) (s : State) : (s.onTickets f).dataIn = s.dataIn := rfl
@[simp] theorem State.onTickets_myId (f : Tickets → Tickets) (s : State) : (s.onTickets f).myId = s.myId := rfl
@[simp] theorem State.onTickets_role (f : Tickets → Tickets) (s : State) : (s.onTickets f).role = s.role := rfl
@[simp] theorem State.onTickets_waitId (f : Tickets → Tickets) (s : State) : (s.onTickets f).waitId = s.waitId := rfl
@[simp] theorem State.onTickets_hasWeigh (f : Tickets → Tickets) (s : State) : (s.onTickets f).hasWeigh = s.hasWeigh := rfl
@[simp] theorem State.onTickets_hasPay (f : Tickets → Tickets) (s : State) : (s.onTickets f).hasPay = s.hasPay := rfl

@[simp] theorem State.onScale_powered (f : ScaleUnit → ScaleUnit) (s : State) : (s.onScale f).powered = s.powered := rfl
@[simp] theorem State.onScale_identity (f : ScaleUnit → ScaleUnit) (s : State) : (s.onScale f).identity = s.identity := rfl
@[simp] theorem State.onScale_day (f : ScaleUnit → ScaleUnit) (s : State) : (s.onScale f).day = s.day := rfl
@[simp] theorem State.onScale_settings (f : ScaleUnit → ScaleUnit) (s : State) : (s.onScale f).settings = s.settings := rfl
@[simp] theorem State.onScale_tickets (f : ScaleUnit → ScaleUnit) (s : State) : (s.onScale f).tickets = s.tickets := rfl
@[simp] theorem State.onScale_scale (f : ScaleUnit → ScaleUnit) (s : State) : (s.onScale f).scale = f s.scale := rfl
@[simp] theorem State.onScale_weigh (f : ScaleUnit → ScaleUnit) (s : State) : (s.onScale f).weigh = s.weigh := rfl
@[simp] theorem State.onScale_pricing (f : ScaleUnit → ScaleUnit) (s : State) : (s.onScale f).pricing = s.pricing := rfl
@[simp] theorem State.onScale_link (f : ScaleUnit → ScaleUnit) (s : State) : (s.onScale f).link = s.link := rfl
@[simp] theorem State.onScale_weighTimer (f : ScaleUnit → ScaleUnit) (s : State) : (s.onScale f).weighTimer = s.weighTimer := rfl
@[simp] theorem State.onScale_payTimer (f : ScaleUnit → ScaleUnit) (s : State) : (s.onScale f).payTimer = s.payTimer := rfl
@[simp] theorem State.onScale_payOp (f : ScaleUnit → ScaleUnit) (s : State) : (s.onScale f).payOp = s.payOp := rfl
@[simp] theorem State.onScale_drawer (f : ScaleUnit → ScaleUnit) (s : State) : (s.onScale f).drawer = s.drawer := rfl
@[simp] theorem State.onScale_printer (f : ScaleUnit → ScaleUnit) (s : State) : (s.onScale f).printer = s.printer := rfl
@[simp] theorem State.onScale_flags (f : ScaleUnit → ScaleUnit) (s : State) : (s.onScale f).flags = s.flags := rfl
@[simp] theorem State.onScale_notices (f : ScaleUnit → ScaleUnit) (s : State) : (s.onScale f).notices = s.notices := rfl
@[simp] theorem State.onScale_port (f : ScaleUnit → ScaleUnit) (s : State) : (s.onScale f).port = s.port := rfl
@[simp] theorem State.onScale_pending (f : ScaleUnit → ScaleUnit) (s : State) : (s.onScale f).pending = s.pending := rfl
@[simp] theorem State.onScale_dataIn (f : ScaleUnit → ScaleUnit) (s : State) : (s.onScale f).dataIn = s.dataIn := rfl
@[simp] theorem State.onScale_myId (f : ScaleUnit → ScaleUnit) (s : State) : (s.onScale f).myId = s.myId := rfl
@[simp] theorem State.onScale_role (f : ScaleUnit → ScaleUnit) (s : State) : (s.onScale f).role = s.role := rfl
@[simp] theorem State.onScale_waitId (f : ScaleUnit → ScaleUnit) (s : State) : (s.onScale f).waitId = s.waitId := rfl
@[simp] theorem State.onScale_hasWeigh (f : ScaleUnit → ScaleUnit) (s : State) : (s.onScale f).hasWeigh = s.hasWeigh := rfl
@[simp] theorem State.onScale_hasPay (f : ScaleUnit → ScaleUnit) (s : State) : (s.onScale f).hasPay = s.hasPay := rfl

@[simp] theorem State.onWeigh_powered (f : Option WeighOp → Option WeighOp) (s : State) : (s.onWeigh f).powered = s.powered := rfl
@[simp] theorem State.onWeigh_identity (f : Option WeighOp → Option WeighOp) (s : State) : (s.onWeigh f).identity = s.identity := rfl
@[simp] theorem State.onWeigh_day (f : Option WeighOp → Option WeighOp) (s : State) : (s.onWeigh f).day = s.day := rfl
@[simp] theorem State.onWeigh_settings (f : Option WeighOp → Option WeighOp) (s : State) : (s.onWeigh f).settings = s.settings := rfl
@[simp] theorem State.onWeigh_tickets (f : Option WeighOp → Option WeighOp) (s : State) : (s.onWeigh f).tickets = s.tickets := rfl
@[simp] theorem State.onWeigh_scale (f : Option WeighOp → Option WeighOp) (s : State) : (s.onWeigh f).scale = s.scale := rfl
@[simp] theorem State.onWeigh_weigh (f : Option WeighOp → Option WeighOp) (s : State) : (s.onWeigh f).weigh = f s.weigh := rfl
@[simp] theorem State.onWeigh_pricing (f : Option WeighOp → Option WeighOp) (s : State) : (s.onWeigh f).pricing = s.pricing := rfl
@[simp] theorem State.onWeigh_link (f : Option WeighOp → Option WeighOp) (s : State) : (s.onWeigh f).link = s.link := rfl
@[simp] theorem State.onWeigh_weighTimer (f : Option WeighOp → Option WeighOp) (s : State) : (s.onWeigh f).weighTimer = s.weighTimer := rfl
@[simp] theorem State.onWeigh_payTimer (f : Option WeighOp → Option WeighOp) (s : State) : (s.onWeigh f).payTimer = s.payTimer := rfl
@[simp] theorem State.onWeigh_payOp (f : Option WeighOp → Option WeighOp) (s : State) : (s.onWeigh f).payOp = s.payOp := rfl
@[simp] theorem State.onWeigh_drawer (f : Option WeighOp → Option WeighOp) (s : State) : (s.onWeigh f).drawer = s.drawer := rfl
@[simp] theorem State.onWeigh_printer (f : Option WeighOp → Option WeighOp) (s : State) : (s.onWeigh f).printer = s.printer := rfl
@[simp] theorem State.onWeigh_flags (f : Option WeighOp → Option WeighOp) (s : State) : (s.onWeigh f).flags = s.flags := rfl
@[simp] theorem State.onWeigh_notices (f : Option WeighOp → Option WeighOp) (s : State) : (s.onWeigh f).notices = s.notices := rfl
@[simp] theorem State.onWeigh_port (f : Option WeighOp → Option WeighOp) (s : State) : (s.onWeigh f).port = s.port := rfl
@[simp] theorem State.onWeigh_pending (f : Option WeighOp → Option WeighOp) (s : State) : (s.onWeigh f).pending = s.pending := rfl
@[simp] theorem State.onWeigh_dataIn (f : Option WeighOp → Option WeighOp) (s : State) : (s.onWeigh f).dataIn = s.dataIn := rfl
@[simp] theorem State.onWeigh_myId (f : Option WeighOp → Option WeighOp) (s : State) : (s.onWeigh f).myId = s.myId := rfl
@[simp] theorem State.onWeigh_role (f : Option WeighOp → Option WeighOp) (s : State) : (s.onWeigh f).role = s.role := rfl
@[simp] theorem State.onWeigh_waitId (f : Option WeighOp → Option WeighOp) (s : State) : (s.onWeigh f).waitId = s.waitId := rfl
@[simp] theorem State.onWeigh_hasWeigh (f : Option WeighOp → Option WeighOp) (s : State) : (s.onWeigh f).hasWeigh = s.hasWeigh := rfl
@[simp] theorem State.onWeigh_hasPay (f : Option WeighOp → Option WeighOp) (s : State) : (s.onWeigh f).hasPay = s.hasPay := rfl

@[simp] theorem State.onPricing_powered (f : Pricing → Pricing) (s : State) : (s.onPricing f).powered = s.powered := rfl
@[simp] theorem State.onPricing_identity (f : Pricing → Pricing) (s : State) : (s.onPricing f).identity = s.identity := rfl
@[simp] theorem State.onPricing_day (f : Pricing → Pricing) (s : State) : (s.onPricing f).day = s.day := rfl
@[simp] theorem State.onPricing_settings (f : Pricing → Pricing) (s : State) : (s.onPricing f).settings = s.settings := rfl
@[simp] theorem State.onPricing_tickets (f : Pricing → Pricing) (s : State) : (s.onPricing f).tickets = s.tickets := rfl
@[simp] theorem State.onPricing_scale (f : Pricing → Pricing) (s : State) : (s.onPricing f).scale = s.scale := rfl
@[simp] theorem State.onPricing_weigh (f : Pricing → Pricing) (s : State) : (s.onPricing f).weigh = s.weigh := rfl
@[simp] theorem State.onPricing_pricing (f : Pricing → Pricing) (s : State) : (s.onPricing f).pricing = f s.pricing := rfl
@[simp] theorem State.onPricing_link (f : Pricing → Pricing) (s : State) : (s.onPricing f).link = s.link := rfl
@[simp] theorem State.onPricing_weighTimer (f : Pricing → Pricing) (s : State) : (s.onPricing f).weighTimer = s.weighTimer := rfl
@[simp] theorem State.onPricing_payTimer (f : Pricing → Pricing) (s : State) : (s.onPricing f).payTimer = s.payTimer := rfl
@[simp] theorem State.onPricing_payOp (f : Pricing → Pricing) (s : State) : (s.onPricing f).payOp = s.payOp := rfl
@[simp] theorem State.onPricing_drawer (f : Pricing → Pricing) (s : State) : (s.onPricing f).drawer = s.drawer := rfl
@[simp] theorem State.onPricing_printer (f : Pricing → Pricing) (s : State) : (s.onPricing f).printer = s.printer := rfl
@[simp] theorem State.onPricing_flags (f : Pricing → Pricing) (s : State) : (s.onPricing f).flags = s.flags := rfl
@[simp] theorem State.onPricing_notices (f : Pricing → Pricing) (s : State) : (s.onPricing f).notices = s.notices := rfl
@[simp] theorem State.onPricing_port (f : Pricing → Pricing) (s : State) : (s.onPricing f).port = s.port := rfl
@[simp] theorem State.onPricing_pending (f : Pricing → Pricing) (s : State) : (s.onPricing f).pending = s.pending := rfl
@[simp] theorem State.onPricing_dataIn (f : Pricing → Pricing) (s : State) : (s.onPricing f).dataIn = s.dataIn := rfl
@[simp] theorem State.onPricing_myId (f : Pricing → Pricing) (s : State) : (s.onPricing f).myId = s.myId := rfl
@[simp] theorem State.onPricing_role (f : Pricing → Pricing) (s : State) : (s.onPricing f).role = s.role := rfl
@[simp] theorem State.onPricing_waitId (f : Pricing → Pricing) (s : State) : (s.onPricing f).waitId = s.waitId := rfl
@[simp] theorem State.onPricing_hasWeigh (f : Pricing → Pricing) (s : State) : (s.onPricing f).hasWeigh = s.hasWeigh := rfl
@[simp] theorem State.onPricing_hasPay (f : Pricing → Pricing) (s : State) : (s.onPricing f).hasPay = s.hasPay := rfl

@[simp] theorem State.onLink_powered (f : Link → Link) (s : State) : (s.onLink f).powered = s.powered := rfl
@[simp] theorem State.onLink_identity (f : Link → Link) (s : State) : (s.onLink f).identity = s.identity := rfl
@[simp] theorem State.onLink_day (f : Link → Link) (s : State) : (s.onLink f).day = s.day := rfl
@[simp] theorem State.onLink_settings (f : Link → Link) (s : State) : (s.onLink f).settings = s.settings := rfl
@[simp] theorem State.onLink_tickets (f : Link → Link) (s : State) : (s.onLink f).tickets = s.tickets := rfl
@[simp] theorem State.onLink_scale (f : Link → Link) (s : State) : (s.onLink f).scale = s.scale := rfl
@[simp] theorem State.onLink_weigh (f : Link → Link) (s : State) : (s.onLink f).weigh = s.weigh := rfl
@[simp] theorem State.onLink_pricing (f : Link → Link) (s : State) : (s.onLink f).pricing = s.pricing := rfl
@[simp] theorem State.onLink_link (f : Link → Link) (s : State) : (s.onLink f).link = f s.link := rfl
@[simp] theorem State.onLink_weighTimer (f : Link → Link) (s : State) : (s.onLink f).weighTimer = s.weighTimer := rfl
@[simp] theorem State.onLink_payTimer (f : Link → Link) (s : State) : (s.onLink f).payTimer = s.payTimer := rfl
@[simp] theorem State.onLink_payOp (f : Link → Link) (s : State) : (s.onLink f).payOp = s.payOp := rfl
@[simp] theorem State.onLink_drawer (f : Link → Link) (s : State) : (s.onLink f).drawer = s.drawer := rfl
@[simp] theorem State.onLink_printer (f : Link → Link) (s : State) : (s.onLink f).printer = s.printer := rfl
@[simp] theorem State.onLink_flags (f : Link → Link) (s : State) : (s.onLink f).flags = s.flags := rfl
@[simp] theorem State.onLink_notices (f : Link → Link) (s : State) : (s.onLink f).notices = s.notices := rfl
@[simp] theorem State.onLink_port (f : Link → Link) (s : State) : (s.onLink f).port = s.port := rfl
@[simp] theorem State.onLink_pending (f : Link → Link) (s : State) : (s.onLink f).pending = s.pending := rfl
@[simp] theorem State.onLink_dataIn (f : Link → Link) (s : State) : (s.onLink f).dataIn = s.dataIn := rfl
@[simp] theorem State.onLink_myId (f : Link → Link) (s : State) : (s.onLink f).myId = s.myId := rfl
@[simp] theorem State.onLink_role (f : Link → Link) (s : State) : (s.onLink f).role = s.role := rfl
@[simp] theorem State.onLink_waitId (f : Link → Link) (s : State) : (s.onLink f).waitId = s.waitId := rfl
@[simp] theorem State.onLink_hasWeigh (f : Link → Link) (s : State) : (s.onLink f).hasWeigh = s.hasWeigh := rfl
@[simp] theorem State.onLink_hasPay (f : Link → Link) (s : State) : (s.onLink f).hasPay = s.hasPay := rfl

@[simp] theorem State.onPay_powered (f : Option PayOp → Option PayOp) (s : State) : (s.onPay f).powered = s.powered := rfl
@[simp] theorem State.onPay_identity (f : Option PayOp → Option PayOp) (s : State) : (s.onPay f).identity = s.identity := rfl
@[simp] theorem State.onPay_day (f : Option PayOp → Option PayOp) (s : State) : (s.onPay f).day = s.day := rfl
@[simp] theorem State.onPay_settings (f : Option PayOp → Option PayOp) (s : State) : (s.onPay f).settings = s.settings := rfl
@[simp] theorem State.onPay_tickets (f : Option PayOp → Option PayOp) (s : State) : (s.onPay f).tickets = s.tickets := rfl
@[simp] theorem State.onPay_scale (f : Option PayOp → Option PayOp) (s : State) : (s.onPay f).scale = s.scale := rfl
@[simp] theorem State.onPay_weigh (f : Option PayOp → Option PayOp) (s : State) : (s.onPay f).weigh = s.weigh := rfl
@[simp] theorem State.onPay_pricing (f : Option PayOp → Option PayOp) (s : State) : (s.onPay f).pricing = s.pricing := rfl
@[simp] theorem State.onPay_link (f : Option PayOp → Option PayOp) (s : State) : (s.onPay f).link = s.link := rfl
@[simp] theorem State.onPay_weighTimer (f : Option PayOp → Option PayOp) (s : State) : (s.onPay f).weighTimer = s.weighTimer := rfl
@[simp] theorem State.onPay_payTimer (f : Option PayOp → Option PayOp) (s : State) : (s.onPay f).payTimer = s.payTimer := rfl
@[simp] theorem State.onPay_payOp (f : Option PayOp → Option PayOp) (s : State) : (s.onPay f).payOp = f s.payOp := rfl
@[simp] theorem State.onPay_drawer (f : Option PayOp → Option PayOp) (s : State) : (s.onPay f).drawer = s.drawer := rfl
@[simp] theorem State.onPay_printer (f : Option PayOp → Option PayOp) (s : State) : (s.onPay f).printer = s.printer := rfl
@[simp] theorem State.onPay_flags (f : Option PayOp → Option PayOp) (s : State) : (s.onPay f).flags = s.flags := rfl
@[simp] theorem State.onPay_notices (f : Option PayOp → Option PayOp) (s : State) : (s.onPay f).notices = s.notices := rfl
@[simp] theorem State.onPay_port (f : Option PayOp → Option PayOp) (s : State) : (s.onPay f).port = s.port := rfl
@[simp] theorem State.onPay_pending (f : Option PayOp → Option PayOp) (s : State) : (s.onPay f).pending = s.pending := rfl
@[simp] theorem State.onPay_dataIn (f : Option PayOp → Option PayOp) (s : State) : (s.onPay f).dataIn = s.dataIn := rfl
@[simp] theorem State.onPay_myId (f : Option PayOp → Option PayOp) (s : State) : (s.onPay f).myId = s.myId := rfl
@[simp] theorem State.onPay_role (f : Option PayOp → Option PayOp) (s : State) : (s.onPay f).role = s.role := rfl
@[simp] theorem State.onPay_waitId (f : Option PayOp → Option PayOp) (s : State) : (s.onPay f).waitId = s.waitId := rfl
@[simp] theorem State.onPay_hasWeigh (f : Option PayOp → Option PayOp) (s : State) : (s.onPay f).hasWeigh = s.hasWeigh := rfl
@[simp] theorem State.onPay_hasPay (f : Option PayOp → Option PayOp) (s : State) : (s.onPay f).hasPay = s.hasPay := rfl

@[simp] theorem State.onDrawer_powered (f : Drawer → Drawer) (s : State) : (s.onDrawer f).powered = s.powered := rfl
@[simp] theorem State.onDrawer_identity (f : Drawer → Drawer) (s : State) : (s.onDrawer f).identity = s.identity := rfl
@[simp] theorem State.onDrawer_day (f : Drawer → Drawer) (s : State) : (s.onDrawer f).day = s.day := rfl
@[simp] theorem State.onDrawer_settings (f : Drawer → Drawer) (s : State) : (s.onDrawer f).settings = s.settings := rfl
@[simp] theorem State.onDrawer_tickets (f : Drawer → Drawer) (s : State) : (s.onDrawer f).tickets = s.tickets := rfl
@[simp] theorem State.onDrawer_scale (f : Drawer → Drawer) (s : State) : (s.onDrawer f).scale = s.scale := rfl
@[simp] theorem State.onDrawer_weigh (f : Drawer → Drawer) (s : State) : (s.onDrawer f).weigh = s.weigh := rfl
@[simp] theorem State.onDrawer_pricing (f : Drawer → Drawer) (s : State) : (s.onDrawer f).pricing = s.pricing := rfl
@[simp] theorem State.onDrawer_link (f : Drawer → Drawer) (s : State) : (s.onDrawer f).link = s.link := rfl
@[simp] theorem State.onDrawer_weighTimer (f : Drawer → Drawer) (s : State) : (s.onDrawer f).weighTimer = s.weighTimer := rfl
@[simp] theorem State.onDrawer_payTimer (f : Drawer → Drawer) (s : State) : (s.onDrawer f).payTimer = s.payTimer := rfl
@[simp] theorem State.onDrawer_payOp (f : Drawer → Drawer) (s : State) : (s.onDrawer f).payOp = s.payOp := rfl
@[simp] theorem State.onDrawer_drawer (f : Drawer → Drawer) (s : State) : (s.onDrawer f).drawer = f s.drawer := rfl
@[simp] theorem State.onDrawer_printer (f : Drawer → Drawer) (s : State) : (s.onDrawer f).printer = s.printer := rfl
@[simp] theorem State.onDrawer_flags (f : Drawer → Drawer) (s : State) : (s.onDrawer f).flags = s.flags := rfl
@[simp] theorem State.onDrawer_notices (f : Drawer → Drawer) (s : State) : (s.onDrawer f).notices = s.notices := rfl
@[simp] theorem State.onDrawer_port (f : Drawer → Drawer) (s : State) : (s.onDrawer f).port = s.port := rfl
@[simp] theorem State.onDrawer_pending (f : Drawer → Drawer) (s : State) : (s.onDrawer f).pending = s.pending := rfl
@[simp] theorem State.onDrawer_dataIn (f : Drawer → Drawer) (s : State) : (s.onDrawer f).dataIn = s.dataIn := rfl
@[simp] theorem State.onDrawer_myId (f : Drawer → Drawer) (s : State) : (s.onDrawer f).myId = s.myId := rfl
@[simp] theorem State.onDrawer_role (f : Drawer → Drawer) (s : State) : (s.onDrawer f).role = s.role := rfl
@[simp] theorem State.onDrawer_waitId (f : Drawer → Drawer) (s : State) : (s.onDrawer f).waitId = s.waitId := rfl
@[simp] theorem State.onDrawer_hasWeigh (f : Drawer → Drawer) (s : State) : (s.onDrawer f).hasWeigh = s.hasWeigh := rfl
@[simp] theorem State.onDrawer_hasPay (f : Drawer → Drawer) (s : State) : (s.onDrawer f).hasPay = s.hasPay := rfl

@[simp] theorem State.onPrinter_powered (f : Printer → Printer) (s : State) : (s.onPrinter f).powered = s.powered := rfl
@[simp] theorem State.onPrinter_identity (f : Printer → Printer) (s : State) : (s.onPrinter f).identity = s.identity := rfl
@[simp] theorem State.onPrinter_day (f : Printer → Printer) (s : State) : (s.onPrinter f).day = s.day := rfl
@[simp] theorem State.onPrinter_settings (f : Printer → Printer) (s : State) : (s.onPrinter f).settings = s.settings := rfl
@[simp] theorem State.onPrinter_tickets (f : Printer → Printer) (s : State) : (s.onPrinter f).tickets = s.tickets := rfl
@[simp] theorem State.onPrinter_scale (f : Printer → Printer) (s : State) : (s.onPrinter f).scale = s.scale := rfl
@[simp] theorem State.onPrinter_weigh (f : Printer → Printer) (s : State) : (s.onPrinter f).weigh = s.weigh := rfl
@[simp] theorem State.onPrinter_pricing (f : Printer → Printer) (s : State) : (s.onPrinter f).pricing = s.pricing := rfl
@[simp] theorem State.onPrinter_link (f : Printer → Printer) (s : State) : (s.onPrinter f).link = s.link := rfl
@[simp] theorem State.onPrinter_weighTimer (f : Printer → Printer) (s : State) : (s.onPrinter f).weighTimer = s.weighTimer := rfl
@[simp] theorem State.onPrinter_payTimer (f : Printer → Printer) (s : State) : (s.onPrinter f).payTimer = s.payTimer := rfl
@[simp] theorem State.onPrinter_payOp (f : Printer → Printer) (s : State) : (s.onPrinter f).payOp = s.payOp := rfl
@[simp] theorem State.onPrinter_drawer (f : Printer → Printer) (s : State) : (s.onPrinter f).drawer = s.drawer := rfl
@[simp] theorem State.onPrinter_printer (f : Printer → Printer) (s : State) : (s.onPrinter f).printer = f s.printer := rfl
@[simp] theorem State.onPrinter_flags (f : Printer → Printer) (s : State) : (s.onPrinter f).flags = s.flags := rfl
@[simp] theorem State.onPrinter_notices (f : Printer → Printer) (s : State) : (s.onPrinter f).notices = s.notices := rfl
@[simp] theorem State.onPrinter_port (f : Printer → Printer) (s : State) : (s.onPrinter f).port = s.port := rfl
@[simp] theorem State.onPrinter_pending (f : Printer → Printer) (s : State) : (s.onPrinter f).pending = s.pending := rfl
@[simp] theorem State.onPrinter_dataIn (f : Printer → Printer) (s : State) : (s.onPrinter f).dataIn = s.dataIn := rfl
@[simp] theorem State.onPrinter_myId (f : Printer → Printer) (s : State) : (s.onPrinter f).myId = s.myId := rfl
@[simp] theorem State.onPrinter_role (f : Printer → Printer) (s : State) : (s.onPrinter f).role = s.role := rfl
@[simp] theorem State.onPrinter_waitId (f : Printer → Printer) (s : State) : (s.onPrinter f).waitId = s.waitId := rfl
@[simp] theorem State.onPrinter_hasWeigh (f : Printer → Printer) (s : State) : (s.onPrinter f).hasWeigh = s.hasWeigh := rfl
@[simp] theorem State.onPrinter_hasPay (f : Printer → Printer) (s : State) : (s.onPrinter f).hasPay = s.hasPay := rfl

@[simp] theorem State.onFlags_powered (f : Flags → Flags) (s : State) : (s.onFlags f).powered = s.powered := rfl
@[simp] theorem State.onFlags_identity (f : Flags → Flags) (s : State) : (s.onFlags f).identity = s.identity := rfl
@[simp] theorem State.onFlags_day (f : Flags → Flags) (s : State) : (s.onFlags f).day = s.day := rfl
@[simp] theorem State.onFlags_settings (f : Flags → Flags) (s : State) : (s.onFlags f).settings = s.settings := rfl
@[simp] theorem State.onFlags_tickets (f : Flags → Flags) (s : State) : (s.onFlags f).tickets = s.tickets := rfl
@[simp] theorem State.onFlags_scale (f : Flags → Flags) (s : State) : (s.onFlags f).scale = s.scale := rfl
@[simp] theorem State.onFlags_weigh (f : Flags → Flags) (s : State) : (s.onFlags f).weigh = s.weigh := rfl
@[simp] theorem State.onFlags_pricing (f : Flags → Flags) (s : State) : (s.onFlags f).pricing = s.pricing := rfl
@[simp] theorem State.onFlags_link (f : Flags → Flags) (s : State) : (s.onFlags f).link = s.link := rfl
@[simp] theorem State.onFlags_weighTimer (f : Flags → Flags) (s : State) : (s.onFlags f).weighTimer = s.weighTimer := rfl
@[simp] theorem State.onFlags_payTimer (f : Flags → Flags) (s : State) : (s.onFlags f).payTimer = s.payTimer := rfl
@[simp] theorem State.onFlags_payOp (f : Flags → Flags) (s : State) : (s.onFlags f).payOp = s.payOp := rfl
@[simp] theorem State.onFlags_drawer (f : Flags → Flags) (s : State) : (s.onFlags f).drawer = s.drawer := rfl
@[simp] theorem State.onFlags_printer (f : Flags → Flags) (s : State) : (s.onFlags f).printer = s.printer := rfl
@[simp] theorem State.onFlags_flags (f : Flags → Flags) (s : State) : (s.onFlags f).flags = f s.flags := rfl
@[simp] theorem State.onFlags_notices (f : Flags → Flags) (s : State) : (s.onFlags f).notices = s.notices := rfl
@[simp] theorem State.onFlags_port (f : Flags → Flags) (s : State) : (s.onFlags f).port = s.port := rfl
@[simp] theorem State.onFlags_pending (f : Flags → Flags) (s : State) : (s.onFlags f).pending = s.pending := rfl
@[simp] theorem State.onFlags_dataIn (f : Flags → Flags) (s : State) : (s.onFlags f).dataIn = s.dataIn := rfl
@[simp] theorem State.onFlags_myId (f : Flags → Flags) (s : State) : (s.onFlags f).myId = s.myId := rfl
@[simp] theorem State.onFlags_role (f : Flags → Flags) (s : State) : (s.onFlags f).role = s.role := rfl
@[simp] theorem State.onFlags_waitId (f : Flags → Flags) (s : State) : (s.onFlags f).waitId = s.waitId := rfl
@[simp] theorem State.onFlags_hasWeigh (f : Flags → Flags) (s : State) : (s.onFlags f).hasWeigh = s.hasWeigh := rfl
@[simp] theorem State.onFlags_hasPay (f : Flags → Flags) (s : State) : (s.onFlags f).hasPay = s.hasPay := rfl

@[simp] theorem State.onNotices_powered (f : Notices → Notices) (s : State) : (s.onNotices f).powered = s.powered := rfl
@[simp] theorem State.onNotices_identity (f : Notices → Notices) (s : State) : (s.onNotices f).identity = s.identity := rfl
@[simp] theorem State.onNotices_day (f : Notices → Notices) (s : State) : (s.onNotices f).day = s.day := rfl
@[simp] theorem State.onNotices_settings (f : Notices → Notices) (s : State) : (s.onNotices f).settings = s.settings := rfl
@[simp] theorem State.onNotices_tickets (f : Notices → Notices) (s : State) : (s.onNotices f).tickets = s.tickets := rfl
@[simp] theorem State.onNotices_scale (f : Notices → Notices) (s : State) : (s.onNotices f).scale = s.scale := rfl
@[simp] theorem State.onNotices_weigh (f : Notices → Notices) (s : State) : (s.onNotices f).weigh = s.weigh := rfl
@[simp] theorem State.onNotices_pricing (f : Notices → Notices) (s : State) : (s.onNotices f).pricing = s.pricing := rfl
@[simp] theorem State.onNotices_link (f : Notices → Notices) (s : State) : (s.onNotices f).link = s.link := rfl
@[simp] theorem State.onNotices_weighTimer (f : Notices → Notices) (s : State) : (s.onNotices f).weighTimer = s.weighTimer := rfl
@[simp] theorem State.onNotices_payTimer (f : Notices → Notices) (s : State) : (s.onNotices f).payTimer = s.payTimer := rfl
@[simp] theorem State.onNotices_payOp (f : Notices → Notices) (s : State) : (s.onNotices f).payOp = s.payOp := rfl
@[simp] theorem State.onNotices_drawer (f : Notices → Notices) (s : State) : (s.onNotices f).drawer = s.drawer := rfl
@[simp] theorem State.onNotices_printer (f : Notices → Notices) (s : State) : (s.onNotices f).printer = s.printer := rfl
@[simp] theorem State.onNotices_flags (f : Notices → Notices) (s : State) : (s.onNotices f).flags = s.flags := rfl
@[simp] theorem State.onNotices_notices (f : Notices → Notices) (s : State) : (s.onNotices f).notices = f s.notices := rfl
@[simp] theorem State.onNotices_port (f : Notices → Notices) (s : State) : (s.onNotices f).port = s.port := rfl
@[simp] theorem State.onNotices_pending (f : Notices → Notices) (s : State) : (s.onNotices f).pending = s.pending := rfl
@[simp] theorem State.onNotices_dataIn (f : Notices → Notices) (s : State) : (s.onNotices f).dataIn = s.dataIn := rfl
@[simp] theorem State.onNotices_myId (f : Notices → Notices) (s : State) : (s.onNotices f).myId = s.myId := rfl
@[simp] theorem State.onNotices_role (f : Notices → Notices) (s : State) : (s.onNotices f).role = s.role := rfl
@[simp] theorem State.onNotices_waitId (f : Notices → Notices) (s : State) : (s.onNotices f).waitId = s.waitId := rfl
@[simp] theorem State.onNotices_hasWeigh (f : Notices → Notices) (s : State) : (s.onNotices f).hasWeigh = s.hasWeigh := rfl
@[simp] theorem State.onNotices_hasPay (f : Notices → Notices) (s : State) : (s.onNotices f).hasPay = s.hasPay := rfl

@[simp] theorem State.onPort_powered (f : Port → Port) (s : State) : (s.onPort f).powered = s.powered := rfl
@[simp] theorem State.onPort_identity (f : Port → Port) (s : State) : (s.onPort f).identity = s.identity := rfl
@[simp] theorem State.onPort_day (f : Port → Port) (s : State) : (s.onPort f).day = s.day := rfl
@[simp] theorem State.onPort_settings (f : Port → Port) (s : State) : (s.onPort f).settings = s.settings := rfl
@[simp] theorem State.onPort_tickets (f : Port → Port) (s : State) : (s.onPort f).tickets = s.tickets := rfl
@[simp] theorem State.onPort_scale (f : Port → Port) (s : State) : (s.onPort f).scale = s.scale := rfl
@[simp] theorem State.onPort_weigh (f : Port → Port) (s : State) : (s.onPort f).weigh = s.weigh := rfl
@[simp] theorem State.onPort_pricing (f : Port → Port) (s : State) : (s.onPort f).pricing = s.pricing := rfl
@[simp] theorem State.onPort_link (f : Port → Port) (s : State) : (s.onPort f).link = s.link := rfl
@[simp] theorem State.onPort_weighTimer (f : Port → Port) (s : State) : (s.onPort f).weighTimer = s.weighTimer := rfl
@[simp] theorem State.onPort_payTimer (f : Port → Port) (s : State) : (s.onPort f).payTimer = s.payTimer := rfl
@[simp] theorem State.onPort_payOp (f : Port → Port) (s : State) : (s.onPort f).payOp = s.payOp := rfl
@[simp] theorem State.onPort_drawer (f : Port → Port) (s : State) : (s.onPort f).drawer = s.drawer := rfl
@[simp] theorem State.onPort_printer (f : Port → Port) (s : State) : (s.onPort f).printer = s.printer := rfl
@[simp] theorem State.onPort_flags (f : Port → Port) (s : State) : (s.onPort f).flags = s.flags := rfl
@[simp] theorem State.onPort_notices (f : Port → Port) (s : State) : (s.onPort f).notices = s.notices := rfl
@[simp] theorem State.onPort_port (f : Port → Port) (s : State) : (s.onPort f).port = f s.port := rfl
@[simp] theorem State.onPort_pending (f : Port → Port) (s : State) : (s.onPort f).pending = s.pending := rfl
@[simp] theorem State.onPort_dataIn (f : Port → Port) (s : State) : (s.onPort f).dataIn = s.dataIn := rfl
@[simp] theorem State.onPort_myId (f : Port → Port) (s : State) : (s.onPort f).myId = s.myId := rfl
@[simp] theorem State.onPort_role (f : Port → Port) (s : State) : (s.onPort f).role = s.role := rfl
@[simp] theorem State.onPort_waitId (f : Port → Port) (s : State) : (s.onPort f).waitId = s.waitId := rfl
@[simp] theorem State.onPort_hasWeigh (f : Port → Port) (s : State) : (s.onPort f).hasWeigh = s.hasWeigh := rfl
@[simp] theorem State.onPort_hasPay (f : Port → Port) (s : State) : (s.onPort f).hasPay = s.hasPay := rfl

@[simp] theorem State.onTimer_powered (slot : SlotId) (f : ClaimTimer → ClaimTimer) (s : State) : (s.onTimer slot f).powered = s.powered := by cases slot <;> rfl
@[simp] theorem State.onTimer_identity (slot : SlotId) (f : ClaimTimer → ClaimTimer) (s : State) : (s.onTimer slot f).identity = s.identity := by cases slot <;> rfl
@[simp] theorem State.onTimer_day (slot : SlotId) (f : ClaimTimer → ClaimTimer) (s : State) : (s.onTimer slot f).day = s.day := by cases slot <;> rfl
@[simp] theorem State.onTimer_settings (slot : SlotId) (f : ClaimTimer → ClaimTimer) (s : State) : (s.onTimer slot f).settings = s.settings := by cases slot <;> rfl
@[simp] theorem State.onTimer_tickets (slot : SlotId) (f : ClaimTimer → ClaimTimer) (s : State) : (s.onTimer slot f).tickets = s.tickets := by cases slot <;> rfl
@[simp] theorem State.onTimer_scale (slot : SlotId) (f : ClaimTimer → ClaimTimer) (s : State) : (s.onTimer slot f).scale = s.scale := by cases slot <;> rfl
@[simp] theorem State.onTimer_weigh (slot : SlotId) (f : ClaimTimer → ClaimTimer) (s : State) : (s.onTimer slot f).weigh = s.weigh := by cases slot <;> rfl
@[simp] theorem State.onTimer_pricing (slot : SlotId) (f : ClaimTimer → ClaimTimer) (s : State) : (s.onTimer slot f).pricing = s.pricing := by cases slot <;> rfl
@[simp] theorem State.onTimer_link (slot : SlotId) (f : ClaimTimer → ClaimTimer) (s : State) : (s.onTimer slot f).link = s.link := by cases slot <;> rfl
@[simp] theorem State.onTimer_payOp (slot : SlotId) (f : ClaimTimer → ClaimTimer) (s : State) : (s.onTimer slot f).payOp = s.payOp := by cases slot <;> rfl
@[simp] theorem State.onTimer_drawer (slot : SlotId) (f : ClaimTimer → ClaimTimer) (s : State) : (s.onTimer slot f).drawer = s.drawer := by cases slot <;> rfl
@[simp] theorem State.onTimer_printer (slot : SlotId) (f : ClaimTimer → ClaimTimer) (s : State) : (s.onTimer slot f).printer = s.printer := by cases slot <;> rfl
@[simp] theorem State.onTimer_flags (slot : SlotId) (f : ClaimTimer → ClaimTimer) (s : State) : (s.onTimer slot f).flags = s.flags := by cases slot <;> rfl
@[simp] theorem State.onTimer_notices (slot : SlotId) (f : ClaimTimer → ClaimTimer) (s : State) : (s.onTimer slot f).notices = s.notices := by cases slot <;> rfl
@[simp] theorem State.onTimer_port (slot : SlotId) (f : ClaimTimer → ClaimTimer) (s : State) : (s.onTimer slot f).port = s.port := by cases slot <;> rfl
@[simp] theorem State.onTimer_pending (slot : SlotId) (f : ClaimTimer → ClaimTimer) (s : State) : (s.onTimer slot f).pending = s.pending := by cases slot <;> rfl
@[simp] theorem State.onTimer_dataIn (slot : SlotId) (f : ClaimTimer → ClaimTimer) (s : State) : (s.onTimer slot f).dataIn = s.dataIn := by cases slot <;> rfl
@[simp] theorem State.onTimer_claimTimer (slot : SlotId) (f : ClaimTimer → ClaimTimer) (s : State) : (s.onTimer slot f).claimTimer slot = f (s.claimTimer slot) := by cases slot <;> rfl

end Sys2Proof.Machine
end

