-- ==== Sys2Proof/Laws/Flags.lean ====
section
/-! SUPPORT. Frames of the operations on notices and flags: each lemma names every block its operation leaves as it is. -/

namespace Sys2Proof.Machine

@[simp] theorem State.setFlag_frame (f : Flag) (r : FlagRecord) (s : State) :
    (s.setFlag f r).powered = s.powered ∧ (s.setFlag f r).identity = s.identity ∧ (s.setFlag f r).day = s.day ∧ (s.setFlag f r).settings = s.settings
    ∧ (s.setFlag f r).tickets = s.tickets ∧ (s.setFlag f r).scale = s.scale ∧ (s.setFlag f r).weigh = s.weigh ∧ (s.setFlag f r).pricing = s.pricing
    ∧ (s.setFlag f r).link = s.link ∧ (s.setFlag f r).weighTimer = s.weighTimer ∧ (s.setFlag f r).payTimer = s.payTimer ∧ (s.setFlag f r).payOp = s.payOp
    ∧ (s.setFlag f r).drawer = s.drawer ∧ (s.setFlag f r).printer = s.printer ∧ (s.setFlag f r).notices = s.notices ∧ (s.setFlag f r).port = s.port
    ∧ (s.setFlag f r).pending = s.pending ∧ (s.setFlag f r).dataIn = s.dataIn := by
  simp [State.setFlag]

@[simp] theorem postNotice_frame (n : Notice) (s : State) :
    (postNotice n s).powered = s.powered ∧ (postNotice n s).identity = s.identity ∧ (postNotice n s).day = s.day ∧ (postNotice n s).settings = s.settings
    ∧ (postNotice n s).tickets = s.tickets ∧ (postNotice n s).scale = s.scale ∧ (postNotice n s).weigh = s.weigh ∧ (postNotice n s).pricing = s.pricing
    ∧ (postNotice n s).link = s.link ∧ (postNotice n s).weighTimer = s.weighTimer ∧ (postNotice n s).payTimer = s.payTimer ∧ (postNotice n s).payOp = s.payOp
    ∧ (postNotice n s).drawer = s.drawer ∧ (postNotice n s).printer = s.printer ∧ (postNotice n s).port = s.port ∧ (postNotice n s).pending = s.pending ∧ (postNotice n s).dataIn = s.dataIn := by
  unfold postNotice
  repeat' split
  all_goals simp

@[simp] theorem latchEvent_frame (f : Flag) (d : Detail) (s : State) :
    (latchEvent f d s).powered = s.powered ∧ (latchEvent f d s).identity = s.identity ∧ (latchEvent f d s).day = s.day ∧ (latchEvent f d s).settings = s.settings
    ∧ (latchEvent f d s).tickets = s.tickets ∧ (latchEvent f d s).scale = s.scale ∧ (latchEvent f d s).weigh = s.weigh ∧ (latchEvent f d s).pricing = s.pricing
    ∧ (latchEvent f d s).link = s.link ∧ (latchEvent f d s).weighTimer = s.weighTimer ∧ (latchEvent f d s).payTimer = s.payTimer ∧ (latchEvent f d s).payOp = s.payOp
    ∧ (latchEvent f d s).drawer = s.drawer ∧ (latchEvent f d s).printer = s.printer ∧ (latchEvent f d s).port = s.port ∧ (latchEvent f d s).pending = s.pending ∧ (latchEvent f d s).dataIn = s.dataIn := by
  unfold latchEvent
  repeat' split
  all_goals simp

@[simp] theorem latchCondition_frame (f : Flag) (d : Detail) (s : State) :
    (latchCondition f d s).powered = s.powered ∧ (latchCondition f d s).identity = s.identity ∧ (latchCondition f d s).day = s.day ∧ (latchCondition f d s).settings = s.settings
    ∧ (latchCondition f d s).tickets = s.tickets ∧ (latchCondition f d s).scale = s.scale ∧ (latchCondition f d s).weigh = s.weigh ∧ (latchCondition f d s).pricing = s.pricing
    ∧ (latchCondition f d s).link = s.link ∧ (latchCondition f d s).weighTimer = s.weighTimer ∧ (latchCondition f d s).payTimer = s.payTimer ∧ (latchCondition f d s).payOp = s.payOp
    ∧ (latchCondition f d s).drawer = s.drawer ∧ (latchCondition f d s).printer = s.printer ∧ (latchCondition f d s).port = s.port ∧ (latchCondition f d s).pending = s.pending ∧ (latchCondition f d s).dataIn = s.dataIn := by
  unfold latchCondition
  repeat' split
  all_goals simp

@[simp] theorem judge_frame (f : Flag) (s : State) :
    (judge f s).powered = s.powered ∧ (judge f s).identity = s.identity ∧ (judge f s).day = s.day ∧ (judge f s).settings = s.settings
    ∧ (judge f s).tickets = s.tickets ∧ (judge f s).scale = s.scale ∧ (judge f s).weigh = s.weigh ∧ (judge f s).pricing = s.pricing
    ∧ (judge f s).link = s.link ∧ (judge f s).weighTimer = s.weighTimer ∧ (judge f s).payTimer = s.payTimer ∧ (judge f s).payOp = s.payOp
    ∧ (judge f s).drawer = s.drawer ∧ (judge f s).printer = s.printer ∧ (judge f s).port = s.port ∧ (judge f s).pending = s.pending ∧ (judge f s).dataIn = s.dataIn := by
  unfold judge
  repeat' split
  all_goals simp

@[simp] theorem judgeDrawer_frame (s : State) :
    (judgeDrawer s).powered = s.powered ∧ (judgeDrawer s).identity = s.identity ∧ (judgeDrawer s).day = s.day ∧ (judgeDrawer s).settings = s.settings
    ∧ (judgeDrawer s).tickets = s.tickets ∧ (judgeDrawer s).scale = s.scale ∧ (judgeDrawer s).weigh = s.weigh ∧ (judgeDrawer s).pricing = s.pricing
    ∧ (judgeDrawer s).link = s.link ∧ (judgeDrawer s).weighTimer = s.weighTimer ∧ (judgeDrawer s).payTimer = s.payTimer ∧ (judgeDrawer s).payOp = s.payOp
    ∧ (judgeDrawer s).drawer = s.drawer ∧ (judgeDrawer s).printer = s.printer ∧ (judgeDrawer s).port = s.port ∧ (judgeDrawer s).pending = s.pending ∧ (judgeDrawer s).dataIn = s.dataIn := by
  simp [judgeDrawer]

@[simp] theorem clearFlag_frame (f : Flag) (s : State) :
    (clearFlag f s).powered = s.powered ∧ (clearFlag f s).identity = s.identity ∧ (clearFlag f s).day = s.day ∧ (clearFlag f s).settings = s.settings
    ∧ (clearFlag f s).tickets = s.tickets ∧ (clearFlag f s).scale = s.scale ∧ (clearFlag f s).weigh = s.weigh ∧ (clearFlag f s).pricing = s.pricing
    ∧ (clearFlag f s).link = s.link ∧ (clearFlag f s).weighTimer = s.weighTimer ∧ (clearFlag f s).payTimer = s.payTimer ∧ (clearFlag f s).payOp = s.payOp
    ∧ (clearFlag f s).drawer = s.drawer ∧ (clearFlag f s).printer = s.printer ∧ (clearFlag f s).notices = s.notices ∧ (clearFlag f s).port = s.port
    ∧ (clearFlag f s).pending = s.pending ∧ (clearFlag f s).dataIn = s.dataIn := by
  unfold clearFlag
  repeat' split
  all_goals simp

/-- A fold of steps that each leave a reading as it is leaves it as it is. -/
theorem foldl_keeps {α β : Type} (g : State → β) (f : State → α → State) (h : ∀ s a, g (f s a) = g s) (l : List α) (s : State) :
    g (l.foldl f s) = g s := by
  induction l generalizing s with
  | nil => rfl
  | cons a l ih => rw [List.foldl_cons, ih, h]

@[simp] theorem clearNamed_frame (names : Flag → Bool) (restarted : Bool) (s : State) :
    (clearNamed names restarted s).powered = s.powered ∧ (clearNamed names restarted s).identity = s.identity ∧ (clearNamed names restarted s).day = s.day ∧ (clearNamed names restarted s).settings = s.settings
    ∧ (clearNamed names restarted s).tickets = s.tickets ∧ (clearNamed names restarted s).scale = s.scale ∧ (clearNamed names restarted s).weigh = s.weigh ∧ (clearNamed names restarted s).pricing = s.pricing
    ∧ (clearNamed names restarted s).link = s.link ∧ (clearNamed names restarted s).weighTimer = s.weighTimer ∧ (clearNamed names restarted s).payTimer = s.payTimer ∧ (clearNamed names restarted s).payOp = s.payOp
    ∧ (clearNamed names restarted s).drawer = s.drawer ∧ (clearNamed names restarted s).printer = s.printer ∧ (clearNamed names restarted s).notices = s.notices ∧ (clearNamed names restarted s).port = s.port
    ∧ (clearNamed names restarted s).pending = s.pending ∧ (clearNamed names restarted s).dataIn = s.dataIn := by
  unfold clearNamed
  refine ⟨?_, ?_, ?_, ?_, ?_, ?_, ?_, ?_, ?_, ?_, ?_, ?_, ?_, ?_, ?_, ?_, ?_, ?_⟩ <;>
    simp only [State.onFlags_powered, State.onFlags_identity, State.onFlags_day, State.onFlags_settings, State.onFlags_tickets, State.onFlags_scale, State.onFlags_weigh, State.onFlags_pricing, State.onFlags_link, State.onFlags_weighTimer, State.onFlags_payTimer, State.onFlags_payOp, State.onFlags_drawer, State.onFlags_printer, State.onFlags_notices, State.onFlags_port, State.onFlags_pending, State.onFlags_dataIn] <;>
    refine foldl_keeps _ _ (fun s a => ?_) _ s <;> split <;> simp

end Sys2Proof.Machine
end

