-- ==== Sys2Proof/Laws/Printing.lean ====
section
/-! SUPPORT. Frames of the operations on the print queue and the printer port: each lemma names every block its operation leaves as it is. -/

namespace Sys2Proof.Machine

@[simp] theorem makeJob_frame (k : ReceiptKind) (t : Option TicketNo) (c : Nat) (st : JobState) (ls : List Text) (s : State) :
    (makeJob k t c st ls s).powered = s.powered ∧ (makeJob k t c st ls s).identity = s.identity ∧ (makeJob k t c st ls s).day = s.day ∧ (makeJob k t c st ls s).settings = s.settings
    ∧ (makeJob k t c st ls s).tickets = s.tickets ∧ (makeJob k t c st ls s).scale = s.scale ∧ (makeJob k t c st ls s).weigh = s.weigh ∧ (makeJob k t c st ls s).pricing = s.pricing
    ∧ (makeJob k t c st ls s).link = s.link ∧ (makeJob k t c st ls s).weighTimer = s.weighTimer ∧ (makeJob k t c st ls s).payTimer = s.payTimer ∧ (makeJob k t c st ls s).payOp = s.payOp
    ∧ (makeJob k t c st ls s).drawer = s.drawer ∧ (makeJob k t c st ls s).flags = s.flags ∧ (makeJob k t c st ls s).notices = s.notices ∧ (makeJob k t c st ls s).port = s.port
    ∧ (makeJob k t c st ls s).pending = s.pending ∧ (makeJob k t c st ls s).dataIn = s.dataIn := by
  simp [makeJob]

@[simp] theorem makeReceipt_frame (k : ReceiptKind) (t : Option TicketNo) (ls : List Text) (s : State) :
    (makeReceipt k t ls s).powered = s.powered ∧ (makeReceipt k t ls s).identity = s.identity ∧ (makeReceipt k t ls s).day = s.day ∧ (makeReceipt k t ls s).settings = s.settings
    ∧ (makeReceipt k t ls s).tickets = s.tickets ∧ (makeReceipt k t ls s).scale = s.scale ∧ (makeReceipt k t ls s).weigh = s.weigh ∧ (makeReceipt k t ls s).pricing = s.pricing
    ∧ (makeReceipt k t ls s).link = s.link ∧ (makeReceipt k t ls s).weighTimer = s.weighTimer ∧ (makeReceipt k t ls s).payTimer = s.payTimer ∧ (makeReceipt k t ls s).payOp = s.payOp
    ∧ (makeReceipt k t ls s).drawer = s.drawer ∧ (makeReceipt k t ls s).port = s.port ∧ (makeReceipt k t ls s).pending = s.pending ∧ (makeReceipt k t ls s).dataIn = s.dataIn := by
  unfold makeReceipt
  repeat' split
  all_goals simp

@[simp] theorem removeJob_frame (n : Nat) (s : State) :
    (removeJob n s).powered = s.powered ∧ (removeJob n s).identity = s.identity ∧ (removeJob n s).day = s.day ∧ (removeJob n s).settings = s.settings
    ∧ (removeJob n s).tickets = s.tickets ∧ (removeJob n s).scale = s.scale ∧ (removeJob n s).weigh = s.weigh ∧ (removeJob n s).pricing = s.pricing
    ∧ (removeJob n s).link = s.link ∧ (removeJob n s).weighTimer = s.weighTimer ∧ (removeJob n s).payTimer = s.payTimer ∧ (removeJob n s).payOp = s.payOp
    ∧ (removeJob n s).drawer = s.drawer ∧ (removeJob n s).flags = s.flags ∧ (removeJob n s).notices = s.notices ∧ (removeJob n s).port = s.port
    ∧ (removeJob n s).pending = s.pending ∧ (removeJob n s).dataIn = s.dataIn := by
  simp [removeJob]

@[simp] theorem fillPlaceholder_frame (n : Nat) (ls : List Text) (s : State) :
    (fillPlaceholder n ls s).powered = s.powered ∧ (fillPlaceholder n ls s).identity = s.identity ∧ (fillPlaceholder n ls s).day = s.day ∧ (fillPlaceholder n ls s).settings = s.settings
    ∧ (fillPlaceholder n ls s).tickets = s.tickets ∧ (fillPlaceholder n ls s).scale = s.scale ∧ (fillPlaceholder n ls s).weigh = s.weigh ∧ (fillPlaceholder n ls s).pricing = s.pricing
    ∧ (fillPlaceholder n ls s).link = s.link ∧ (fillPlaceholder n ls s).weighTimer = s.weighTimer ∧ (fillPlaceholder n ls s).payTimer = s.payTimer ∧ (fillPlaceholder n ls s).payOp = s.payOp
    ∧ (fillPlaceholder n ls s).drawer = s.drawer ∧ (fillPlaceholder n ls s).flags = s.flags ∧ (fillPlaceholder n ls s).notices = s.notices ∧ (fillPlaceholder n ls s).port = s.port
    ∧ (fillPlaceholder n ls s).pending = s.pending ∧ (fillPlaceholder n ls s).dataIn = s.dataIn := by
  simp [fillPlaceholder]

@[simp] theorem takeJobs_frame (s : State) :
    (takeJobs s).powered = s.powered ∧ (takeJobs s).identity = s.identity ∧ (takeJobs s).day = s.day ∧ (takeJobs s).settings = s.settings
    ∧ (takeJobs s).tickets = s.tickets ∧ (takeJobs s).scale = s.scale ∧ (takeJobs s).weigh = s.weigh ∧ (takeJobs s).pricing = s.pricing
    ∧ (takeJobs s).link = s.link ∧ (takeJobs s).weighTimer = s.weighTimer ∧ (takeJobs s).payTimer = s.payTimer ∧ (takeJobs s).payOp = s.payOp
    ∧ (takeJobs s).drawer = s.drawer ∧ (takeJobs s).flags = s.flags ∧ (takeJobs s).notices = s.notices ∧ (takeJobs s).port = s.port
    ∧ (takeJobs s).pending = s.pending ∧ (takeJobs s).dataIn = s.dataIn := by
  unfold takeJobs
  repeat' split
  all_goals simp

/-- All that the port can do of itself: nothing, take the oldest QUEUED job, or restart the SUSPENDED job that does not wait for
BUSY (R175, R177, R178). -/
theorem takeJobs_cases (s : State) :
    takeJobs s = s ∨
    (∃ j, s.fit = true ∧ s.printer.port = .ready ∧
      s.printer.jobs.find? (fun j => decide (j.state = .queued)) = some j ∧ takeJobs s = s.onPrinter (startJob j)) ∨
    (∃ j, s.fit = true ∧ s.printer.port = .stopped ∧ (j.awaitsBusy = true → s.printer.busy = false) ∧
      s.printer.jobs.find? (fun j => decide (j.state = .suspended)) = some j ∧
      takeJobs s = s.onPrinter (startJob { j with restarts := min 255 (j.restarts + 1), awaitsBusy := false })) := by
  unfold takeJobs
  split
  · rename_i fit
    split
    · rename_i port
      split
      · rename_i j found
        exact .inr (.inl ⟨j, fit, port, found, rfl⟩)
      · exact .inl rfl
    · rename_i port
      split
      · rename_i j found
        split
        · exact .inl rfl
        · exact .inr (.inr ⟨j, fit, port, by simp_all, found, rfl⟩)
      · exact .inl rfl
    · exact .inl rfl
  · exact .inl rfl

@[simp] theorem settleStall_frame (s : State) :
    (settleStall s).powered = s.powered ∧ (settleStall s).identity = s.identity ∧ (settleStall s).day = s.day ∧ (settleStall s).settings = s.settings
    ∧ (settleStall s).tickets = s.tickets ∧ (settleStall s).scale = s.scale ∧ (settleStall s).weigh = s.weigh ∧ (settleStall s).pricing = s.pricing
    ∧ (settleStall s).link = s.link ∧ (settleStall s).weighTimer = s.weighTimer ∧ (settleStall s).payTimer = s.payTimer ∧ (settleStall s).payOp = s.payOp
    ∧ (settleStall s).drawer = s.drawer ∧ (settleStall s).flags = s.flags ∧ (settleStall s).notices = s.notices ∧ (settleStall s).port = s.port
    ∧ (settleStall s).pending = s.pending ∧ (settleStall s).dataIn = s.dataIn := by
  simp [settleStall]

@[simp] theorem suspendJob_frame (b : Bool) (s : State) :
    (suspendJob b s).powered = s.powered ∧ (suspendJob b s).identity = s.identity ∧ (suspendJob b s).day = s.day ∧ (suspendJob b s).settings = s.settings
    ∧ (suspendJob b s).tickets = s.tickets ∧ (suspendJob b s).scale = s.scale ∧ (suspendJob b s).weigh = s.weigh ∧ (suspendJob b s).pricing = s.pricing
    ∧ (suspendJob b s).link = s.link ∧ (suspendJob b s).weighTimer = s.weighTimer ∧ (suspendJob b s).payTimer = s.payTimer ∧ (suspendJob b s).payOp = s.payOp
    ∧ (suspendJob b s).drawer = s.drawer ∧ (suspendJob b s).flags = s.flags ∧ (suspendJob b s).notices = s.notices ∧ (suspendJob b s).port = s.port
    ∧ (suspendJob b s).pending = s.pending ∧ (suspendJob b s).dataIn = s.dataIn := by
  simp [suspendJob]

@[simp] theorem finishReceipt_frame (s : State) :
    (finishReceipt s).powered = s.powered ∧ (finishReceipt s).identity = s.identity ∧ (finishReceipt s).day = s.day ∧ (finishReceipt s).settings = s.settings
    ∧ (finishReceipt s).tickets = s.tickets ∧ (finishReceipt s).scale = s.scale ∧ (finishReceipt s).weigh = s.weigh ∧ (finishReceipt s).pricing = s.pricing
    ∧ (finishReceipt s).link = s.link ∧ (finishReceipt s).weighTimer = s.weighTimer ∧ (finishReceipt s).payTimer = s.payTimer ∧ (finishReceipt s).payOp = s.payOp
    ∧ (finishReceipt s).drawer = s.drawer ∧ (finishReceipt s).port = s.port ∧ (finishReceipt s).pending = s.pending ∧ (finishReceipt s).dataIn = s.dataIn := by
  unfold finishReceipt
  repeat' split
  all_goals simp

@[simp] theorem abandonLoad_frame (s : State) :
    (abandonLoad s).powered = s.powered ∧ (abandonLoad s).identity = s.identity ∧ (abandonLoad s).day = s.day ∧ (abandonLoad s).settings = s.settings
    ∧ (abandonLoad s).tickets = s.tickets ∧ (abandonLoad s).scale = s.scale ∧ (abandonLoad s).weigh = s.weigh ∧ (abandonLoad s).pricing = s.pricing
    ∧ (abandonLoad s).link = s.link ∧ (abandonLoad s).weighTimer = s.weighTimer ∧ (abandonLoad s).payTimer = s.payTimer ∧ (abandonLoad s).payOp = s.payOp
    ∧ (abandonLoad s).drawer = s.drawer ∧ (abandonLoad s).flags = s.flags ∧ (abandonLoad s).notices = s.notices ∧ (abandonLoad s).port = s.port
    ∧ (abandonLoad s).pending = s.pending ∧ (abandonLoad s).dataIn = s.dataIn := by
  simp [abandonLoad]

end Sys2Proof.Machine
end

