-- ==== Sys2Proof/Laws/Store.lean ====
section
/-! SUPPORT. Frames of the operations on the ticket store: each lemma names every block its operation leaves as it is. -/

namespace Sys2Proof.Machine

@[simp] theorem modifyRecord_frame (t : TicketNo) (f : Record → Record) (s : State) :
    (modifyRecord t f s).powered = s.powered ∧ (modifyRecord t f s).identity = s.identity ∧ (modifyRecord t f s).day = s.day ∧ (modifyRecord t f s).settings = s.settings
    ∧ (modifyRecord t f s).scale = s.scale ∧ (modifyRecord t f s).weigh = s.weigh ∧ (modifyRecord t f s).pricing = s.pricing ∧ (modifyRecord t f s).link = s.link
    ∧ (modifyRecord t f s).weighTimer = s.weighTimer ∧ (modifyRecord t f s).payTimer = s.payTimer ∧ (modifyRecord t f s).payOp = s.payOp ∧ (modifyRecord t f s).drawer = s.drawer
    ∧ (modifyRecord t f s).printer = s.printer ∧ (modifyRecord t f s).flags = s.flags ∧ (modifyRecord t f s).notices = s.notices ∧ (modifyRecord t f s).port = s.port
    ∧ (modifyRecord t f s).pending = s.pending ∧ (modifyRecord t f s).dataIn = s.dataIn := by
  simp [modifyRecord]

@[simp] theorem appendRecord_frame (r : Record) (s : State) :
    (appendRecord r s).powered = s.powered ∧ (appendRecord r s).identity = s.identity ∧ (appendRecord r s).day = s.day ∧ (appendRecord r s).settings = s.settings
    ∧ (appendRecord r s).scale = s.scale ∧ (appendRecord r s).weigh = s.weigh ∧ (appendRecord r s).pricing = s.pricing ∧ (appendRecord r s).link = s.link
    ∧ (appendRecord r s).weighTimer = s.weighTimer ∧ (appendRecord r s).payTimer = s.payTimer ∧ (appendRecord r s).payOp = s.payOp ∧ (appendRecord r s).drawer = s.drawer
    ∧ (appendRecord r s).printer = s.printer ∧ (appendRecord r s).flags = s.flags ∧ (appendRecord r s).notices = s.notices ∧ (appendRecord r s).port = s.port
    ∧ (appendRecord r s).pending = s.pending ∧ (appendRecord r s).dataIn = s.dataIn := by
  simp [appendRecord]

@[simp] theorem removeRecord_frame (t : TicketNo) (s : State) :
    (removeRecord t s).powered = s.powered ∧ (removeRecord t s).identity = s.identity ∧ (removeRecord t s).day = s.day ∧ (removeRecord t s).settings = s.settings
    ∧ (removeRecord t s).scale = s.scale ∧ (removeRecord t s).weigh = s.weigh ∧ (removeRecord t s).pricing = s.pricing ∧ (removeRecord t s).link = s.link
    ∧ (removeRecord t s).weighTimer = s.weighTimer ∧ (removeRecord t s).payTimer = s.payTimer ∧ (removeRecord t s).payOp = s.payOp ∧ (removeRecord t s).drawer = s.drawer
    ∧ (removeRecord t s).printer = s.printer ∧ (removeRecord t s).flags = s.flags ∧ (removeRecord t s).notices = s.notices ∧ (removeRecord t s).port = s.port
    ∧ (removeRecord t s).pending = s.pending ∧ (removeRecord t s).dataIn = s.dataIn := by
  simp [removeRecord]

@[simp] theorem applyFilter_frame (t : TicketNo) (s : State) :
    (applyFilter t s).powered = s.powered ∧ (applyFilter t s).identity = s.identity ∧ (applyFilter t s).day = s.day ∧ (applyFilter t s).settings = s.settings
    ∧ (applyFilter t s).scale = s.scale ∧ (applyFilter t s).weigh = s.weigh ∧ (applyFilter t s).pricing = s.pricing ∧ (applyFilter t s).link = s.link
    ∧ (applyFilter t s).weighTimer = s.weighTimer ∧ (applyFilter t s).payTimer = s.payTimer ∧ (applyFilter t s).payOp = s.payOp ∧ (applyFilter t s).drawer = s.drawer
    ∧ (applyFilter t s).printer = s.printer ∧ (applyFilter t s).flags = s.flags ∧ (applyFilter t s).notices = s.notices ∧ (applyFilter t s).port = s.port
    ∧ (applyFilter t s).pending = s.pending ∧ (applyFilter t s).dataIn = s.dataIn := by
  unfold applyFilter
  repeat' split
  all_goals simp

@[simp] theorem setCustody_frame (t : TicketNo) (c : Custody) (s : State) :
    (setCustody t c s).powered = s.powered ∧ (setCustody t c s).identity = s.identity ∧ (setCustody t c s).day = s.day ∧ (setCustody t c s).settings = s.settings
    ∧ (setCustody t c s).scale = s.scale ∧ (setCustody t c s).weigh = s.weigh ∧ (setCustody t c s).pricing = s.pricing ∧ (setCustody t c s).link = s.link
    ∧ (setCustody t c s).weighTimer = s.weighTimer ∧ (setCustody t c s).payTimer = s.payTimer ∧ (setCustody t c s).payOp = s.payOp ∧ (setCustody t c s).drawer = s.drawer
    ∧ (setCustody t c s).printer = s.printer ∧ (setCustody t c s).flags = s.flags ∧ (setCustody t c s).notices = s.notices ∧ (setCustody t c s).port = s.port
    ∧ (setCustody t c s).pending = s.pending ∧ (setCustody t c s).dataIn = s.dataIn := by
  unfold setCustody
  repeat' split
  all_goals simp

@[simp] theorem freeTakenBy_frame (x : Nat) (t : TicketNo) (s : State) :
    (freeTakenBy x t s).powered = s.powered ∧ (freeTakenBy x t s).identity = s.identity ∧ (freeTakenBy x t s).day = s.day ∧ (freeTakenBy x t s).settings = s.settings
    ∧ (freeTakenBy x t s).scale = s.scale ∧ (freeTakenBy x t s).weigh = s.weigh ∧ (freeTakenBy x t s).pricing = s.pricing ∧ (freeTakenBy x t s).link = s.link
    ∧ (freeTakenBy x t s).weighTimer = s.weighTimer ∧ (freeTakenBy x t s).payTimer = s.payTimer ∧ (freeTakenBy x t s).payOp = s.payOp ∧ (freeTakenBy x t s).drawer = s.drawer
    ∧ (freeTakenBy x t s).printer = s.printer ∧ (freeTakenBy x t s).flags = s.flags ∧ (freeTakenBy x t s).notices = s.notices ∧ (freeTakenBy x t s).port = s.port
    ∧ (freeTakenBy x t s).pending = s.pending ∧ (freeTakenBy x t s).dataIn = s.dataIn := by
  unfold freeTakenBy
  repeat' split
  all_goals simp

@[simp] theorem modifyEntry_frame (t : TicketNo) (f : RegEntry → RegEntry) (s : State) :
    (modifyEntry t f s).powered = s.powered ∧ (modifyEntry t f s).identity = s.identity ∧ (modifyEntry t f s).day = s.day ∧ (modifyEntry t f s).settings = s.settings
    ∧ (modifyEntry t f s).scale = s.scale ∧ (modifyEntry t f s).weigh = s.weigh ∧ (modifyEntry t f s).pricing = s.pricing ∧ (modifyEntry t f s).link = s.link
    ∧ (modifyEntry t f s).weighTimer = s.weighTimer ∧ (modifyEntry t f s).payTimer = s.payTimer ∧ (modifyEntry t f s).payOp = s.payOp ∧ (modifyEntry t f s).drawer = s.drawer
    ∧ (modifyEntry t f s).printer = s.printer ∧ (modifyEntry t f s).flags = s.flags ∧ (modifyEntry t f s).notices = s.notices ∧ (modifyEntry t f s).port = s.port
    ∧ (modifyEntry t f s).pending = s.pending ∧ (modifyEntry t f s).dataIn = s.dataIn := by
  unfold modifyEntry
  repeat' split
  all_goals simp

@[simp] theorem setHolder_frame (t : TicketNo) (h : Nat) (s : State) :
    (setHolder t h s).powered = s.powered ∧ (setHolder t h s).identity = s.identity ∧ (setHolder t h s).day = s.day ∧ (setHolder t h s).settings = s.settings
    ∧ (setHolder t h s).scale = s.scale ∧ (setHolder t h s).weigh = s.weigh ∧ (setHolder t h s).pricing = s.pricing ∧ (setHolder t h s).link = s.link
    ∧ (setHolder t h s).weighTimer = s.weighTimer ∧ (setHolder t h s).payTimer = s.payTimer ∧ (setHolder t h s).payOp = s.payOp ∧ (setHolder t h s).drawer = s.drawer
    ∧ (setHolder t h s).printer = s.printer ∧ (setHolder t h s).flags = s.flags ∧ (setHolder t h s).notices = s.notices ∧ (setHolder t h s).port = s.port
    ∧ (setHolder t h s).pending = s.pending ∧ (setHolder t h s).dataIn = s.dataIn := by
  simp [setHolder]

@[simp] theorem moveHolder_frame (t : TicketNo) (x h : Nat) (s : State) :
    (moveHolder t x h s).powered = s.powered ∧ (moveHolder t x h s).identity = s.identity ∧ (moveHolder t x h s).day = s.day ∧ (moveHolder t x h s).settings = s.settings
    ∧ (moveHolder t x h s).scale = s.scale ∧ (moveHolder t x h s).weigh = s.weigh ∧ (moveHolder t x h s).pricing = s.pricing ∧ (moveHolder t x h s).link = s.link
    ∧ (moveHolder t x h s).weighTimer = s.weighTimer ∧ (moveHolder t x h s).payTimer = s.payTimer ∧ (moveHolder t x h s).payOp = s.payOp ∧ (moveHolder t x h s).drawer = s.drawer
    ∧ (moveHolder t x h s).printer = s.printer ∧ (moveHolder t x h s).flags = s.flags ∧ (moveHolder t x h s).notices = s.notices ∧ (moveHolder t x h s).port = s.port
    ∧ (moveHolder t x h s).pending = s.pending ∧ (moveHolder t x h s).dataIn = s.dataIn := by
  simp [moveHolder]

@[simp] theorem claimRegister_frame (s : State) :
    (claimRegister s).powered = s.powered ∧ (claimRegister s).identity = s.identity ∧ (claimRegister s).day = s.day ∧ (claimRegister s).settings = s.settings
    ∧ (claimRegister s).scale = s.scale ∧ (claimRegister s).weigh = s.weigh ∧ (claimRegister s).pricing = s.pricing ∧ (claimRegister s).link = s.link
    ∧ (claimRegister s).weighTimer = s.weighTimer ∧ (claimRegister s).payTimer = s.payTimer ∧ (claimRegister s).payOp = s.payOp ∧ (claimRegister s).drawer = s.drawer
    ∧ (claimRegister s).printer = s.printer ∧ (claimRegister s).flags = s.flags ∧ (claimRegister s).notices = s.notices ∧ (claimRegister s).port = s.port
    ∧ (claimRegister s).pending = s.pending ∧ (claimRegister s).dataIn = s.dataIn := by
  unfold claimRegister
  repeat' split
  all_goals simp

@[simp] theorem closeTicket_frame (t : TicketNo) (c : Closure) (s : State) :
    (closeTicket t c s).powered = s.powered ∧ (closeTicket t c s).identity = s.identity ∧ (closeTicket t c s).day = s.day ∧ (closeTicket t c s).settings = s.settings
    ∧ (closeTicket t c s).scale = s.scale ∧ (closeTicket t c s).weigh = s.weigh ∧ (closeTicket t c s).pricing = s.pricing ∧ (closeTicket t c s).link = s.link
    ∧ (closeTicket t c s).weighTimer = s.weighTimer ∧ (closeTicket t c s).payTimer = s.payTimer ∧ (closeTicket t c s).payOp = s.payOp ∧ (closeTicket t c s).drawer = s.drawer
    ∧ (closeTicket t c s).printer = s.printer ∧ (closeTicket t c s).flags = s.flags ∧ (closeTicket t c s).notices = s.notices ∧ (closeTicket t c s).port = s.port
    ∧ (closeTicket t c s).pending = s.pending ∧ (closeTicket t c s).dataIn = s.dataIn := by
  simp [closeTicket]

@[simp] theorem markPending_frame (t : TicketNo) (s : State) :
    (markPending t s).powered = s.powered ∧ (markPending t s).identity = s.identity ∧ (markPending t s).day = s.day ∧ (markPending t s).settings = s.settings
    ∧ (markPending t s).scale = s.scale ∧ (markPending t s).weigh = s.weigh ∧ (markPending t s).pricing = s.pricing ∧ (markPending t s).link = s.link
    ∧ (markPending t s).weighTimer = s.weighTimer ∧ (markPending t s).payTimer = s.payTimer ∧ (markPending t s).payOp = s.payOp ∧ (markPending t s).drawer = s.drawer
    ∧ (markPending t s).printer = s.printer ∧ (markPending t s).flags = s.flags ∧ (markPending t s).notices = s.notices ∧ (markPending t s).port = s.port
    ∧ (markPending t s).pending = s.pending ∧ (markPending t s).dataIn = s.dataIn := by
  simp [markPending]

@[simp] theorem freeTaken_frame (t : TicketNo) (s : State) :
    (freeTaken t s).powered = s.powered ∧ (freeTaken t s).identity = s.identity ∧ (freeTaken t s).day = s.day ∧ (freeTaken t s).settings = s.settings
    ∧ (freeTaken t s).scale = s.scale ∧ (freeTaken t s).weigh = s.weigh ∧ (freeTaken t s).pricing = s.pricing ∧ (freeTaken t s).link = s.link
    ∧ (freeTaken t s).weighTimer = s.weighTimer ∧ (freeTaken t s).payTimer = s.payTimer ∧ (freeTaken t s).payOp = s.payOp ∧ (freeTaken t s).drawer = s.drawer
    ∧ (freeTaken t s).printer = s.printer ∧ (freeTaken t s).flags = s.flags ∧ (freeTaken t s).notices = s.notices ∧ (freeTaken t s).port = s.port
    ∧ (freeTaken t s).pending = s.pending ∧ (freeTaken t s).dataIn = s.dataIn := by
  unfold freeTaken
  repeat' split
  all_goals simp

@[simp] theorem freeHolds_frame (x : Nat) (s : State) :
    (freeHolds x s).powered = s.powered ∧ (freeHolds x s).identity = s.identity ∧ (freeHolds x s).day = s.day ∧ (freeHolds x s).settings = s.settings
    ∧ (freeHolds x s).scale = s.scale ∧ (freeHolds x s).weigh = s.weigh ∧ (freeHolds x s).pricing = s.pricing ∧ (freeHolds x s).link = s.link
    ∧ (freeHolds x s).weighTimer = s.weighTimer ∧ (freeHolds x s).payTimer = s.payTimer ∧ (freeHolds x s).payOp = s.payOp ∧ (freeHolds x s).drawer = s.drawer
    ∧ (freeHolds x s).printer = s.printer ∧ (freeHolds x s).flags = s.flags ∧ (freeHolds x s).notices = s.notices ∧ (freeHolds x s).port = s.port
    ∧ (freeHolds x s).pending = s.pending ∧ (freeHolds x s).dataIn = s.dataIn := by
  simp [freeHolds]

@[simp] theorem storeNew_frame (r : Record) (s : State) :
    (storeNew r s).powered = s.powered ∧ (storeNew r s).identity = s.identity ∧ (storeNew r s).day = s.day ∧ (storeNew r s).settings = s.settings
    ∧ (storeNew r s).scale = s.scale ∧ (storeNew r s).weigh = s.weigh ∧ (storeNew r s).pricing = s.pricing ∧ (storeNew r s).link = s.link
    ∧ (storeNew r s).weighTimer = s.weighTimer ∧ (storeNew r s).payTimer = s.payTimer ∧ (storeNew r s).payOp = s.payOp ∧ (storeNew r s).drawer = s.drawer
    ∧ (storeNew r s).printer = s.printer ∧ (storeNew r s).flags = s.flags ∧ (storeNew r s).notices = s.notices ∧ (storeNew r s).port = s.port
    ∧ (storeNew r s).pending = s.pending ∧ (storeNew r s).dataIn = s.dataIn := by
  simp [storeNew]

end Sys2Proof.Machine
end

