-- ==== Sys2Proof/Laws/Queue.lean ====
section
/-! SUPPORT. Frames of the operations on the transmit queue: each lemma names every block its operation leaves as it is. -/

namespace Sys2Proof.Machine

@[simp] theorem enqueue_frame (i : QueueItem) (s : State) :
    (enqueue i s).powered = s.powered ∧ (enqueue i s).identity = s.identity ∧ (enqueue i s).day = s.day ∧ (enqueue i s).settings = s.settings
    ∧ (enqueue i s).tickets = s.tickets ∧ (enqueue i s).scale = s.scale ∧ (enqueue i s).weigh = s.weigh ∧ (enqueue i s).pricing = s.pricing
    ∧ (enqueue i s).weighTimer = s.weighTimer ∧ (enqueue i s).payTimer = s.payTimer ∧ (enqueue i s).payOp = s.payOp ∧ (enqueue i s).drawer = s.drawer
    ∧ (enqueue i s).printer = s.printer ∧ (enqueue i s).flags = s.flags ∧ (enqueue i s).notices = s.notices ∧ (enqueue i s).port = s.port
    ∧ (enqueue i s).pending = s.pending ∧ (enqueue i s).dataIn = s.dataIn := by
  simp [enqueue]

@[simp] theorem setClosing_frame (slot : SlotId) (b : Bool) (s : State) :
    (setClosing slot b s).powered = s.powered ∧ (setClosing slot b s).identity = s.identity ∧ (setClosing slot b s).day = s.day ∧ (setClosing slot b s).settings = s.settings
    ∧ (setClosing slot b s).tickets = s.tickets ∧ (setClosing slot b s).scale = s.scale ∧ (setClosing slot b s).pricing = s.pricing ∧ (setClosing slot b s).link = s.link
    ∧ (setClosing slot b s).weighTimer = s.weighTimer ∧ (setClosing slot b s).payTimer = s.payTimer ∧ (setClosing slot b s).drawer = s.drawer ∧ (setClosing slot b s).printer = s.printer
    ∧ (setClosing slot b s).flags = s.flags ∧ (setClosing slot b s).notices = s.notices ∧ (setClosing slot b s).port = s.port ∧ (setClosing slot b s).pending = s.pending ∧ (setClosing slot b s).dataIn = s.dataIn := by
  unfold setClosing
  repeat' split
  all_goals simp

@[simp] theorem sendOnClosing_frame (slot : SlotId) (f : Frame) (s : State) :
    (sendOnClosing slot f s).powered = s.powered ∧ (sendOnClosing slot f s).identity = s.identity ∧ (sendOnClosing slot f s).day = s.day ∧ (sendOnClosing slot f s).settings = s.settings
    ∧ (sendOnClosing slot f s).tickets = s.tickets ∧ (sendOnClosing slot f s).scale = s.scale ∧ (sendOnClosing slot f s).pricing = s.pricing ∧ (sendOnClosing slot f s).weighTimer = s.weighTimer
    ∧ (sendOnClosing slot f s).payTimer = s.payTimer ∧ (sendOnClosing slot f s).drawer = s.drawer ∧ (sendOnClosing slot f s).printer = s.printer ∧ (sendOnClosing slot f s).flags = s.flags
    ∧ (sendOnClosing slot f s).notices = s.notices ∧ (sendOnClosing slot f s).port = s.port ∧ (sendOnClosing slot f s).pending = s.pending ∧ (sendOnClosing slot f s).dataIn = s.dataIn := by
  unfold sendOnClosing
  repeat' split
  all_goals simp

@[simp] theorem sendAsk_frame (t : TicketNo) (step : Nat) (s : State) :
    (sendAsk t step s).powered = s.powered ∧ (sendAsk t step s).identity = s.identity ∧ (sendAsk t step s).day = s.day ∧ (sendAsk t step s).settings = s.settings
    ∧ (sendAsk t step s).tickets = s.tickets ∧ (sendAsk t step s).scale = s.scale ∧ (sendAsk t step s).weigh = s.weigh ∧ (sendAsk t step s).pricing = s.pricing
    ∧ (sendAsk t step s).weighTimer = s.weighTimer ∧ (sendAsk t step s).payTimer = s.payTimer ∧ (sendAsk t step s).payOp = s.payOp ∧ (sendAsk t step s).drawer = s.drawer
    ∧ (sendAsk t step s).printer = s.printer ∧ (sendAsk t step s).flags = s.flags ∧ (sendAsk t step s).notices = s.notices ∧ (sendAsk t step s).port = s.port
    ∧ (sendAsk t step s).pending = s.pending ∧ (sendAsk t step s).dataIn = s.dataIn := by
  unfold sendAsk
  repeat' split
  all_goals simp

@[simp] theorem sendAnnounce_frame (s : State) :
    (sendAnnounce s).powered = s.powered ∧ (sendAnnounce s).identity = s.identity ∧ (sendAnnounce s).day = s.day ∧ (sendAnnounce s).settings = s.settings
    ∧ (sendAnnounce s).tickets = s.tickets ∧ (sendAnnounce s).scale = s.scale ∧ (sendAnnounce s).weigh = s.weigh ∧ (sendAnnounce s).pricing = s.pricing
    ∧ (sendAnnounce s).weighTimer = s.weighTimer ∧ (sendAnnounce s).payTimer = s.payTimer ∧ (sendAnnounce s).payOp = s.payOp ∧ (sendAnnounce s).drawer = s.drawer
    ∧ (sendAnnounce s).printer = s.printer ∧ (sendAnnounce s).flags = s.flags ∧ (sendAnnounce s).notices = s.notices ∧ (sendAnnounce s).port = s.port
    ∧ (sendAnnounce s).pending = s.pending ∧ (sendAnnounce s).dataIn = s.dataIn := by
  unfold sendAnnounce
  repeat' split
  all_goals simp

@[simp] theorem touchHead_frame (s : State) :
    (touchHead s).powered = s.powered ∧ (touchHead s).identity = s.identity ∧ (touchHead s).day = s.day ∧ (touchHead s).settings = s.settings
    ∧ (touchHead s).tickets = s.tickets ∧ (touchHead s).scale = s.scale ∧ (touchHead s).weigh = s.weigh ∧ (touchHead s).pricing = s.pricing
    ∧ (touchHead s).weighTimer = s.weighTimer ∧ (touchHead s).payTimer = s.payTimer ∧ (touchHead s).payOp = s.payOp ∧ (touchHead s).drawer = s.drawer
    ∧ (touchHead s).printer = s.printer ∧ (touchHead s).flags = s.flags ∧ (touchHead s).notices = s.notices ∧ (touchHead s).port = s.port
    ∧ (touchHead s).pending = s.pending ∧ (touchHead s).dataIn = s.dataIn := by
  unfold touchHead
  repeat' split
  all_goals simp

@[simp] theorem withdrawClaim_frame (slot : SlotId) (s : State) :
    (withdrawClaim slot s).powered = s.powered ∧ (withdrawClaim slot s).identity = s.identity ∧ (withdrawClaim slot s).day = s.day ∧ (withdrawClaim slot s).settings = s.settings
    ∧ (withdrawClaim slot s).tickets = s.tickets ∧ (withdrawClaim slot s).scale = s.scale ∧ (withdrawClaim slot s).weigh = s.weigh ∧ (withdrawClaim slot s).pricing = s.pricing
    ∧ (withdrawClaim slot s).weighTimer = s.weighTimer ∧ (withdrawClaim slot s).payTimer = s.payTimer ∧ (withdrawClaim slot s).payOp = s.payOp ∧ (withdrawClaim slot s).drawer = s.drawer
    ∧ (withdrawClaim slot s).printer = s.printer ∧ (withdrawClaim slot s).flags = s.flags ∧ (withdrawClaim slot s).notices = s.notices ∧ (withdrawClaim slot s).port = s.port
    ∧ (withdrawClaim slot s).pending = s.pending ∧ (withdrawClaim slot s).dataIn = s.dataIn := by
  simp [withdrawClaim]

end Sys2Proof.Machine
end

