-- ==== Sys2Proof/Laws/Slots.lean ====
section
/-! SUPPORT. Frames of the operations on the slots and the controller port: each lemma names every block its operation leaves as it is. -/

namespace Sys2Proof.Machine

@[simp] theorem stopTimer_frame (slot : SlotId) (p : Phase) (s : State) :
    (stopTimer slot p s).powered = s.powered ∧ (stopTimer slot p s).identity = s.identity ∧ (stopTimer slot p s).day = s.day ∧ (stopTimer slot p s).settings = s.settings
    ∧ (stopTimer slot p s).tickets = s.tickets ∧ (stopTimer slot p s).scale = s.scale ∧ (stopTimer slot p s).weigh = s.weigh ∧ (stopTimer slot p s).pricing = s.pricing
    ∧ (stopTimer slot p s).link = s.link ∧ (stopTimer slot p s).payOp = s.payOp ∧ (stopTimer slot p s).drawer = s.drawer ∧ (stopTimer slot p s).printer = s.printer
    ∧ (stopTimer slot p s).flags = s.flags ∧ (stopTimer slot p s).notices = s.notices ∧ (stopTimer slot p s).port = s.port ∧ (stopTimer slot p s).pending = s.pending ∧ (stopTimer slot p s).dataIn = s.dataIn := by
  simp [stopTimer]

@[simp] theorem closeSlot_frame (slot : SlotId) (p : Phase) (s : State) :
    (closeSlot slot p s).powered = s.powered ∧ (closeSlot slot p s).identity = s.identity ∧ (closeSlot slot p s).day = s.day ∧ (closeSlot slot p s).settings = s.settings
    ∧ (closeSlot slot p s).tickets = s.tickets ∧ (closeSlot slot p s).pricing = s.pricing ∧ (closeSlot slot p s).link = s.link ∧ (closeSlot slot p s).drawer = s.drawer
    ∧ (closeSlot slot p s).flags = s.flags ∧ (closeSlot slot p s).notices = s.notices ∧ (closeSlot slot p s).port = s.port ∧ (closeSlot slot p s).pending = s.pending ∧ (closeSlot slot p s).dataIn = s.dataIn := by
  unfold closeSlot
  repeat' split
  all_goals simp

@[simp] theorem endOp_frame (slot : SlotId) (o : Result) (l : Option LossReason) (h : Nat) (s : State) :
    (endOp slot o l h s).powered = s.powered ∧ (endOp slot o l h s).identity = s.identity ∧ (endOp slot o l h s).day = s.day ∧ (endOp slot o l h s).settings = s.settings
    ∧ (endOp slot o l h s).tickets = s.tickets ∧ (endOp slot o l h s).pricing = s.pricing ∧ (endOp slot o l h s).link = s.link ∧ (endOp slot o l h s).drawer = s.drawer
    ∧ (endOp slot o l h s).port = s.port ∧ (endOp slot o l h s).pending = s.pending ∧ (endOp slot o l h s).dataIn = s.dataIn := by
  simp [endOp]

@[simp] theorem releaseHold_frame (slot : SlotId) (t : TicketNo) (s : State) :
    (releaseHold slot t s).powered = s.powered ∧ (releaseHold slot t s).identity = s.identity ∧ (releaseHold slot t s).day = s.day ∧ (releaseHold slot t s).settings = s.settings
    ∧ (releaseHold slot t s).scale = s.scale ∧ (releaseHold slot t s).pricing = s.pricing ∧ (releaseHold slot t s).weighTimer = s.weighTimer ∧ (releaseHold slot t s).payTimer = s.payTimer
    ∧ (releaseHold slot t s).drawer = s.drawer ∧ (releaseHold slot t s).printer = s.printer ∧ (releaseHold slot t s).flags = s.flags ∧ (releaseHold slot t s).notices = s.notices
    ∧ (releaseHold slot t s).port = s.port ∧ (releaseHold slot t s).pending = s.pending ∧ (releaseHold slot t s).dataIn = s.dataIn := by
  simp [releaseHold]

@[simp] theorem endHold_frame (slot : SlotId) (t : TicketNo) (o : Result) (l : Option LossReason) (h : Nat) (s : State) :
    (endHold slot t o l h s).powered = s.powered ∧ (endHold slot t o l h s).identity = s.identity ∧ (endHold slot t o l h s).day = s.day ∧ (endHold slot t o l h s).settings = s.settings
    ∧ (endHold slot t o l h s).pricing = s.pricing ∧ (endHold slot t o l h s).drawer = s.drawer ∧ (endHold slot t o l h s).port = s.port ∧ (endHold slot t o l h s).pending = s.pending ∧ (endHold slot t o l h s).dataIn = s.dataIn := by
  simp [endHold]

@[simp] theorem endCommitted_frame (slot : SlotId) (t : TicketNo) (s : State) :
    (endCommitted slot t s).powered = s.powered ∧ (endCommitted slot t s).identity = s.identity ∧ (endCommitted slot t s).day = s.day ∧ (endCommitted slot t s).settings = s.settings
    ∧ (endCommitted slot t s).tickets = s.tickets ∧ (endCommitted slot t s).pricing = s.pricing ∧ (endCommitted slot t s).link = s.link ∧ (endCommitted slot t s).drawer = s.drawer
    ∧ (endCommitted slot t s).port = s.port ∧ (endCommitted slot t s).pending = s.pending ∧ (endCommitted slot t s).dataIn = s.dataIn := by
  simp [endCommitted]

@[simp] theorem countDay_frame (f : DayTotals → DayTotals) (s : State) :
    (countDay f s).powered = s.powered ∧ (countDay f s).identity = s.identity ∧ (countDay f s).settings = s.settings ∧ (countDay f s).tickets = s.tickets
    ∧ (countDay f s).scale = s.scale ∧ (countDay f s).weigh = s.weigh ∧ (countDay f s).pricing = s.pricing ∧ (countDay f s).link = s.link
    ∧ (countDay f s).weighTimer = s.weighTimer ∧ (countDay f s).payTimer = s.payTimer ∧ (countDay f s).payOp = s.payOp ∧ (countDay f s).drawer = s.drawer
    ∧ (countDay f s).printer = s.printer ∧ (countDay f s).flags = s.flags ∧ (countDay f s).notices = s.notices ∧ (countDay f s).port = s.port
    ∧ (countDay f s).pending = s.pending ∧ (countDay f s).dataIn = s.dataIn := by
  simp [countDay]

@[simp] theorem postPayable_frame (t : TicketNo) (b : Bool) (s : State) :
    (postPayable t b s).powered = s.powered ∧ (postPayable t b s).identity = s.identity ∧ (postPayable t b s).day = s.day ∧ (postPayable t b s).settings = s.settings
    ∧ (postPayable t b s).tickets = s.tickets ∧ (postPayable t b s).scale = s.scale ∧ (postPayable t b s).weigh = s.weigh ∧ (postPayable t b s).pricing = s.pricing
    ∧ (postPayable t b s).link = s.link ∧ (postPayable t b s).weighTimer = s.weighTimer ∧ (postPayable t b s).payTimer = s.payTimer ∧ (postPayable t b s).payOp = s.payOp
    ∧ (postPayable t b s).drawer = s.drawer ∧ (postPayable t b s).printer = s.printer ∧ (postPayable t b s).port = s.port ∧ (postPayable t b s).pending = s.pending ∧ (postPayable t b s).dataIn = s.dataIn := by
  unfold postPayable
  repeat' split
  all_goals simp

@[simp] theorem noteGrant_frame (slot : SlotId) (g : Grant) (s : State) :
    (noteGrant slot g s).powered = s.powered ∧ (noteGrant slot g s).identity = s.identity ∧ (noteGrant slot g s).day = s.day ∧ (noteGrant slot g s).settings = s.settings
    ∧ (noteGrant slot g s).tickets = s.tickets ∧ (noteGrant slot g s).scale = s.scale ∧ (noteGrant slot g s).pricing = s.pricing ∧ (noteGrant slot g s).link = s.link
    ∧ (noteGrant slot g s).weighTimer = s.weighTimer ∧ (noteGrant slot g s).payTimer = s.payTimer ∧ (noteGrant slot g s).drawer = s.drawer ∧ (noteGrant slot g s).printer = s.printer
    ∧ (noteGrant slot g s).flags = s.flags ∧ (noteGrant slot g s).notices = s.notices ∧ (noteGrant slot g s).port = s.port ∧ (noteGrant slot g s).pending = s.pending ∧ (noteGrant slot g s).dataIn = s.dataIn := by
  unfold noteGrant
  repeat' split
  all_goals simp

@[simp] theorem openCapture_frame (k : CaptureKind) (s : State) :
    (openCapture k s).powered = s.powered ∧ (openCapture k s).identity = s.identity ∧ (openCapture k s).day = s.day ∧ (openCapture k s).settings = s.settings
    ∧ (openCapture k s).tickets = s.tickets ∧ (openCapture k s).weigh = s.weigh ∧ (openCapture k s).pricing = s.pricing ∧ (openCapture k s).link = s.link
    ∧ (openCapture k s).weighTimer = s.weighTimer ∧ (openCapture k s).payTimer = s.payTimer ∧ (openCapture k s).payOp = s.payOp ∧ (openCapture k s).drawer = s.drawer
    ∧ (openCapture k s).printer = s.printer ∧ (openCapture k s).flags = s.flags ∧ (openCapture k s).notices = s.notices ∧ (openCapture k s).port = s.port
    ∧ (openCapture k s).pending = s.pending ∧ (openCapture k s).dataIn = s.dataIn := by
  simp [openCapture]

@[simp] theorem claimDelivered_frame (slot : SlotId) (s : State) :
    (claimDelivered slot s).powered = s.powered ∧ (claimDelivered slot s).identity = s.identity ∧ (claimDelivered slot s).day = s.day ∧ (claimDelivered slot s).settings = s.settings
    ∧ (claimDelivered slot s).tickets = s.tickets ∧ (claimDelivered slot s).scale = s.scale ∧ (claimDelivered slot s).pricing = s.pricing ∧ (claimDelivered slot s).link = s.link
    ∧ (claimDelivered slot s).drawer = s.drawer ∧ (claimDelivered slot s).printer = s.printer ∧ (claimDelivered slot s).flags = s.flags ∧ (claimDelivered slot s).notices = s.notices
    ∧ (claimDelivered slot s).port = s.port ∧ (claimDelivered slot s).pending = s.pending ∧ (claimDelivered slot s).dataIn = s.dataIn := by
  simp [claimDelivered]

@[simp] theorem claimDropped_frame (slot : SlotId) (s : State) :
    (claimDropped slot s).powered = s.powered ∧ (claimDropped slot s).identity = s.identity ∧ (claimDropped slot s).day = s.day ∧ (claimDropped slot s).settings = s.settings
    ∧ (claimDropped slot s).pricing = s.pricing ∧ (claimDropped slot s).link = s.link ∧ (claimDropped slot s).drawer = s.drawer ∧ (claimDropped slot s).port = s.port
    ∧ (claimDropped slot s).pending = s.pending ∧ (claimDropped slot s).dataIn = s.dataIn := by
  unfold claimDropped
  repeat' split
  all_goals simp

@[simp] theorem settle_frame (s : State) :
    (settle s).powered = s.powered ∧ (settle s).identity = s.identity ∧ (settle s).day = s.day ∧ (settle s).settings = s.settings
    ∧ (settle s).tickets = s.tickets ∧ (settle s).scale = s.scale ∧ (settle s).weigh = s.weigh ∧ (settle s).pricing = s.pricing
    ∧ (settle s).weighTimer = s.weighTimer ∧ (settle s).payTimer = s.payTimer ∧ (settle s).payOp = s.payOp ∧ (settle s).drawer = s.drawer
    ∧ (settle s).flags = s.flags ∧ (settle s).notices = s.notices ∧ (settle s).port = s.port ∧ (settle s).pending = s.pending ∧ (settle s).dataIn = s.dataIn := by
  simp [settle]

@[simp] theorem writeAnswer_frame (a : List Byte) (s : State) :
    (writeAnswer a s).powered = s.powered ∧ (writeAnswer a s).identity = s.identity ∧ (writeAnswer a s).day = s.day ∧ (writeAnswer a s).settings = s.settings
    ∧ (writeAnswer a s).tickets = s.tickets ∧ (writeAnswer a s).scale = s.scale ∧ (writeAnswer a s).weigh = s.weigh ∧ (writeAnswer a s).pricing = s.pricing
    ∧ (writeAnswer a s).link = s.link ∧ (writeAnswer a s).weighTimer = s.weighTimer ∧ (writeAnswer a s).payTimer = s.payTimer ∧ (writeAnswer a s).payOp = s.payOp
    ∧ (writeAnswer a s).drawer = s.drawer ∧ (writeAnswer a s).printer = s.printer ∧ (writeAnswer a s).flags = s.flags ∧ (writeAnswer a s).notices = s.notices
    ∧ (writeAnswer a s).pending = s.pending ∧ (writeAnswer a s).dataIn = s.dataIn := by
  simp [writeAnswer]

@[simp] theorem releaseSelect_frame (s : State) :
    (releaseSelect s).powered = s.powered ∧ (releaseSelect s).identity = s.identity ∧ (releaseSelect s).day = s.day ∧ (releaseSelect s).settings = s.settings
    ∧ (releaseSelect s).tickets = s.tickets ∧ (releaseSelect s).scale = s.scale ∧ (releaseSelect s).weigh = s.weigh ∧ (releaseSelect s).pricing = s.pricing
    ∧ (releaseSelect s).link = s.link ∧ (releaseSelect s).weighTimer = s.weighTimer ∧ (releaseSelect s).payTimer = s.payTimer ∧ (releaseSelect s).payOp = s.payOp
    ∧ (releaseSelect s).drawer = s.drawer ∧ (releaseSelect s).printer = s.printer ∧ (releaseSelect s).flags = s.flags ∧ (releaseSelect s).notices = s.notices
    ∧ (releaseSelect s).pending = s.pending ∧ (releaseSelect s).dataIn = s.dataIn := by
  simp [releaseSelect]

@[simp] theorem rejectFrame_frame (s : State) :
    (rejectFrame s).powered = s.powered ∧ (rejectFrame s).identity = s.identity ∧ (rejectFrame s).day = s.day ∧ (rejectFrame s).settings = s.settings
    ∧ (rejectFrame s).tickets = s.tickets ∧ (rejectFrame s).scale = s.scale ∧ (rejectFrame s).weigh = s.weigh ∧ (rejectFrame s).pricing = s.pricing
    ∧ (rejectFrame s).link = s.link ∧ (rejectFrame s).weighTimer = s.weighTimer ∧ (rejectFrame s).payTimer = s.payTimer ∧ (rejectFrame s).payOp = s.payOp
    ∧ (rejectFrame s).drawer = s.drawer ∧ (rejectFrame s).printer = s.printer ∧ (rejectFrame s).flags = s.flags ∧ (rejectFrame s).notices = s.notices
    ∧ (rejectFrame s).pending = s.pending ∧ (rejectFrame s).dataIn = s.dataIn := by
  simp [rejectFrame]

@[simp] theorem acceptFrame_frame (l : Nat) (s : State) :
    (acceptFrame l s).powered = s.powered ∧ (acceptFrame l s).identity = s.identity ∧ (acceptFrame l s).day = s.day ∧ (acceptFrame l s).settings = s.settings
    ∧ (acceptFrame l s).tickets = s.tickets ∧ (acceptFrame l s).scale = s.scale ∧ (acceptFrame l s).weigh = s.weigh ∧ (acceptFrame l s).pricing = s.pricing
    ∧ (acceptFrame l s).link = s.link ∧ (acceptFrame l s).weighTimer = s.weighTimer ∧ (acceptFrame l s).payTimer = s.payTimer ∧ (acceptFrame l s).payOp = s.payOp
    ∧ (acceptFrame l s).drawer = s.drawer ∧ (acceptFrame l s).printer = s.printer ∧ (acceptFrame l s).flags = s.flags ∧ (acceptFrame l s).notices = s.notices
    ∧ (acceptFrame l s).pending = s.pending ∧ (acceptFrame l s).dataIn = s.dataIn := by
  simp [acceptFrame]

end Sys2Proof.Machine
end

