-- ==== Sys2Proof/Laws/Holds.lean ====
section
/-! SUPPORT. What custody's leaving this station's slots does to the ticket store: the record in the table, its register
entry, the role filter. -/

namespace Sys2Proof.Machine

/-- The record kept by role or last writer, as the filter tests it (R12). -/
theorem State.keeps_iff (s : State) (r : Record) : s.keeps r = true ↔ s.roleKeeps r := by
  unfold State.keeps State.roleKeeps
  cases s.role with
  | none => simp
  | some role => cases role <;> cases r.life <;> simp [passesFilter]

/-- Only the role, the ID, the record's life and its last writer matter to the filter. -/
theorem State.keeps_congr {s t : State} {r q : Record} (hr : s.role = t.role) (hi : s.myId = t.myId) (hl : r.life = q.life)
    (hw : r.lastWriter = q.lastWriter) : s.keeps r = t.keeps q := by
  simp [State.keeps, hr, hi, hl, hw]

theorem recordBefore_eq (t : TicketNo) : ∀ (l : List Record) (before : Option TicketNo),
    (∃ r ∈ l, r.number = t) →
      recordBefore t before l =
        (((l.takeWhile (fun x => decide (x.number ≠ t))).getLast?).map Record.number).or before
  | [], _ => by simp
  | r :: l, before => by
    intro h
    by_cases e : r.number = t
    · simp [recordBefore, e]
    · have h' : ∃ q ∈ l, q.number = t := by
        obtain ⟨q, hq, hn⟩ := h
        rcases List.mem_cons.mp hq with rfl | hq
        · exact absurd hn e
        · exact ⟨q, hq, hn⟩
      have ih := recordBefore_eq t l (some r.number) h'
      rw [recordBefore, if_neg e, ih, List.takeWhile_cons_of_pos (by simpa using e), List.getLast?_cons]
      cases (l.takeWhile (fun x => decide (x.number ≠ t))).getLast? <;> simp

/-- The record of a ticket after its custody is set in place. -/
theorem findRecord_custody {t : TicketNo} {r : Record} {s : State} (c : Custody) (hf : s.findRecord t = some r) :
    (modifyRecord t (fun x => { x with custody := c }) s).findRecord t = some { r with custody := c } := by
  have hn : r.number = t := by simpa using List.find?_some hf
  simp only [State.findRecord, modifyRecord, State.onTickets] at hf ⊢
  rw [List.find?_map, show ((fun q : Record => decide (q.number = t)) ∘
      fun x => if x.number = t then { x with custody := c } else x) = fun q => decide (q.number = t) by
    funext q; by_cases e : q.number = t <;> simp [e], hf]
  simp [hn]

/-- Custody leaves this station's slots: the record keeps its place where its role or its last writer keeps it, and leaves the
table otherwise (R12, R15). -/
theorem setCustody_leaves {t : TicketNo} {c : Custody} {r : Record} {s : State} (hf : s.findRecord t = some r)
    (ho : r.custody.isOwn = true) (hc : c.isOwn = false) :
    setCustody t c s = if s.roleKeeps r then modifyRecord t (fun x => { x with custody := c }) s
      else removeRecord t (modifyRecord t (fun x => { x with custody := c }) s) := by
  have hk : (modifyRecord t (fun x => { x with custody := c }) s).keeps { r with custody := c } = s.keeps r :=
    State.keeps_congr rfl rfl rfl rfl
  by_cases h : s.roleKeeps r
  · simp [setCustody, hf, ho, hc, applyFilter, findRecord_custody c hf, hk, h, (State.keeps_iff s r).mpr h]
  · have h' : s.keeps r = false := by
      cases e : s.keeps r with
      | false => rfl
      | true => exact absurd ((State.keeps_iff s r).mp e) h
    simp only [setCustody, hf, ho, hc, applyFilter, findRecord_custody c hf, hk, h', Bool.not_false, Bool.and_true,
      Bool.or_self, if_true, if_neg h, Bool.false_eq_true, if_false]

/-- What the ticket store holds once custody has left this station's slots and the register entry has its holder: the terms of
the statements (R12, R15, R17). -/
theorem handedOver_tickets {t : TicketNo} {c : Custody} {r : Record} {s : State} (h : Nat) (hf : s.findRecord t = some r)
    (ho : r.custody.isOwn = true) (hc : c.isOwn = false) :
    (setHolder t h (setCustody t c s)).tickets = s.tickets.handedOver r c h (s.roleKeeps r) := by
  have hn : r.number = t := by simpa using List.find?_some hf
  have hm : ∃ q ∈ s.tickets.table, q.number = t := ⟨r, List.mem_of_find?_eq_some hf, hn⟩
  have hb := recordBefore_eq t (s.tickets.table.map (fun x => if x.number = t then { x with custody := c } else x)) none
    ⟨{ r with custody := c }, by
      obtain ⟨q, hq, _⟩ := hm
      exact List.mem_map.mpr ⟨r, List.mem_of_find?_eq_some hf, by simp [hn]⟩, hn⟩
  have hnum (x : Record) : (if x.number = t then { x with custody := c } else x).number = x.number := by split <;> rfl
  subst hn
  rw [setCustody_leaves hf ho hc]
  by_cases hk : s.roleKeeps r
  · simp only [setHolder, modifyEntry, State.speaksFor, modifyRecord, State.onTickets, Tickets.handedOver,
      hk, not_true_eq_false, false_and, if_false]
    by_cases he : r.number.home = s.tickets.owner <;> by_cases ho : s.tickets.owner = 0 <;> simp [he, ho]
  · have hfilter : ((s.tickets.table.map (fun x => if x.number = r.number then { x with custody := c } else x)).filter
        (fun x => decide (x.number ≠ r.number))) = s.tickets.table.filter (fun x => decide (x.number ≠ r.number)) := by
      induction s.tickets.table with
      | nil => rfl
      | cons x l ih => by_cases e : x.number = r.number <;> simp_all
    have htake : ((s.tickets.table.map (fun x => if x.number = r.number then { x with custody := c } else x)).takeWhile
        (fun x => decide (x.number ≠ r.number))) = s.tickets.table.takeWhile (fun x => decide (x.number ≠ r.number)) := by
      induction s.tickets.table with
      | nil => rfl
      | cons x l ih => by_cases e : x.number = r.number <;> simp_all
    rw [htake, Option.or_none] at hb
    simp only [setHolder, modifyEntry, State.speaksFor, modifyRecord, removeRecord, State.onTickets,
      Tickets.handedOver, hk, not_false_eq_true, true_and, hfilter, hb]
    by_cases he : r.number.home = s.tickets.owner <;> by_cases ho : s.tickets.owner = 0 <;> simp [he, ho]

end Sys2Proof.Machine
end

