-- ==== Sys2Proof/Laws/Port.lean ====
section
/-! SUPPORT. What a command frame does: taken, refused or rejected; and the state its rule sees, field by field. -/

namespace Sys2Proof.Machine

/-- Serial allocation reads the ticket store and the identity alone. -/
theorem allocateFrom_congr {s t : State} (h1 : t.tickets = s.tickets) (h2 : t.identity = s.identity) (fuel n : Nat) :
    allocateFrom t fuel n = allocateFrom s fuel n := by
  have hm : t.myId = s.myId := by simp [State.myId, h2]
  have hl : ∀ k, t.serialLive k = s.serialLive k := by
    intro k; simp [State.serialLive, State.findRecord, State.closedEntry, h1, hm]
  induction fuel generalizing n with
  | zero => rfl
  | succ fuel ih => simp only [allocateFrom, hl, ih]

/-! ### The bits of a frame -/

/-- Eight bits written out and read back are the byte. -/
theorem byte_of_bits : ∀ b : Byte,
    byte (128 * (b.getMsbD 0).toNat + 64 * (b.getMsbD 1).toNat + 32 * (b.getMsbD 2).toNat + 16 * (b.getMsbD 3).toNat
      + 8 * (b.getMsbD 4).toNat + 4 * (b.getMsbD 5).toNat + 2 * (b.getMsbD 6).toNat + (b.getMsbD 7).toNat) = b := by
  decide +revert

theorem wholeBytes_bytesBits (bs : List Byte) : wholeBytes (bytesBits bs) = bs := by
  induction bs with
  | nil => rfl
  | cons b bs ih =>
    have h : bytesBits (b :: bs) = byteBits b ++ bytesBits bs := rfl
    rw [h]
    simp only [byteBits, List.cons_append, List.nil_append, wholeBytes, ih, byte_of_bits]

theorem bytesBits_length (bs : List Byte) : (bytesBits bs).length = 8 * bs.length := by
  induction bs with
  | nil => rfl
  | cons b bs ih =>
    have h : bytesBits (b :: bs) = byteBits b ++ bytesBits bs := rfl
    rw [h, List.length_append, ih]
    simp [byteBits]
    omega

theorem commandBits_length (code : Nat) (ps : List Byte) : (commandBits code ps).length = 8 * (ps.length + 2) := by
  simp only [commandBits, bytesBits_length, List.length_append, List.length_cons, List.length_nil]
  omega

/-- Every assigned code is a byte that holds a bit of each kind. -/
theorem commandCodes_bits : ∀ c ∈ commandCodes,
    (byte c).toNat = c ∧ true ∈ byteBits (byte c) ∧ false ∈ byteBits (byte c) := by decide

/-- The tests of R196 pass a frame spelt by the table. -/
theorem frameParams_commandBits {code : Nat} {ps : List Byte} (hc : code ∈ commandCodes) (hl : ps.length ≤ 48) :
    frameParams (commandBits code ps) = some (code, ps) := by
  obtain ⟨h1, h2, h3⟩ := commandCodes_bits code hc
  have hn : (byte ps.length).toNat = ps.length := by simp [byte]; omega
  have hm : ∀ x, x ∈ byteBits (byte code) → x ∈ commandBits code ps := by
    intro x hx
    simp only [commandBits, bytesBits, List.cons_append, List.flatMap_cons, List.mem_append]
    exact Or.inl hx
  have hw : wholeBytes (commandBits code ps) = byte code :: byte ps.length :: ps := wholeBytes_bytesBits _
  rw [frameParams, hw]
  simp only [hn, commandBits_length, Config.maxParams, hl, hm _ h2, hm _ h3, h1, hc, and_self, if_true]

/-- More than 48 parameters fail a test of R196. -/
theorem frameParams_long {code : Nat} {ps : List Byte} (hl : 48 < ps.length) :
    frameParams (commandBits code ps) = none := by
  have hw : wholeBytes (commandBits code ps) = byte code :: byte ps.length :: ps := wholeBytes_bytesBits _
  rw [frameParams, hw]
  have : ¬ (8 * (ps.length + 2) = 8 * ((byte ps.length).toNat + 2) ∧ (byte ps.length).toNat ≤ 48) := by omega
  simp only [commandBits_length, Config.maxParams]
  rw [if_neg (fun h => this ⟨h.1, h.2.1⟩)]

/-- What goes out depends on the number of bits clocked in. -/
theorem frameIn_release {bits bits' : List Bool} (h : bits.length = bits'.length) (s : State) :
    releaseSelect (frameIn bits s) = releaseSelect (frameIn bits' s) := by
  have hp : ∀ (c : List Byte) (p : Port),
      { p.frameIn c bits with select := false, frame := .none } = { p.frameIn c bits' with select := false, frame := .none } := by
    intro c p
    simp only [Port.frameIn, Port.clockIn, h]
  simp only [releaseSelect, frameIn, State.onPort]
  rw [hp]

/-- The bits of a frame that begins are those clocked in. -/
theorem frameIn_begins {bits : List Bool} {s : State} (h : s.port.frame.begins = true) :
    ∃ copied timer, (frameIn bits s).port.frame = .running copied bits timer := by
  cases hf : s.port.frame with
  | none => exact ⟨s.shiftedOut, Config.selectMs, by simp [frameIn, Port.frameIn, hf, Port.activate, Port.clockIn, PortFrame.clock]⟩
  | running c b t =>
    cases b with
    | nil => exact ⟨c, t, by simp [frameIn, Port.frameIn, hf, Port.clockIn, PortFrame.clock]⟩
    | cons x xs => simp [hf, PortFrame.begins] at h
  | abandoned => simp [hf, PortFrame.begins] at h
  | notAFrame => simp [hf, PortFrame.begins] at h

/-! ### The state an accepted command's rule sees -/

/-- Only the port changes. -/
theorem State.acceptedOpen_shape (l : Nat) (s : State) : ∃ p, s.acceptedOpen l = { s with port := p } := by
  simp only [State.acceptedOpen, acceptFrame, releaseSelect, frameIn, State.onPort]
  exact ⟨_, rfl⟩

/-- Only the port and the header load change. -/
theorem State.accepted_shape (l : Nat) (s : State) :
    ∃ p, s.accepted l = { s with printer := { s.printer with load := none }, port := p } := by
  obtain ⟨p, h⟩ := s.acceptedOpen_shape l
  refine ⟨p, ?_⟩
  show abandonLoad (s.acceptedOpen l) = _
  rw [h]
  rfl

@[simp] theorem State.accepted_powered (l : Nat) (s : State) : (s.accepted l).powered = s.powered := by
  obtain ⟨_, h⟩ := s.accepted_shape l; rw [h]
@[simp] theorem State.accepted_identity (l : Nat) (s : State) : (s.accepted l).identity = s.identity := by
  obtain ⟨_, h⟩ := s.accepted_shape l; rw [h]
@[simp] theorem State.accepted_day (l : Nat) (s : State) : (s.accepted l).day = s.day := by
  obtain ⟨_, h⟩ := s.accepted_shape l; rw [h]
@[simp] theorem State.accepted_settings (l : Nat) (s : State) : (s.accepted l).settings = s.settings := by
  obtain ⟨_, h⟩ := s.accepted_shape l; rw [h]
@[simp] theorem State.accepted_tickets (l : Nat) (s : State) : (s.accepted l).tickets = s.tickets := by
  obtain ⟨_, h⟩ := s.accepted_shape l; rw [h]
@[simp] theorem State.accepted_scale (l : Nat) (s : State) : (s.accepted l).scale = s.scale := by
  obtain ⟨_, h⟩ := s.accepted_shape l; rw [h]
@[simp] theorem State.accepted_weigh (l : Nat) (s : State) : (s.accepted l).weigh = s.weigh := by
  obtain ⟨_, h⟩ := s.accepted_shape l; rw [h]
@[simp] theorem State.accepted_pricing (l : Nat) (s : State) : (s.accepted l).pricing = s.pricing := by
  obtain ⟨_, h⟩ := s.accepted_shape l; rw [h]
@[simp] theorem State.accepted_link (l : Nat) (s : State) : (s.accepted l).link = s.link := by
  obtain ⟨_, h⟩ := s.accepted_shape l; rw [h]
@[simp] theorem State.accepted_weighTimer (l : Nat) (s : State) : (s.accepted l).weighTimer = s.weighTimer := by
  obtain ⟨_, h⟩ := s.accepted_shape l; rw [h]
@[simp] theorem State.accepted_payTimer (l : Nat) (s : State) : (s.accepted l).payTimer = s.payTimer := by
  obtain ⟨_, h⟩ := s.accepted_shape l; rw [h]
@[simp] theorem State.accepted_payOp (l : Nat) (s : State) : (s.accepted l).payOp = s.payOp := by
  obtain ⟨_, h⟩ := s.accepted_shape l; rw [h]
@[simp] theorem State.accepted_drawer (l : Nat) (s : State) : (s.accepted l).drawer = s.drawer := by
  obtain ⟨_, h⟩ := s.accepted_shape l; rw [h]
@[simp] theorem State.accepted_flags (l : Nat) (s : State) : (s.accepted l).flags = s.flags := by
  obtain ⟨_, h⟩ := s.accepted_shape l; rw [h]
@[simp] theorem State.accepted_notices (l : Nat) (s : State) : (s.accepted l).notices = s.notices := by
  obtain ⟨_, h⟩ := s.accepted_shape l; rw [h]
@[simp] theorem State.accepted_pending (l : Nat) (s : State) : (s.accepted l).pending = s.pending := by
  obtain ⟨_, h⟩ := s.accepted_shape l; rw [h]
@[simp] theorem State.accepted_dataIn (l : Nat) (s : State) : (s.accepted l).dataIn = s.dataIn := by
  obtain ⟨_, h⟩ := s.accepted_shape l; rw [h]
@[simp] theorem State.accepted_myId (l : Nat) (s : State) : (s.accepted l).myId = s.myId := by
  obtain ⟨_, h⟩ := s.accepted_shape l; rw [h]; rfl
@[simp] theorem State.accepted_role (l : Nat) (s : State) : (s.accepted l).role = s.role := by
  obtain ⟨_, h⟩ := s.accepted_shape l; rw [h]; rfl
@[simp] theorem State.accepted_waitId (l : Nat) (s : State) : (s.accepted l).waitId = s.waitId := by
  obtain ⟨_, h⟩ := s.accepted_shape l; rw [h]; rfl
@[simp] theorem State.accepted_hasWeigh (l : Nat) (s : State) : (s.accepted l).hasWeigh = s.hasWeigh := by
  obtain ⟨_, h⟩ := s.accepted_shape l; rw [h]; rfl
@[simp] theorem State.accepted_hasPay (l : Nat) (s : State) : (s.accepted l).hasPay = s.hasPay := by
  obtain ⟨_, h⟩ := s.accepted_shape l; rw [h]; rfl
@[simp] theorem State.accepted_anyStop (l : Nat) (s : State) : (s.accepted l).anyStop = s.anyStop := by
  obtain ⟨_, h⟩ := s.accepted_shape l; rw [h]; rfl
@[simp] theorem State.accepted_anyWarn (l : Nat) (s : State) : (s.accepted l).anyWarn = s.anyWarn := by
  obtain ⟨_, h⟩ := s.accepted_shape l; rw [h]; rfl
@[simp] theorem State.accepted_printRoom (l : Nat) (s : State) : (s.accepted l).printRoom = s.printRoom := by
  obtain ⟨_, h⟩ := s.accepted_shape l; rw [h]; rfl
@[simp] theorem State.accepted_tableRoom (l : Nat) (s : State) : (s.accepted l).tableRoom = s.tableRoom := by
  obtain ⟨_, h⟩ := s.accepted_shape l; rw [h]; rfl
@[simp] theorem State.accepted_registerRoom (l : Nat) (s : State) : (s.accepted l).registerRoom = s.registerRoom := by
  obtain ⟨_, h⟩ := s.accepted_shape l; rw [h]; rfl
@[simp] theorem State.accepted_receiptBlocked (l : Nat) (s : State) : (s.accepted l).receiptBlocked = s.receiptBlocked := by
  obtain ⟨_, h⟩ := s.accepted_shape l; rw [h]; rfl
@[simp] theorem State.accepted_freePlaces (l : Nat) (s : State) : (s.accepted l).freePlaces = s.freePlaces := by
  obtain ⟨_, h⟩ := s.accepted_shape l; rw [h]; rfl
@[simp] theorem State.accepted_occupied (l : Nat) (s : State) : (s.accepted l).occupied = s.occupied := by
  obtain ⟨_, h⟩ := s.accepted_shape l; rw [h]; rfl
@[simp] theorem State.accepted_linkHolds (l : Nat) (s : State) : (s.accepted l).linkHolds = s.linkHolds := by
  obtain ⟨_, h⟩ := s.accepted_shape l; rw [h]; rfl
@[simp] theorem State.accepted_offered (l : Nat) (s : State) : (s.accepted l).offered = s.offered := by
  obtain ⟨_, h⟩ := s.accepted_shape l; rw [h]; rfl
@[simp] theorem State.accepted_allocated (l : Nat) (s : State) : (s.accepted l).allocated = s.allocated := by
  simp only [State.allocated, State.accepted_tickets]
  exact allocateFrom_congr (State.accepted_tickets l s) (State.accepted_identity l s) _ _
@[simp] theorem State.accepted_openSerials (l : Nat) (s : State) : (s.accepted l).openSerials = s.openSerials := by
  obtain ⟨_, h⟩ := s.accepted_shape l; rw [h]; rfl
@[simp] theorem State.accepted_announceValues (l : Nat) (s : State) : (s.accepted l).announceValues = s.announceValues := by
  obtain ⟨_, h⟩ := s.accepted_shape l; rw [h]; rfl
@[simp] theorem State.accepted_findRecord (l : Nat) (t : TicketNo) (s : State) : (s.accepted l).findRecord t = s.findRecord t := by
  obtain ⟨_, h⟩ := s.accepted_shape l; rw [h]; rfl
@[simp] theorem State.accepted_regEntry (l : Nat) (t : TicketNo) (s : State) : (s.accepted l).regEntry t = s.regEntry t := by
  obtain ⟨_, h⟩ := s.accepted_shape l; rw [h]; rfl
@[simp] theorem State.accepted_closedEntry (l : Nat) (t : TicketNo) (s : State) : (s.accepted l).closedEntry t = s.closedEntry t := by
  obtain ⟨_, h⟩ := s.accepted_shape l; rw [h]; rfl
@[simp] theorem State.accepted_isClosed (l : Nat) (t : TicketNo) (s : State) : (s.accepted l).isClosed t = s.isClosed t := by
  obtain ⟨_, h⟩ := s.accepted_shape l; rw [h]; rfl
@[simp] theorem State.accepted_stepOf (l : Nat) (t : TicketNo) (s : State) : (s.accepted l).stepOf t = s.stepOf t := by
  obtain ⟨_, h⟩ := s.accepted_shape l; rw [h]; rfl
@[simp] theorem State.accepted_slotBusy (l : Nat) (t : SlotId) (s : State) : (s.accepted l).slotBusy t = s.slotBusy t := by
  obtain ⟨_, h⟩ := s.accepted_shape l; rw [h]; rfl
@[simp] theorem State.accepted_grade (l : Nat) (t : Nat) (s : State) : (s.accepted l).grade t = s.grade t := by
  obtain ⟨_, h⟩ := s.accepted_shape l; rw [h]; rfl
@[simp] theorem State.accepted_gradeTotals (l : Nat) (t : Nat) (s : State) : (s.accepted l).gradeTotals t = s.gradeTotals t := by
  obtain ⟨_, h⟩ := s.accepted_shape l; rw [h]; rfl
@[simp] theorem State.accepted_latched (l : Nat) (t : Flag) (s : State) : (s.accepted l).latched t = s.latched t := by
  obtain ⟨_, h⟩ := s.accepted_shape l; rw [h]; rfl
@[simp] theorem State.accepted_claimRoute (l : Nat) (t : TicketNo) (s : State) : (s.accepted l).claimRoute t = s.claimRoute t := by
  obtain ⟨_, h⟩ := s.accepted_shape l; rw [h]; rfl
@[simp] theorem State.accepted_peer (l : Nat) (t : Nat) (s : State) : (s.accepted l).peer t = s.peer t := by
  obtain ⟨_, h⟩ := s.accepted_shape l; rw [h]; rfl
@[simp] theorem State.accepted_present (l : Nat) (t : Nat) (s : State) : (s.accepted l).present t = s.present t := by
  obtain ⟨_, h⟩ := s.accepted_shape l; rw [h]; rfl
@[simp] theorem State.accepted_voidSlot (l : Nat) (t : TicketNo) (s : State) : (s.accepted l).voidSlot t = s.voidSlot t := by
  obtain ⟨_, h⟩ := s.accepted_shape l; rw [h]; rfl
@[simp] theorem accepted_gatePasses (l : Nat) (o : GatedOp) (s : State) : gatePasses o (s.accepted l) = gatePasses o s := by
  obtain ⟨_, h⟩ := s.accepted_shape l; rw [h]; rfl
@[simp] theorem accepted_condition (l : Nat) (f : Flag) (s : State) : condition f (s.accepted l) = condition f s := by
  obtain ⟨_, h⟩ := s.accepted_shape l; rw [h]; cases f <;> rfl

@[simp] theorem State.acceptedOpen_powered (l : Nat) (s : State) : (s.acceptedOpen l).powered = s.powered := by
  obtain ⟨_, h⟩ := s.acceptedOpen_shape l; rw [h]
@[simp] theorem State.acceptedOpen_identity (l : Nat) (s : State) : (s.acceptedOpen l).identity = s.identity := by
  obtain ⟨_, h⟩ := s.acceptedOpen_shape l; rw [h]
@[simp] theorem State.acceptedOpen_day (l : Nat) (s : State) : (s.acceptedOpen l).day = s.day := by
  obtain ⟨_, h⟩ := s.acceptedOpen_shape l; rw [h]
@[simp] theorem State.acceptedOpen_settings (l : Nat) (s : State) : (s.acceptedOpen l).settings = s.settings := by
  obtain ⟨_, h⟩ := s.acceptedOpen_shape l; rw [h]
@[simp] theorem State.acceptedOpen_tickets (l : Nat) (s : State) : (s.acceptedOpen l).tickets = s.tickets := by
  obtain ⟨_, h⟩ := s.acceptedOpen_shape l; rw [h]
@[simp] theorem State.acceptedOpen_scale (l : Nat) (s : State) : (s.acceptedOpen l).scale = s.scale := by
  obtain ⟨_, h⟩ := s.acceptedOpen_shape l; rw [h]
@[simp] theorem State.acceptedOpen_weigh (l : Nat) (s : State) : (s.acceptedOpen l).weigh = s.weigh := by
  obtain ⟨_, h⟩ := s.acceptedOpen_shape l; rw [h]
@[simp] theorem State.acceptedOpen_pricing (l : Nat) (s : State) : (s.acceptedOpen l).pricing = s.pricing := by
  obtain ⟨_, h⟩ := s.acceptedOpen_shape l; rw [h]
@[simp] theorem State.acceptedOpen_link (l : Nat) (s : State) : (s.acceptedOpen l).link = s.link := by
  obtain ⟨_, h⟩ := s.acceptedOpen_shape l; rw [h]
@[simp] theorem State.acceptedOpen_weighTimer (l : Nat) (s : State) : (s.acceptedOpen l).weighTimer = s.weighTimer := by
  obtain ⟨_, h⟩ := s.acceptedOpen_shape l; rw [h]
@[simp] theorem State.acceptedOpen_payTimer (l : Nat) (s : State) : (s.acceptedOpen l).payTimer = s.payTimer := by
  obtain ⟨_, h⟩ := s.acceptedOpen_shape l; rw [h]
@[simp] theorem State.acceptedOpen_payOp (l : Nat) (s : State) : (s.acceptedOpen l).payOp = s.payOp := by
  obtain ⟨_, h⟩ := s.acceptedOpen_shape l; rw [h]
@[simp] theorem State.acceptedOpen_drawer (l : Nat) (s : State) : (s.acceptedOpen l).drawer = s.drawer := by
  obtain ⟨_, h⟩ := s.acceptedOpen_shape l; rw [h]
@[simp] theorem State.acceptedOpen_flags (l : Nat) (s : State) : (s.acceptedOpen l).flags = s.flags := by
  obtain ⟨_, h⟩ := s.acceptedOpen_shape l; rw [h]
@[simp] theorem State.acceptedOpen_notices (l : Nat) (s : State) : (s.acceptedOpen l).notices = s.notices := by
  obtain ⟨_, h⟩ := s.acceptedOpen_shape l; rw [h]
@[simp] theorem State.acceptedOpen_pending (l : Nat) (s : State) : (s.acceptedOpen l).pending = s.pending := by
  obtain ⟨_, h⟩ := s.acceptedOpen_shape l; rw [h]
@[simp] theorem State.acceptedOpen_dataIn (l : Nat) (s : State) : (s.acceptedOpen l).dataIn = s.dataIn := by
  obtain ⟨_, h⟩ := s.acceptedOpen_shape l; rw [h]
@[simp] theorem State.acceptedOpen_myId (l : Nat) (s : State) : (s.acceptedOpen l).myId = s.myId := by
  obtain ⟨_, h⟩ := s.acceptedOpen_shape l; rw [h]; rfl
@[simp] theorem State.acceptedOpen_role (l : Nat) (s : State) : (s.acceptedOpen l).role = s.role := by
  obtain ⟨_, h⟩ := s.acceptedOpen_shape l; rw [h]; rfl
@[simp] theorem State.acceptedOpen_waitId (l : Nat) (s : State) : (s.acceptedOpen l).waitId = s.waitId := by
  obtain ⟨_, h⟩ := s.acceptedOpen_shape l; rw [h]; rfl
@[simp] theorem State.acceptedOpen_hasWeigh (l : Nat) (s : State) : (s.acceptedOpen l).hasWeigh = s.hasWeigh := by
  obtain ⟨_, h⟩ := s.acceptedOpen_shape l; rw [h]; rfl
@[simp] theorem State.acceptedOpen_hasPay (l : Nat) (s : State) : (s.acceptedOpen l).hasPay = s.hasPay := by
  obtain ⟨_, h⟩ := s.acceptedOpen_shape l; rw [h]; rfl
@[simp] theorem State.acceptedOpen_anyStop (l : Nat) (s : State) : (s.acceptedOpen l).anyStop = s.anyStop := by
  obtain ⟨_, h⟩ := s.acceptedOpen_shape l; rw [h]; rfl
@[simp] theorem State.acceptedOpen_anyWarn (l : Nat) (s : State) : (s.acceptedOpen l).anyWarn = s.anyWarn := by
  obtain ⟨_, h⟩ := s.acceptedOpen_shape l; rw [h]; rfl
@[simp] theorem State.acceptedOpen_printRoom (l : Nat) (s : State) : (s.acceptedOpen l).printRoom = s.printRoom := by
  obtain ⟨_, h⟩ := s.acceptedOpen_shape l; rw [h]; rfl
@[simp] theorem State.acceptedOpen_tableRoom (l : Nat) (s : State) : (s.acceptedOpen l).tableRoom = s.tableRoom := by
  obtain ⟨_, h⟩ := s.acceptedOpen_shape l; rw [h]; rfl
@[simp] theorem State.acceptedOpen_registerRoom (l : Nat) (s : State) : (s.acceptedOpen l).registerRoom = s.registerRoom := by
  obtain ⟨_, h⟩ := s.acceptedOpen_shape l; rw [h]; rfl
@[simp] theorem State.acceptedOpen_receiptBlocked (l : Nat) (s : State) : (s.acceptedOpen l).receiptBlocked = s.receiptBlocked := by
  obtain ⟨_, h⟩ := s.acceptedOpen_shape l; rw [h]; rfl
@[simp] theorem State.acceptedOpen_freePlaces (l : Nat) (s : State) : (s.acceptedOpen l).freePlaces = s.freePlaces := by
  obtain ⟨_, h⟩ := s.acceptedOpen_shape l; rw [h]; rfl
@[simp] theorem State.acceptedOpen_occupied (l : Nat) (s : State) : (s.acceptedOpen l).occupied = s.occupied := by
  obtain ⟨_, h⟩ := s.acceptedOpen_shape l; rw [h]; rfl
@[simp] theorem State.acceptedOpen_linkHolds (l : Nat) (s : State) : (s.acceptedOpen l).linkHolds = s.linkHolds := by
  obtain ⟨_, h⟩ := s.acceptedOpen_shape l; rw [h]; rfl
@[simp] theorem State.acceptedOpen_offered (l : Nat) (s : State) : (s.acceptedOpen l).offered = s.offered := by
  obtain ⟨_, h⟩ := s.acceptedOpen_shape l; rw [h]; rfl
@[simp] theorem State.acceptedOpen_allocated (l : Nat) (s : State) : (s.acceptedOpen l).allocated = s.allocated := by
  simp only [State.allocated, State.acceptedOpen_tickets]
  exact allocateFrom_congr (State.acceptedOpen_tickets l s) (State.acceptedOpen_identity l s) _ _
@[simp] theorem State.acceptedOpen_openSerials (l : Nat) (s : State) : (s.acceptedOpen l).openSerials = s.openSerials := by
  obtain ⟨_, h⟩ := s.acceptedOpen_shape l; rw [h]; rfl
@[simp] theorem State.acceptedOpen_announceValues (l : Nat) (s : State) : (s.acceptedOpen l).announceValues = s.announceValues := by
  obtain ⟨_, h⟩ := s.acceptedOpen_shape l; rw [h]; rfl
@[simp] theorem State.acceptedOpen_findRecord (l : Nat) (t : TicketNo) (s : State) : (s.acceptedOpen l).findRecord t = s.findRecord t := by
  obtain ⟨_, h⟩ := s.acceptedOpen_shape l; rw [h]; rfl
@[simp] theorem State.acceptedOpen_regEntry (l : Nat) (t : TicketNo) (s : State) : (s.acceptedOpen l).regEntry t = s.regEntry t := by
  obtain ⟨_, h⟩ := s.acceptedOpen_shape l; rw [h]; rfl
@[simp] theorem State.acceptedOpen_closedEntry (l : Nat) (t : TicketNo) (s : State) : (s.acceptedOpen l).closedEntry t = s.closedEntry t := by
  obtain ⟨_, h⟩ := s.acceptedOpen_shape l; rw [h]; rfl
@[simp] theorem State.acceptedOpen_isClosed (l : Nat) (t : TicketNo) (s : State) : (s.acceptedOpen l).isClosed t = s.isClosed t := by
  obtain ⟨_, h⟩ := s.acceptedOpen_shape l; rw [h]; rfl
@[simp] theorem State.acceptedOpen_stepOf (l : Nat) (t : TicketNo) (s : State) : (s.acceptedOpen l).stepOf t = s.stepOf t := by
  obtain ⟨_, h⟩ := s.acceptedOpen_shape l; rw [h]; rfl
@[simp] theorem State.acceptedOpen_slotBusy (l : Nat) (t : SlotId) (s : State) : (s.acceptedOpen l).slotBusy t = s.slotBusy t := by
  obtain ⟨_, h⟩ := s.acceptedOpen_shape l; rw [h]; rfl
@[simp] theorem State.acceptedOpen_grade (l : Nat) (t : Nat) (s : State) : (s.acceptedOpen l).grade t = s.grade t := by
  obtain ⟨_, h⟩ := s.acceptedOpen_shape l; rw [h]; rfl
@[simp] theorem State.acceptedOpen_gradeTotals (l : Nat) (t : Nat) (s : State) : (s.acceptedOpen l).gradeTotals t = s.gradeTotals t := by
  obtain ⟨_, h⟩ := s.acceptedOpen_shape l; rw [h]; rfl
@[simp] theorem State.acceptedOpen_latched (l : Nat) (t : Flag) (s : State) : (s.acceptedOpen l).latched t = s.latched t := by
  obtain ⟨_, h⟩ := s.acceptedOpen_shape l; rw [h]; rfl
@[simp] theorem State.acceptedOpen_claimRoute (l : Nat) (t : TicketNo) (s : State) : (s.acceptedOpen l).claimRoute t = s.claimRoute t := by
  obtain ⟨_, h⟩ := s.acceptedOpen_shape l; rw [h]; rfl
@[simp] theorem State.acceptedOpen_peer (l : Nat) (t : Nat) (s : State) : (s.acceptedOpen l).peer t = s.peer t := by
  obtain ⟨_, h⟩ := s.acceptedOpen_shape l; rw [h]; rfl
@[simp] theorem State.acceptedOpen_present (l : Nat) (t : Nat) (s : State) : (s.acceptedOpen l).present t = s.present t := by
  obtain ⟨_, h⟩ := s.acceptedOpen_shape l; rw [h]; rfl
@[simp] theorem State.acceptedOpen_voidSlot (l : Nat) (t : TicketNo) (s : State) : (s.acceptedOpen l).voidSlot t = s.voidSlot t := by
  obtain ⟨_, h⟩ := s.acceptedOpen_shape l; rw [h]; rfl
@[simp] theorem acceptedOpen_gatePasses (l : Nat) (o : GatedOp) (s : State) : gatePasses o (s.acceptedOpen l) = gatePasses o s := by
  obtain ⟨_, h⟩ := s.acceptedOpen_shape l; rw [h]; rfl
@[simp] theorem acceptedOpen_condition (l : Nat) (f : Flag) (s : State) : condition f (s.acceptedOpen l) = condition f s := by
  obtain ⟨_, h⟩ := s.acceptedOpen_shape l; rw [h]; cases f <;> rfl

@[simp] theorem State.accepted_printer (l : Nat) (s : State) :
    (s.accepted l).printer = { s.printer with load := none } := by
  obtain ⟨_, h⟩ := s.accepted_shape l; rw [h]

@[simp] theorem State.acceptedOpen_printer (l : Nat) (s : State) : (s.acceptedOpen l).printer = s.printer := by
  obtain ⟨_, h⟩ := s.acceptedOpen_shape l; rw [h]

/-! ### The outcomes of a frame -/

/-- Select's release at the end of a frame that is taken. -/
theorem endFrame_taken {code : Nat} {ps : List Byte} {s : State} (h : s.takes ps.length) (hc : code ∈ commandCodes)
    (act : State → State) :
    endFrame (commandBits code ps) act s = act (s.acceptedOpen ps.length) := by
  obtain ⟨_, hl, hb⟩ := h
  obtain ⟨c, t, hf⟩ := frameIn_begins (bits := commandBits code ps) hb
  unfold endFrame
  simp only [hf, frameParams_commandBits hc hl, State.acceptedOpen]
  rw [frameIn_release (bits' := List.replicate (8 * (ps.length + 2)) false) (by simp [commandBits_length])]

/-- The frame is rejected: PORT ERROR is set. -/
theorem endFrame_rejected {code : Nat} {ps : List Byte} {s : State}
    (h : s.port.frame = .abandoned ∨ s.port.frame.begins = true ∧ 48 < ps.length) (act : State → State) :
    endFrame (commandBits code ps) act s = rejectFrame (releaseSelect (frameIn (commandBits code ps) s)) := by
  rcases h with h | ⟨hb, hl⟩
  · have : (frameIn (commandBits code ps) s).port.frame = .abandoned := by
      simp [frameIn, Port.frameIn, h, Port.clockIn, PortFrame.clock]
    unfold endFrame
    simp only [this]
  · obtain ⟨c, t, hf⟩ := frameIn_begins (bits := commandBits code ps) hb
    unfold endFrame
    simp only [hf, frameParams_long hl]

/-- A command that the acceptance table passes: its own rule's answer is written. -/
theorem command_taken {a : Acceptance} {ps : List Byte} {s : State} (h : s.takes ps.length) (hc : a.code ∈ commandCodes)
    (ha : a.refusal ps.length (s.accepted ps.length) = none) (body : State → Reply) :
    command a ps body s = (body (s.accepted ps.length)).1.answered (body (s.accepted ps.length)).2 := by
  unfold command powered
  rw [if_pos h.1, endFrame_taken h hc]
  have he : abandonLoad (s.acceptedOpen ps.length) = s.accepted ps.length := rfl
  rw [he]
  simp only [actOn, ha]
  rfl

/-- A command that the acceptance table refuses: only the refusal is written. -/
theorem command_refused {a : Acceptance} {ps : List Byte} {s : State} {r : Result} (h : s.takes ps.length)
    (hc : a.code ∈ commandCodes) (ha : a.refusal ps.length (s.accepted ps.length) = some r) (body : State → Reply) :
    command a ps body s = (s.accepted ps.length).answered [byte r.code] := by
  unfold command powered
  rw [if_pos h.1, endFrame_taken h hc]
  have he : abandonLoad (s.acceptedOpen ps.length) = s.accepted ps.length := rfl
  rw [he]
  simp only [actOn, ha]
  rfl

/-- The acceptance table's answer depends on the role, RESTARTED, the day state and the length alone. -/
theorem Acceptance.refusal_accepted (a : Acceptance) (n l : Nat) (s : State) :
    a.refusal n (s.accepted l) = a.refusal n s := by
  obtain ⟨_, h⟩ := s.accepted_shape l; rw [h]; rfl

end Sys2Proof.Machine
end

