-- ==== Sys2Proof/Laws/Scale.lean ====
section
/-! SUPPORT. What a sample does to the scale unit: the last sample, the window, the stability test and the deck condition,
and the context that a capture opens. -/

namespace Sys2Proof.Machine

/-- A sample on its arrival changes the scale unit alone (R28, R32). -/
theorem takeSample_eq (st : SampleStatus) (raw : Int) (s : State) :
    takeSample st raw s = { s with scale := s.sampled st raw } := rfl

@[simp] theorem State.sampled_zero (st : SampleStatus) (raw : Int) (s : State) :
    (s.sampled st raw).zero = s.scale.zero := rfl
@[simp] theorem State.sampled_deckClear (st : SampleStatus) (raw : Int) (s : State) :
    (s.sampled st raw).deckClear = s.scale.deckClear := rfl
@[simp] theorem State.sampled_captured (st : SampleStatus) (raw : Int) (s : State) :
    (s.sampled st raw).captured = s.scale.captured := rfl
@[simp] theorem State.sampled_context (st : SampleStatus) (raw : Int) (s : State) :
    (s.sampled st raw).context = s.scale.context := rfl
@[simp] theorem State.sampled_inForce (st : SampleStatus) (raw : Int) (s : State) :
    (s.sampled st raw).inForce = s.settings.toScaleItems := rfl

/-- The window that the window step makes is the one the statements speak of (R35). -/
theorem slide_eq_windowWith (raw : Int) (good : Bool) (c : CaptureContext) (s : State) :
    slide s.settings.windowLength ⟨raw, good⟩ c.window = s.windowWith raw good c := rfl

theorem windowSum_eq (raw : Int) (c : CaptureContext) (s : State) :
    windowSum (s.windowWith raw true c) = s.windowSumWith raw c := rfl

theorem rawMax_le_iff (b : Int) : ∀ (l : List Int) (a : Int), rawMax a l ≤ b ↔ a ≤ b ∧ ∀ x ∈ l, x ≤ b
  | [], a => by simp [rawMax]
  | y :: l, a => by
    have h := rawMax_le_iff b l (max a y)
    simp only [rawMax, List.foldl_cons] at h ⊢
    rw [h]
    simp only [Int.max_le, List.mem_cons, forall_eq_or_imp, and_assoc]

theorem le_rawMin_iff (b : Int) : ∀ (l : List Int) (a : Int), b ≤ rawMin a l ↔ b ≤ a ∧ ∀ x ∈ l, b ≤ x
  | [], a => by simp [rawMin]
  | y :: l, a => by
    have h := le_rawMin_iff b l (min a y)
    simp only [rawMin, List.foldl_cons] at h ⊢
    rw [h]
    simp only [Int.le_min, List.mem_cons, forall_eq_or_imp, and_assoc]

/-- The stability test, stated by pairs: full, every sample good, no two further apart than the motion band (R35). -/
theorem windowPasses_iff (m band : Nat) (l : List WindowSample) (h : l ≠ []) :
    windowPasses m band l = true ↔
      m ≤ l.length ∧ (∀ x ∈ l, x.good = true) ∧ ∀ x ∈ l, ∀ y ∈ l, x.raw - y.raw ≤ band := by
  obtain ⟨w, rest, rfl⟩ := List.exists_cons_of_ne_nil h
  have spread : rawMax w.raw (rest.map WindowSample.raw) - rawMin w.raw (rest.map WindowSample.raw) ≤ band ↔
      ∀ x ∈ w :: rest, ∀ y ∈ w :: rest, x.raw - y.raw ≤ (band : Int) := by
    have hi := rawMax_le_iff (rawMin w.raw (rest.map WindowSample.raw) + band) (rest.map WindowSample.raw) w.raw
    have hj (b : Int) := le_rawMin_iff b (rest.map WindowSample.raw) w.raw
    rw [show (rawMax w.raw (rest.map WindowSample.raw) - rawMin w.raw (rest.map WindowSample.raw) ≤ band ↔
        rawMax w.raw (rest.map WindowSample.raw) ≤ rawMin w.raw (rest.map WindowSample.raw) + band) by omega, hi]
    have lower (a : Int) : a ≤ rawMin w.raw (rest.map WindowSample.raw) + band ↔ ∀ y ∈ w :: rest, a - y.raw ≤ band := by
      rw [show (a ≤ rawMin w.raw (rest.map WindowSample.raw) + band ↔
          a - band ≤ rawMin w.raw (rest.map WindowSample.raw)) by omega, hj]
      simp only [List.mem_map, forall_exists_index, and_imp, forall_apply_eq_imp_iff₂, List.mem_cons, forall_eq_or_imp]
      constructor <;> rintro ⟨h1, h2⟩ <;> exact ⟨by omega, fun y hy => by have := h2 y hy; omega⟩
    simp only [lower, List.mem_map, forall_exists_index, and_imp, forall_apply_eq_imp_iff₂]
    simp only [List.mem_cons, forall_eq_or_imp]
  simp only [windowPasses, List.map_cons, Bool.and_eq_true, decide_eq_true_eq, List.all_eq_true, spread, and_assoc]

/-- What a window step does to the context while its window does not pass (R35). -/
theorem windowStep_short (w : WindowSample) (c : CaptureContext) (s : State) (hc : s.scale.context = some c)
    (h : windowPasses s.scale.inForce.windowLength s.scale.inForce.motionBand
      (slide s.scale.inForce.windowLength w c.window) = false) :
    windowStep w s = s.onScale (fun u =>
      { u with context := some { c with window := slide s.scale.inForce.windowLength w c.window } }) := by
  simp [windowStep, hc, h]

/-- The context that a capture opens: empty, its timer at the capture timeout in force (R32, R35). -/
@[simp] theorem openCapture_scale (k : CaptureKind) (s : State) :
    (openCapture k s).scale = { s.scale with
      context := some { kind := k, window := [], timer := 1000 * s.scale.inForce.captureTimeout, stableSeen := false } } :=
  rfl

end Sys2Proof.Machine
end

