-- ==== Sys2Proof/WellFormed.lean ====
section
/-! DEFINITION. When a command's operands are ones that the spec's ports can carry. -/

namespace Sys2Proof

/-- A link frame's sender takes 4 bits and its payload at most 24 bytes (R86). -/
def frameCarries (sender : Nat) (payload : List Byte) : Bool :=
  decide (sender ≤ 15) && decide (payload.length ≤ Config.maxPayload)

/-- A command frame's parameters are at most 48 bytes (R196). -/
def paramsCarry (ps : List Byte) : Bool := decide (ps.length ≤ Config.maxParams)

/-- The operands lie within what the straps (R205), the command frame (R196), the digitizer (R27) and the link frame
(R86) can carry, and name a place of the transmit queue (R91) or a peer (R110) where they name one. -/
def Instr.wellFormed : Instr → Bool
  | .powerOn i r l _ => decide (i ≤ 15) && decide (r ≤ 3) && decide (l ≤ 3)
  | .nop ps | .reset ps | .readNotice ps | .setAttn ps | .clearFlags ps | .clearAll ps | .readFlags ps
  | .setIdentity ps | .configure ps | .configureDefaults ps | .readConfig ps | .dayOpen ps | .dayClose ps
  | .newTicket ps | .weighStep ps | .voidTicket ps | .weighCancel ps | .zero ps | .readWeight ps
  | .pay ps | .payConfirm ps | .payCancel ps | .readOffer ps | .refill ps | .setDenominations ps
  | .setCashLimits ps | .readDrawer ps | .loadGrade ps | .addPriceVersion ps | .readGrade ps
  | .readTicket ps | .findByTag ps | .listTickets ps | .releaseForeign ps | .readLink ps | .readRoster ps
  | .reprint ps | .printText ps | .cancelJob ps | .printerLoan ps | .reclaim ps | .headerBegin ps
  | .headerContinue ps | .readPrinter ps => paramsCarry ps
  | .sampleMessage _ raw => decide (-99999 ≤ raw) && decide (raw ≤ 199999)
  | .transmitTimeout p => decide (p < Config.queuePlaces)
  | .malformedFrame x => decide (x ≤ 15)
  | .claimReceived x p | .objectReceived x p | .releaseReceived x p | .closedReceived x p
  | .headReceived x p | .lineReceived x p | .noteReceived x p | .askReceived x p
  | .announceReceived x p => frameCarries x p
  | .reassemblyTimeout x | .peerPresenceTimeout x => decide (1 ≤ x) && decide (x ≤ 15)
  | .powerLoss | .selectActive | .selectTimeout | .frameRejected | .yardClockTick | .clockTop
  | .malformedSample | .silenceTimerExpiry | .captureTimerExpiry | .claimWindowExpiry _
  | .confirmTimerExpiry | .frameStart | .arbitrationLost | .attemptEnd _ | .idConflictDetected
  | .badCrcFrame | .joinTimerExpiry | .announceTimerExpiry | .upAloneTimeout | .handCode | .busyActive
  | .busyInactive | .stallTimerExpiry | .paperOutActive | .paperOutClear | .faultActive
  | .faultInactive => true

end Sys2Proof
end

