-- ==== Sys2Proof/Tests/Slice0.lean ====
section
/-! SUPPORT. The tests: the smoke test of WellFormed, the worked examples of spec/, single steps, and for every statement
with premises states and operands that meet them. Elab.async is off so that few threads run at once. -/

namespace Sys2Proof.Tests

open Sys2Proof Sys2Proof.Machine

set_option Elab.async false

/-! ### WellFormed: each check refuses an ill-formed term -/

theorem test_ill_formed_straps : (Instr.powerOn 16 0 0 true).wellFormed = false ∧
    (Instr.powerOn 0 4 0 true).wellFormed = false ∧ (Instr.powerOn 0 0 4 true).wellFormed = false := by decide

theorem test_ill_formed_parameters : (Instr.nop (List.replicate 49 0)).wellFormed = false ∧
    (Instr.readPrinter (List.replicate 49 0)).wellFormed = false := by decide

theorem test_ill_formed_sample : (Instr.sampleMessage .ok (-100000)).wellFormed = false ∧
    (Instr.sampleMessage .ok 200000).wellFormed = false := by decide

theorem test_ill_formed_queue_place : (Instr.transmitTimeout 24).wellFormed = false := by decide

theorem test_ill_formed_peer : (Instr.malformedFrame 16).wellFormed = false ∧
    (Instr.reassemblyTimeout 0).wellFormed = false ∧ (Instr.peerPresenceTimeout 16).wellFormed = false := by decide

theorem test_ill_formed_frame : (Instr.claimReceived 16 []).wellFormed = false ∧
    (Instr.headReceived 5 (List.replicate 25 0)).wellFormed = false := by decide

theorem test_well_formed : (Instr.powerOn 15 3 3 false).wellFormed = true ∧
    (Instr.nop (List.replicate 48 0)).wellFormed = true ∧ (Instr.sampleMessage .ok (-99999)).wellFormed = true ∧
    (Instr.transmitTimeout 23).wellFormed = true ∧ (Instr.claimReceived 15 (List.replicate 24 0)).wellFormed = true := by
  decide

/-! ### Helper states

`yard` is a BOTH station 2 on day 7, OPEN, link UP with peer 5; the others are small changes of it. -/

def peer5 : Peer :=
  { id := 5, role := some .window, dayNumber := some 7, dayOpen := some true, tableLoad := some 3, present := true,
    sinceHeard := 100 }

def steel : Grade :=
  { name := codesOf "HEAVY STEEL", kind := .buy, regulated := true, deduction := 20,
    versions := [⟨0, [⟨0, 150000⟩, ⟨5000, 160000⟩]⟩, ⟨30000, [⟨0, 155000⟩]⟩] }

def yard : State :=
  { State.reset with
    identity := ⟨⟨2, 3, 0⟩, none⟩
    day := { isOpen := true, number := 7, clock := 30000, tick := some 1000, totals := ⟨5, 3, 1⟩ }
    tickets := { State.reset.tickets with owner := 2, nextSerial := 9 }
    flags := { Flags.start with restarted := false }
    pricing := { grades := [(3, steel)], totals := [] }
    scale := { ScaleUnit.start 4 Settings.factory.toScaleItems with silence := some 500 }
    drawer := { Drawer.factory with denominations := [⟨5000, true, 40, 5⟩, ⟨1000, true, 3, 0⟩, ⟨50, false, 7, 0⟩] }
    link := { Link.start with state := .up, announceTimer := some 1000, restartOwed := false, roster := [peer5] }
    port := { Port.start false with answer := [1, 2, 3], answerNew := true } }

def rec1 : Record :=
  { number := ⟨2, 1⟩, issueDay := 7, life := .opened, step := 0, grossIn := 30000, lastWeight := 30000,
    weighInTime := 20000, lastStepTime := 20000, lines := [], tag := some (codesOf "AB 12"), seller := none,
    offline := false, priceEarly := false, lastWriter := 2, custody := .free, stale := false,
    pendingBroadcast := false }

def reg1 : RegEntry := { serial := 1, life := .opened, step := 0, holder := 0, issueDay := 7 }

def line1 : Line :=
  { index := 1, grade := 3, kind := .buy, regulated := true, net := 4200, deduction := 20, paid := 4116, price := 150000,
    amount := 617400, priceEarly := false, offline := false, localPart := some ⟨0, 20, 1⟩ }

def rec2 : Record := { rec1 with life := .complete, step := 1, lastWeight := 25800, lines := [line1] }

def holding (r : Record) (e : RegEntry) (s : State) : State :=
  { s with tickets := { s.tickets with table := [r], register := [e] } }

def yard1 : State := holding rec1 reg1 yard

def yard2 : State := holding rec2 { reg1 with life := .complete, step := 1 } yard

def closedDay (s : State) : State := { s with day := { s.day with isOpen := false, tick := none } }

def as (role : Nat) (s : State) : State := { s with identity := ⟨⟨2, role, 0⟩, none⟩ }

def linked (st : LinkState) (s : State) : State := { s with link := { s.link with state := st } }

def job1 : Job :=
  { number := 1, kind := .text, ticket := none, copy := 0, restarts := 0, state := .queued, lines := [codesOf "A"],
    sent := 0, awaitsBusy := false }

def printing (port : PrinterState) (jobs : List Job) (s : State) : State :=
  { s with printer := { s.printer with jobs := jobs, port := port } }

def dry (s : State) : State := { s with printer := { s.printer with paperOut := true } }

def full : State := { yard with notices := { queue := List.replicate 16 (255, .payable ⟨2, 1⟩), seq := 255, attnEnable := true } }

def framed (f : PortFrame) (s : State) : State := { s with port := { s.port with select := true, frame := f } }

def flagged : State :=
  { yard with
    flags := { yard.flags with overload := ⟨true, 255, .overload .net 3⟩, cashWarn := ⟨true, 0, .none⟩, restarted := true }
    drawer := { yard.drawer with warn := 0 } }

def cashy : State := { yard with drawer := { yard.drawer with warn := 0 } }

def lastSeq : State := { yard with notices := { yard.notices with seq := 255 } }

def lived : State :=
  { yard2 with
    powered := false
    notices := { queue := [(3, .payable ⟨2, 1⟩)], seq := 4, attnEnable := false }
    printer := { yard2.printer with fault := true, header := [codesOf "YARD"] }
    drawer := { yard2.drawer with totals := ⟨1, 1700000, 0, 0, 0, 0, 0, 0⟩ }
    link := { yard2.link with queue := [{ frames := [.ask ⟨2, 1⟩ 1], burst := none, slot := none, started := true, onWire := false, attempts := 1, timeout := some 3, timedOut := false }, { frames := [.closed ⟨2, 3⟩ .voided 0 0 false], burst := none, slot := none, started := true, onWire := false, attempts := 1, timeout := some 3, timedOut := false }, { frames := rec2.burst, burst := some ⟨2, 1⟩, slot := none, started := false, onWire := false, attempts := 0, timeout := none, timedOut := false }] } }

def living : State := { lived with powered := true }

def weighing : WeighOp :=
  { phase := .capturing, kind := .newTicket none none, target := none, grant := .notYet, claimedStep := 0,
    reserved := true, closing := false }

def zeroing : WeighOp :=
  { weighing with phase := .zeroing, kind := .zero, reserved := false }

def captureOf (kind : CaptureKind) : CaptureContext := { kind := kind, window := [], timer := 30000, stableSeen := false }

def busyWith (o : WeighOp) (k : CaptureKind) (s : State) : State :=
  { s with weigh := some o, scale := { s.scale with context := some (captureOf k) } }

def forced : State :=
  { yard1 with tickets := { yard1.tickets with table := [rec1, { rec1 with number := ⟨5, 4⟩ }], register := [reg1, { reg1 with serial := 2, life := .paid }] } }

def nearTop (s : State) : State := { s with day := { s.day with clock := 172798 } }

def roomless : State := { yard with tickets := { yard.tickets with table := List.replicate 48 rec1 } }

def homeFull : State := { yard with tickets := { yard.tickets with register := List.replicate 1024 reg1 } }

def voidable : State := linked .alone (as 1 yard1)

def closingWeigh (o : WeighOp) (k : CaptureKind) (s : State) : State :=
  { busyWith o k s with weighTimer := { phase := .granted, subject := some ⟨⟨2, 1⟩, .weigh, 0⟩, count := none } }

def stepping (closing : Bool) : WeighOp :=
  { phase := .capturing, kind := .weighStep 3 10 true, target := some ⟨2, 1⟩, grant := .byFrame, claimedStep := 0,
    reserved := false, closing := closing }

def heldRec : Record := { rec1 with custody := .held .weigh .weigh }

def stepHeld : State := closingWeigh (stepping true) (.capture (.ticket ⟨2, 1⟩)) (holding heldRec { reg1 with holder := 2 } yard)

def claimItem1 : QueueItem :=
  { frames := [.claim ⟨2, 1⟩ .weigh 0], burst := none, slot := some .weigh, started := false, onWire := false,
    attempts := 0, timeout := some 100, timedOut := false }

def claimingState : State :=
  { holding { rec1 with custody := .claiming .weigh .weigh } reg1 yard with
    weigh := some { stepping false with phase := .claiming, grant := .notYet }
    weighTimer := { phase := .queued, subject := some ⟨⟨2, 1⟩, .weigh, 0⟩, count := none }
    link := { yard.link with queue := [claimItem1] } }

def nine (raw : Int) : List WindowSample := List.replicate 9 ⟨raw, true⟩

def windowed (o : WeighOp) (k : CaptureKind) (raw : Int) (s : State) : State :=
  { s with weigh := some o
           scale := { s.scale with deckClear := true, context := some { captureOf k with window := nine raw } } }

def creating : State := windowed weighing (.capture .newTicket) 30010 (dry yard)

def committing : State :=
  { windowed (stepping true) (.capture (.ticket ⟨2, 1⟩)) 25804 (dry (holding heldRec { reg1 with holder := 2 } yard)) with
    weighTimer := { phase := .granted, subject := some ⟨⟨2, 1⟩, .weigh, 0⟩, count := none } }

def zeroable (raw : Int) : State := windowed zeroing .zeroing raw yard

def rec3 : Record := { rec2 with seller := some (codesOf "S-9"), lines := [line1] }

def yard3 : State := holding rec3 { reg1 with life := .complete, step := 1 } yard

def offer1 : Offer :=
  computeOffer { net := 617400, regulated := 617400, offline := false, seller := true }
    { yard with settings := { yard.settings with regulatedCap := 100000 } }

def paying : PayOp :=
  { isVoid := false, target := ⟨2, 1⟩, given := none, placeholder := some 1, grant := .byFrame, claimedStep := 1,
    closing := true, offer := some offer1, confirm := some 120000 }

def heldPay : Record := { rec3 with custody := .held .pay .pay }

def voucherJob : Job :=
  { number := 1, kind := .voucher, ticket := some ⟨2, 1⟩, copy := 0, restarts := 0, state := .waiting, lines := [], sent := 0, awaitsBusy := false }

def offering : State :=
  { dry (printing .ready [voucherJob] (holding heldPay { reg1 with life := .complete, step := 1, holder := 2 } yard)) with
    payOp := some paying
    payTimer := { phase := .granted, subject := some ⟨⟨2, 1⟩, .pay, 1⟩, count := none } }

def counted : State := { closedDay yard with drawer := { yard.drawer with denominations := [⟨5000, true, 9999, 5⟩, ⟨1000, true, 0, 0⟩] } }

def sampled : State :=
  { yard with scale := { yard.scale with last := some ⟨60185, .ok, 9⟩, captured := some .newTicket, context := some (captureOf .zeroing) } }

def queued (q : List QueueItem) (s : State) : State := { s with link := { s.link with queue := q } }

def single1 (f : Frame) : QueueItem :=
  { frames := [f], burst := none, slot := none, started := false, onWire := false, attempts := 0, timeout := none, timedOut := false }

def askItem : QueueItem := single1 (.ask ⟨2, 1⟩ 1)

def wired (i : QueueItem) (f : Frame) (s : State) : State :=
  { s with link := { s.link with queue := [{ i with onWire := true }], wire := some { frame := f, probe := false, bits := frameBits 2 f } } }

def inWindow (slot : SlotId) (sub : Subject) (s : State) : State :=
  let t : ClaimTimer := { phase := .window, subject := some sub, count := some 50 }
  match slot with
  | .weigh => { s with weighTimer := t }
  | .pay => { s with payTimer := t }

def windowWeigh : State :=
  inWindow .weigh ⟨⟨2, 1⟩, .weigh, 0⟩
    { holding { rec1 with custody := .claiming .weigh .weigh } reg1 yard with
      weigh := some { stepping true with phase := .claiming, grant := .notYet } }

def payingWait : PayOp := { paying with grant := .notYet, offer := none, confirm := none }

def windowPay : State :=
  inWindow .pay ⟨⟨2, 1⟩, .pay, 1⟩
    { holding { rec3 with custody := .claiming .pay .pay } { reg1 with life := .complete, step := 1 } yard with
      payOp := some payingWait, settings := { yard.settings with regulatedCap := 1000000 } }

def committedAt : State :=
  { yard with weighTimer := { phase := .committed, subject := some ⟨⟨2, 1⟩, .weigh, 0⟩, count := none } }

def head0 (lines : Nat) (tag : Bool) : HeadValues :=
  { ticket := ⟨5, 65535⟩, issueDay := 7, step := lines, life := .opened, grossIn := 30000,
    lastWeight := 30000 - 4200 * lines, weighInTime := 20000, lastStepTime := 21000, lineCount := lines, hasTag := tag,
    hasSeller := false, offline := false, priceEarly := false }

def collecting (h : HeadValues) (ls : List Line) (s : State) : State :=
  { s with link := { s.link with contexts := [{ peer := 5, head := h, lines := ls, tag := none, seller := none, timer := 30 }] } }

def nline (i : Nat) : Line := { line1 with index := i, localPart := none }

def old5 : Record := { rec1 with number := ⟨5, 65535⟩, lastWriter := 5, tag := none }

def joining (s : State) : State := { s with link := { s.link with state := .joining, joinTimer := some 500, announceTimer := none } }

def lonely : State := { yard with link := { yard.link with roster := [{ peer5 with present := false }], upAlone := some 3000 } }

def loading (n : Nat) : State := { yard with printer := { yard.printer with load := some { staged := [codesOf "ONE"], expected := n } } }

def handing (c : Nat) : State :=
  { printing .printing [{ job1 with state := .printing }] yard with
    printer := { (printing .printing [{ job1 with state := .printing }] yard).printer with stream := [c, 12] } }

def stalling : State :=
  { handing 65 with printer := { (handing 65).printer with busy := true, stall := some 5000 } }

def waiting : State := { yard with pending := [.nop [0], .zero []] }

def jobSusp (r : Nat) : Job := { job1 with state := .suspended, restarts := r }

def jobWaits : Job := { jobSusp 0 with awaitsBusy := true }

def jobOn : Job := { job1 with state := .printing }

def busyPrinter : State := { printing .printing [jobOn] yard with printer := { (printing .printing [jobOn] yard).printer with busy := true, stream := [65] } }

def waitingJob : State :=
  { printing .stopped [jobWaits] yard with printer := { (printing .stopped [jobWaits] yard).printer with busy := true } }

def restartedYard : State := { yard with flags := Flags.start }

def weighRow : PortRow := ⟨24, .weigh, true, true, false, [0], []⟩

def longRow : PortRow := { weighRow with params := List.replicate 49 0 }

def newTicketRow : PortRow := ⟨20, .weigh, false, true, true, upTo 2 30, [0, 0]⟩

def shortRow : PortRow := { newTicketRow with params := [0] }

def payRow : PortRow := ⟨30, .pay, false, true, true, upTo 4 20, [0, 0]⟩

def noId : State := { State.reset with flags := yard.flags }

def lostStore : State := { closedDay yard with flags := { yard.flags with retainedLost := ⟨true, 1, .none⟩ } }

def reg5 : RegEntry := { reg1 with holder := 5 }

def yardHeldBy5 : State := holding rec1 reg5 yard

def atTop : State := { yard with day := { yard.day with clock := 172799 } }

def nearTopOff : State := { nearTop yard with powered := false }

def closedAt (t : TicketNo) (s : State) : State :=
  { s with tickets := { s.tickets with closed := [⟨t, .elsewhere⟩] } }

def settledYard : State :=
  { yard with tickets := { yard.tickets with closed := [⟨⟨2, 2⟩, .settled .paid 5000 (-3) 5 true⟩], register := [reg1] } }

def claimOp (closing : Bool) : WeighOp := { stepping closing with phase := .claiming, grant := .notYet }

def small : ScaleItems := { Settings.factory.toScaleItems with division := 10, windowLength := 4 }

def nineOf (kind : CaptureKind) (raw : Int) : CaptureContext := { captureOf kind with window := nine raw }

def three : List Version := [⟨0, [⟨0, 150000⟩]⟩, ⟨100, [⟨0, 155000⟩]⟩, ⟨30000, [⟨0, 155000⟩]⟩]

def steelThree : Grade := { steel with versions := three }

def yardThree : State := { yard with pricing := { grades := [(3, steelThree)], totals := [] } }

def early : State := { yard with settings := { yard.settings with lockMode := .weighIn } }

def entryOnly : State := { yard with tickets := { yard.tickets with register := [reg1] } }

def cursorAt5 : State := { yard1 with tickets := { yard1.tickets with table := [old5, rec1], cursor := some ⟨5, 65535⟩ } }

def takenRec (x : Nat) : Record := { rec1 with custody := .taken x .weigh }

def taken (x : Nat) : State := holding (takenRec x) { reg1 with holder := x } yard

def claimRec : Record := { rec1 with custody := .claiming .weigh .weigh }

def claimPay : Record := { rec3 with custody := .claiming .pay .pay }

def asked (onWire : Bool) (n : Nat) (timeout : Option Nat) : QueueItem :=
  { askItem with onWire := onWire, attempts := n, timeout := timeout }

def wireOf (f : Frame) : Wire := { frame := f, probe := false, bits := frameBits 2 f }

def ask1 : Frame := .ask ⟨2, 1⟩ 1

def claim1 : Frame := .claim ⟨2, 1⟩ .weigh 0

def claimOnWire : QueueItem := { claimItem1 with onWire := true }

def burstOf (h : HeadValues) : Reassembly := { peer := 5, head := h, lines := [], tag := none, seller := none, timer := 30 }

def ownHead : HeadValues := { head0 1 false with ticket := ⟨2, 1⟩ }

def yard2reg : State := holding rec2 reg1 yard

def fourTiers : List Tier := [⟨0, 2000000⟩, ⟨1, 5⟩, ⟨2, 5⟩, ⟨150450, 7⟩]

def threeValues : List DenominationParams := [⟨1000, 0, 9999⟩, ⟨5000, 1, 0⟩, ⟨1000000, 1, 7⟩]

def noText : Text := []

def noTiers : List Tier := []

def oneTier : List Tier := [⟨0, 7⟩]

def t21 : TicketNo := ⟨2, 1⟩

def t00 : TicketNo := ⟨0, 0⟩

def t255 : TicketNo := ⟨255, 1⟩

def t22 : TicketNo := ⟨2, 2⟩

def t2Last : TicketNo := ⟨2, 65535⟩

def t15Last : TicketNo := ⟨15, 65535⟩

def lowTiers : List Tier := [⟨0, 150000⟩, ⟨5000, 160000⟩]

def v0 : Version := ⟨0, lowTiers⟩

def v30000 : Version := ⟨30000, [⟨0, 155000⟩]⟩

def v10 : Version := ⟨10, []⟩

def sub1 : Subject := ⟨⟨2, 1⟩, .weigh, 0⟩

def subPay : Subject := ⟨⟨2, 1⟩, .pay, 1⟩

def zeroOnly : List Version := [⟨0, [⟨0, 150000⟩]⟩, ⟨100, [⟨0, 155000⟩]⟩]

def longTag : Text := codesOf "ABCDEFGHIJKL"

def longSeller : Text := codesOf "SELLER 678901234"

def fives : Denomination := ⟨5000, true, 40, 5⟩

def fivesFull : Denomination := ⟨5000, true, 9999, 5⟩

def oneValue : List DenominationParams := [⟨1000, 0, 9999⟩]

def twoAlike : List DenominationParams := [⟨5000, 0, 9999⟩, ⟨5000, 1, 0⟩]

def announceOf (restart : Bool) : AnnounceValues := ⟨.window, 65535, true, restart, 48⟩

def announceBoth : AnnounceValues := ⟨.both, 65535, true, true, 48⟩

def loadOf (n : Nat) : HeaderLoad := ⟨[codesOf "ONE"], n⟩

def t5Last : TicketNo := ⟨5, 65535⟩

def sample9 : LastSample := ⟨60185, .ok, 9⟩

def paid22 : ClosedEntry := ⟨⟨2, 2⟩, .settled .paid 5000 (-3) 5 true⟩

def v0one : Version := ⟨0, [⟨0, 150000⟩]⟩

def input (net regulated : Int) : OfferInput := { net := net, regulated := regulated, offline := false, seller := true }

def runningYard (bits : List Bool) : State := { framed (.running [1] [] 20) yard with dataIn := bits }

def abandonedYard : State := { framed .abandoned yard with dataIn := [true] }

def bootYard : State := { framed .notAFrame yard with dataIn := [true] }

def startedBurst : QueueItem :=
  { frames := rec2.burst, burst := some ⟨2, 1⟩, slot := none, started := true, onWire := false, attempts := 0, timeout := none, timedOut := false }

def unsentBurst : QueueItem := { startedBurst with started := false }

def burstOnWire : QueueItem := { unsentBurst with onWire := true }

def twoOpen : State :=
  { forced with tickets := { forced.tickets with
      register := [reg1, { reg1 with serial := 2, life := .paid }, { reg1 with serial := 3 }] } }

def noPlace (s : State) : State := queued (List.replicate 24 askItem) s

def settled1 : RegEntry := { reg1 with life := .complete, step := 1 }

def noGrade : State := { yard with pricing := { grades := [], totals := [] } }

def rec7 : Record := { rec1 with step := 7, lines := List.replicate 7 line1 }

def rec8 : Record := { rec1 with step := 8, lines := List.replicate 8 line1 }

def station9c : State :=
  { yard with drawer := { yard.drawer with
      denominations := [⟨20000, true, 3, 0⟩, ⟨5000, false, 40, 5⟩, ⟨1000, true, 900, 0⟩, ⟨50, true, 7, 0⟩] } }

def s205 : WindowSample := ⟨205, true⟩

def s180 : WindowSample := ⟨180, true⟩

def s205Bad : WindowSample := ⟨205, false⟩

def nineBad : CaptureContext :=
  { captureOf (.capture .newTicket) with window := ⟨9, false⟩ :: ⟨180, true⟩ :: List.replicate 8 ⟨205, true⟩ }

def nineTen : CaptureContext := { nineBad with window := ⟨9, false⟩ :: List.replicate 9 ⟨205, true⟩ }

def nineBadLast : CaptureContext := { nineBad with window := List.replicate 9 ⟨205, true⟩ ++ [⟨205, false⟩] }

def inCapture (c : CaptureContext) : State :=
  { yard with weigh := some weighing, scale := { yard.scale with context := some c } }

/-- Scale items configured, the next sample not yet arrived. -/
def reconfigured : State :=
  { yard with settings := { Settings.factory with capacity := 10000, windowLength := 3, captureTimeout := 5 } }

def reconfiguredSample : State := { reconfigured with scale := sampled.scale }

/-- A full window whose oldest sample is not good. -/
def tenOf (kind : CaptureKind) (raw : Int) : CaptureContext :=
  { captureOf kind with window := ⟨0, false⟩ :: nine raw }

def sliding (o : WeighOp) (k : CaptureKind) (raw : Int) (s : State) : State :=
  { s with weigh := some o, scale := { s.scale with deckClear := true, context := some (tenOf k raw) } }

def newTicketIn (raw : Int) (s : State) : State := sliding weighing (.capture .newTicket) raw (dry s)

def wrapping : State :=
  { yard with tickets := { yard.tickets with
      register := [reg1, { reg1 with serial := 65535 }], closed := [⟨⟨2, 2⟩, .elsewhere⟩], nextSerial := 65535 } }

def stepOp (g : Grant) (closing : Bool) : WeighOp := { stepping closing with grant := g }

/-- A weigh step's last sample but one, under this grant. -/
def stepIn (g : Grant) (closing : Bool) (s : State) : State :=
  { sliding (stepOp g closing) (.capture (.ticket ⟨2, 1⟩)) 25804
      (dry (holding heldRec { reg1 with holder := 2 } s)) with
    weighTimer := { phase := .granted, subject := some ⟨⟨2, 1⟩, .weigh, 0⟩, count := none } }

def twoMore : State := queued (List.replicate 21 askItem) yard

def peerPay : Record := { heldPay with lastWriter := 5 }

def payingLocal : PayOp := { paying with closing := false, grant := .byLink .alone }

/-- An offer at a WINDOW station on a record a peer wrote last. -/
def offeringAt (closing : Bool) : State :=
  { as 2 offering with
    tickets := { offering.tickets with table := [peerPay, { rec1 with number := ⟨5, 4⟩ }] }
    payOp := some (if closing then paying else payingLocal) }

def threeRecords : State :=
  { closedDay yard with tickets := { yard.tickets with
      table := [rec2, { old5 with number := ⟨5, 7⟩ }, { rec2 with number := ⟨5, 8⟩, lastWriter := 5 }] } }

def triedClaim : QueueItem := { claimItem1 with started := true, attempts := 1 }

/-- The weigh slot's last claim was of the same ticket and is committed. -/
def paidBefore (s : State) : State :=
  { s with weighTimer := { phase := .committed, subject := some ⟨⟨2, 1⟩, .weigh, 0⟩, count := none } }

/-- A claim on a record that a burst has made COMPLETE, at a BRIDGE station, the cursor at it. -/
def leavingRec : Record := { claimRec with life := .complete, lastWriter := 5 }

def leavingState : State :=
  { as 1 claimingState with tickets := { claimingState.tickets with table := [old5, leavingRec], cursor := some ⟨2, 1⟩ } }

def entryHeldBy (x : Nat) : State := { entryOnly with tickets := { entryOnly.tickets with register := [{ reg1 with holder := x }] } }

def entryOf (x : Nat) : RegEntry := { reg1 with holder := x }

def aheadEntry : RegEntry := { reg1 with step := 8, life := .complete, holder := 5 }

def aheadYard : State := { yard with tickets := { yard.tickets with register := [aheadEntry] } }

def paidEntry : RegEntry := { reg1 with step := 1, life := .paid }

def paidYard : State := { yard with tickets := { yard.tickets with register := [paidEntry] } }

abbrev noneClosed (s : State) : Prop :=
  ∀ e ∈ s.tickets.register.filter (fun e => decide (e.life = .opened)), s.closedEntry ⟨s.tickets.owner, e.serial⟩ = none

def jobless : State := { handing 12 with printer := { (handing 12).printer with jobs := [] } }

def undelivered2 (s : State) : State := { s with link := { s.link with undelivered := 2 } }

def dropping (after : List QueueItem) (s : State) : State :=
  undelivered2 { s with link := { s.link with queue := asked true 2 none :: after, wire := some (wireOf ask1) } }

def claimingBoth : State :=
  { claimingState with payOp := some payingWait, payTimer := { phase := .queued, subject := some subPay, count := none } }

def payItem : QueueItem := { claimItem1 with frames := [.claim ⟨2, 1⟩ .pay 1], slot := some .pay }

def claimingPay : State :=
  { holding claimPay settled1 (queued [payItem] yard) with
    payOp := some payingWait, payTimer := { phase := .queued, subject := some subPay, count := none } }

def releaseItem : QueueItem := { askItem with frames := [.release ⟨5, 3⟩], attempts := 1, timeout := some 4 }

def probeValues : AnnounceValues := ⟨.both, 7, true, false, 1⟩

def probing : State := linked .down { yard2 with link := { yard2.link with probe := some probeValues } }

def probeWire : Wire := { frame := .announce probeValues, probe := true, bits := frameBits 2 (.announce probeValues) }

def probed (s : State) : State := linked .down { s with link := { s.link with wire := some probeWire } }

def pendingRec : Record := { rec2 with pendingBroadcast := true }

def faulty (s : State) : State := { s with printer := { s.printer with fault := true } }

def announceNew : AnnounceValues := ⟨.bridge, 8, false, false, 48⟩

def staleFree : Record := { rec1 with stale := true }

def closedItem : QueueItem := { single1 (.closed ⟨2, 3⟩ .voided 0 0 false) with started := true, attempts := 1, timeout := some 3 }

/-- SET IDENTITY finds an ASK, a CLOSED frame, a burst under way and one unstarted. -/
def idQueue : State := queued [askItem, closedItem, startedBurst, { unsentBurst with burst := some ⟨5, 7⟩ }] threeRecords

def payingBare : PayOp := { payingLocal with placeholder := none }

/-- An offer under a local grant, RECEIPT REQUIRED off and no placeholder made. -/
def bareOffer (jobs : List Job) : State :=
  { printing .ready jobs (offeringAt false) with
    payOp := some payingBare
    settings := { yard.settings with receiptRequired := false } }

def changedPay : Record := { claimPay with step := 2 }

def stalePay : Record := { claimPay with stale := true }

def subVoid : Subject := ⟨⟨2, 1⟩, .void, 1⟩

def voidPay : PayOp := { payingWait with isVoid := true, placeholder := none }

def voidRec (slot : SlotId) : Record := { rec3 with custody := .claiming slot .void, lastWriter := 5 }

/-- The pay slot's claim window at its end. -/
def payWindow (sub : Subject) (o : PayOp) (r : Record) (jobs : List Job) (s : State) : State :=
  inWindow .pay sub { dry (printing .ready jobs (holding r settled1 s)) with payOp := some o }

def shortYard : State := { yard with settings := { yard.settings with shortToTransfer := false, regulatedCap := 1000000 } }

def noReceipts : State := { yard with settings := { yard.settings with receiptRequired := false } }

def voidOp : WeighOp := { claimOp true with kind := .void, claimedStep := 1 }

/-- The weigh slot's claim window at its end, for a void. -/
def voidWindow (r : Record) (jobs : List Job) (s : State) : State :=
  inWindow .weigh subVoid { dry (printing .ready jobs (holding r settled1 s)) with weigh := some voidOp }

def eightJobs : List Job := List.replicate 8 job1

def overdue (i : QueueItem) : QueueItem := { i with onWire := true, timeout := none, timedOut := true }

def lastTry (i : QueueItem) : QueueItem := { i with onWire := true, attempts := 2 }

def announceItem : QueueItem := single1 (.announce announceBoth)

def noteFrame : Frame := .note ⟨2, 1⟩ .tag (codesOf "AB 12")

def lastOfBurst : QueueItem := { startedBurst with frames := [noteFrame], attempts := 1 }

def headFrame : Frame := .head rec2.headValues

def lineFrame : Frame := .line ⟨2, 1⟩ (nline 1)

def headOnWire : QueueItem := { burstOnWire with frames := [headFrame, lineFrame, noteFrame] }

def voided22 : ClosedEntry := ⟨⟨2, 2⟩, .settled .voided 0 0 5 true⟩

def voidedYard : State := { yard with tickets := { yard.tickets with closed := [voided22] } }

/-- Eight entries of the reprint list, the oldest of ticket 2-1's WEIGH SLIP copied 255 times. -/
def reprinted (s : State) : State :=
  { s with printer := { s.printer with
      paperOut := true, nextJob := 255
      reprints := ⟨⟨2, 1⟩, .weighSlip, 255⟩ :: List.replicate 7 ⟨⟨5, 1⟩, .voucher, 1⟩ } }

def pending (port : PrinterState) (s : State) : State := { s with printer := { s.printer with port := port } }

def leadingLine : State := { handing 10 with printer := { (handing 10).printer with leadLine := true } }

def stalledJobless : State :=
  { jobless with printer := { jobless.printer with stream := [12], busy := true, stall := some 5000 } }

def changedVoid : Record := { voidRec .weigh with step := 2 }

def staleVoid : Record := { voidRec .weigh with stale := true }

def announceOnWire : QueueItem := { announceItem with onWire := true }

def payOnWire : QueueItem := { payItem with onWire := true }

def noteOnWire : QueueItem := { lastOfBurst with onWire := true }

def burstDue : QueueItem := { startedBurst with timeout := some 5 }

def elsewhere21 : ClosedEntry := ⟨⟨2, 1⟩, .elsewhere⟩

def t20 : TicketNo := ⟨2, 0⟩
def t01 : TicketNo := ⟨0, 1⟩
def t16 : TicketNo := ⟨16, 1⟩
def t255Last : TicketNo := ⟨255, 65535⟩

def triedPay : QueueItem := { payItem with started := true, attempts := 1 }

def voidItem : QueueItem := { payItem with frames := [.claim ⟨2, 1⟩ .void 1] }

def voidClaiming : State :=
  { holding (voidRec .pay) settled1 (queued [askItem, voidItem] yard) with
    payOp := some voidPay, payTimer := { phase := .queued, subject := some subVoid, count := none } }

def job2 : Job := { job1 with number := 2 }

def job3 : Job := { job1 with number := 3 }

def changedHeld : Record := { heldRec with step := 1 }

def staleHeld : Record := { heldRec with stale := true }

def leavingHeld : Record := { heldRec with life := .complete, lastWriter := 5 }

/-- The last sample but one of a weigh step's capture, the record held as given. -/
def stepAt (o : WeighOp) (raw : Int) (r : Record) (s : State) : State :=
  { sliding o (.capture (.ticket ⟨2, 1⟩)) raw (dry (holding r { reg1 with holder := 2 } s)) with
    weighTimer := { phase := .granted, subject := some ⟨⟨2, 1⟩, .weigh, 0⟩, count := none } }

/-- The same for the captured ticket, the deck not clear. -/
def recapture (s : State) : State :=
  { s with scale := { s.scale with deckClear := false, captured := some (.ticket ⟨2, 1⟩) } }

/-- A second probe falls due while the first is on the wire. -/
def probedTwice : State := { probed yard with link := { (probed yard).link with probe := some probeValues } }

/-- The frames that DOWN holds, as OwnFramesOnTheWire names them. -/
def heldKind (j : QueueItem) : Bool :=
  decide (j.frames.head?.map Frame.kind = some .release) || decide (j.frames.head?.map Frame.kind = some .closed)

def halted (s : State) : State := { s with flags := { s.flags with conflict := ⟨true, 1, .none⟩ } }

def noCheck (s : State) : State := { s with settings := { s.settings with homeCheck := false } }

/-- The record's home, station 5, is absent. -/
def homeAway (r : Record) : State := holding r reg1 lonely

def pay5 : Record := { rec3 with number := ⟨5, 65535⟩, lastWriter := 5 }

def takenPay : Record := { rec3 with custody := .taken 5 .pay }

def stale3 : Record := { rec3 with stale := true }

/-- An own OPEN record behind another, the cursor at it. -/
def cursorAtOnly : State :=
  { yard1 with tickets := { yard1.tickets with table := [old5, rec1], cursor := some ⟨2, 1⟩ } }

def badText : Text := [65, 127]

/-! ### Worked examples of spec/ -/

/-- The five rows of the table under R76. -/
theorem test_line_amounts : lineAmount .buy 1058 655000 = 692990 ∧ lineAmount .buy 7814 29500 = 230513 ∧
    lineAmount .buy 1001 500 = 501 ∧ lineAmount .charge 140 45000 = -6300 ∧ lineAmount .charge 141 45500 = -6416 := by
  decide

/-- R54: 21.6 kg rounds to 22, exactly 2.5 kg to 3. -/
theorem test_deduction_weight : deductionWeight 1080 20 = 22 ∧ deductionWeight 1250 2 = 3 := by decide

/-- R36's two captures, and the worked capture of chapter Weight Capture. -/
theorem test_captured_weight :
    capturedWeight small 0 4020 = 1010 ∧
    capturedWeight small 0 (-20) = -10 ∧
    capturedWeight { Settings.factory.toScaleItems with windowLength := 8 } 12 147753 = 18460 := by decide

/-- R32, R210: a ZERO asked for before the next sample runs under the old capture timeout, 30 s, and one after it under the
new one, 5 s. -/
theorem test_scale_items_wait_for_a_sample :
    (openCapture .zeroing reconfigured).scale.context = some (captureOf .zeroing) ∧
    (openCapture .zeroing (sample .ok 9000 reconfigured)).scale.context =
      some { captureOf .zeroing with timer := 5000 } := by decide

/-- R34: a sum of 125 over 10 samples gives Z = 13, one of −125 gives −13. -/
theorem test_zero_rounding : roundHalfAway 125 10 = 13 ∧ roundHalfAway (-125) 10 = -13 := by decide

/-- Chapter Tickets, serial allocation across the wrap: 65,534 first, and 3 after serials 65,535, 1 and 2. -/
theorem test_serial_across_the_wrap :
    let reg (n : Nat) : RegEntry := { serial := n, life := .complete, step := 0, holder := 0, issueDay := 6 }
    let s (next : Nat) : State := { State.reset with tickets :=
      { State.reset.tickets with owner := 7, register := [reg 65535, reg 1, reg 2], nextSerial := next } }
    (s 65534).allocated = 65534 ∧ (s 65535).allocated = 3 := by decide +kernel

/-- R148: C3 = 600 from one 500 and three 200s takes the 500 and ends short by 100. -/
theorem test_greedy_breakdown : greedy [⟨500, true, 1, 0⟩, ⟨200, true, 3, 0⟩] 600 = ([(500, 1)], 100) := by decide

/-- Station 9 of chapter Payout, with this much day cash paid. -/
def station9 (paid : Nat) : State :=
  { State.reset with
    settings := { Settings.factory with regulatedCap := 50000 }
    drawer := { Drawer.factory with
      denominations := [⟨20000, false, 0, 0⟩, ⟨10000, true, 40, 10⟩, ⟨5000, true, 20, 5⟩, ⟨2000, true, 30, 10⟩,
        ⟨1000, true, 30, 10⟩, ⟨500, true, 40, 10⟩, ⟨100, true, 50, 20⟩, ⟨50, true, 40, 20⟩]
      totals := { Drawer.factory.totals with cash := paid } } }

def offerAt (net regulated : Int) (paid : Nat) : Offer :=
  computeOffer { net := net, regulated := regulated, offline := false, seller := true } (station9 paid)

/-- Chapter Payout, paying ticket 02-00417. -/
theorem test_offer_of_02_00417 : (offerAt 917203 692990 1500000).c0 = 274213 ∧
    (offerAt 917203 692990 1500000).room = 500000 ∧ (offerAt 917203 692990 1500000).c3 = 274200 ∧
    (offerAt 917203 692990 1500000).residue = 13 ∧
    (offerAt 917203 692990 1500000).breakdown = [(10000, 27), (2000, 2), (100, 2)] := by decide +kernel

/-- Chapter Payout, offers at the limits: rows 1, 3, 4 and 6. -/
theorem test_offers_at_the_limits :
    ((offerAt (-107010) 692990 1500000).cls = .amountDue ∧ (offerAt (-107010) 692990 1500000).transfer = -107010) ∧
    ((offerAt 400000 692990 1500000).cash = 50000 ∧ (offerAt 400000 692990 1500000).transfer = 350000) ∧
    ((offerAt 1400000 0 0).c1 = 1000000 ∧ (offerAt 1400000 0 0).cash = 617000 ∧
      (offerAt 1400000 0 0).shortfall = 383000 ∧ (offerAt 1400000 0 0).transfer = 783000) ∧
    ((offerAt 917203 692990 1999970).residue = 30 ∧ (offerAt 917203 692990 1999970).cls = .allTransfer) := by
  decide +kernel

/-- Chapter Grades and Prices, a price day for heavy steel: tickets A, B and D. -/
theorem test_price_day :
    let v (e : Nat) (ts : List Tier) : Version := { effective := e, tiers := ts }
    let morning := [v 0 [⟨0, 28500⟩, ⟨5000, 29500⟩], v 32400 [⟨0, 29200⟩, ⟨5000, 30200⟩], v 43200 [⟨0, 29800⟩, ⟨6000, 30800⟩]]
    let evening := morning.drop 1 ++ [v 50400 [⟨0, 30500⟩]]
    chooseVersion 20000 morning = (some (v 0 [⟨0, 28500⟩, ⟨5000, 29500⟩]), false) ∧
    chooseVersion 20000 evening = (some (v 32400 [⟨0, 29200⟩, ⟨5000, 30200⟩]), true) ∧
    chooseVersion 44500 evening = (some (v 43200 [⟨0, 29800⟩, ⟨6000, 30800⟩]), false) ∧
    chooseTier 7814 [⟨0, 28500⟩, ⟨5000, 29500⟩] = some (2, ⟨5000, 29500⟩) ∧
    chooseTier 5500 [⟨0, 29800⟩, ⟨6000, 30800⟩] = some (1, ⟨0, 29800⟩) := by decide

/-- Chapter The Controller Port, worked exchange: an answer of 1 byte is read whole by L = 7 and by L = 2, not by L = 0. -/
theorem test_worked_exchange :
    let p : Port := { Port.start false with answer := [1], answerNew := true }
    (p.readOn 7).answerNew = false ∧ (p.readOn 2).answerNew = false ∧ (p.readOn 0).answerNew = true := by decide

/-- The published check value of the CRC with R86's generator and starting value (a source outside spec/). -/
theorem test_crc_check_value :
    crcOf ([49, 50, 51, 52, 53, 54, 55, 56, 57].flatMap (bitsOf 8)) = 0x29B1 := by decide +kernel

/-! ### Single steps -/

/-- The state after a command. -/
def after (c : Instr) (s : State) : State :=
  match exec c s with
  | .next t => t
  | _ => State.reset

/-- R199: in WAIT ID a weigh-slot command is refused NOT READY. -/
theorem test_newTicket_in_wait_id : (after (.newTicket [0, 0]) State.reset).port.answer = [10] := by decide +kernel

/-- R200: PAY has no place at a BRIDGE station. -/
theorem test_pay_at_a_bridge : (after (.pay []) (as 1 yard)).port.answer = [4] := by decide +kernel

/-- R211: the clock holds at 172,799. -/
theorem test_yardClockTick_holds : (after .yardClockTick { yard with day := { yard.day with clock := 172799 } }).day.clock
    = 172799 := by decide +kernel

/-- R207: a store that fails its check latches RETAINED LOST, flag 5. -/
theorem test_powerOn_lost : (after (.powerOn 2 3 0 false) yard1).tickets.table = [] ∧
    (after (.powerOn 2 3 0 false) yard1).statusByte.getLsbD 5 = true := by decide +kernel

/-- R178: a job that a stall suspended restarts at BUSY's release, not at a clear with BUSY still active. -/
theorem test_restart_waits_for_busy :
    (after (.clearFlags [0, 4]) waitingJob).printer.port = .stopped ∧
    (after .busyInactive waitingJob).printer.jobs.map Job.restarts = [1] := by decide +kernel

/-- R91, R93: beside a burst whose HEAD is on the wire an ASK of lower class has no timeout yet. -/
theorem test_burst_on_the_wire_is_the_head :
    (settle (queued [askItem, burstOnWire] yard)).link.queue.map QueueItem.timeout = [none, some 100] := by decide +kernel

/-- R88: a frame whose CRC is bad is not acknowledged. -/
theorem test_badCrcFrame : (after .badCrcFrame { yard with link := { yard.link with ackDriven := true } }).link.ackDriven
    = false := by decide +kernel

/-- R90: a frame whose sender is this station's ID brings the link to SILENT. -/
theorem test_own_id_heard : (after (.claimReceived 2 [2, 0, 1, 1, 0]) yard1).link.state = .silent := by decide +kernel

/-- R202: the record of a FLAG notice: kind 4, sequence, flag number, level, detail filled with 0 to 5 bytes, 15 in all. -/
theorem test_flag_notice_bytes : noticeBytes 18 (.flag .cashWarn (.cashPaid 1600000)) =
    [4, 18, 10, 2, 0, 0x18, 0x6A, 0, 0, 0, 0, 0, 0, 0, 0] := by decide

/-- The step: the front of the queue first, and the queue's rest kept. -/
theorem test_step_takes_the_front :
    (match step { yard with pending := [.setAttn [0], .nop []] } with
     | .next t => (t.notices.attnEnable, t.pending)
     | _ => (true, [])) = (false, [.nop []]) := by decide +kernel

/-- No table word spells a command (log entry 40). -/
theorem test_no_word_spells_a_command : decodeTableWord 8 0 = none ∧ State.reset.withFetchWord 8 0 = State.reset := by
  decide

/-! ### Premises: for each statement with hypotheses, states and operands that meet them

Ticket numbers: `t21` is 02-00001, and so on. Hypotheses that only compare two numerals are left out. -/

/-- AcceptanceTable: a place missing in WAIT ID and by role, RESTARTED set, the day in the other state, and a length the
command does not take. -/
theorem test_premises_AcceptanceTable :
    (portRowOf (.newTicket [0, 0]) = some newTicketRow ∧ State.reset.takes 2 ∧ ¬ newTicketRow.hasPlace State.reset) ∧
    (portRowOf (.pay [0, 0]) = some payRow ∧ (as 1 yard).takes 2 ∧ ¬ payRow.hasPlace (as 1 yard)) ∧
    (restartedYard.takes 2 ∧ newTicketRow.hasPlace restartedYard ∧ newTicketRow.gated = true ∧
      restartedYard.flags.restarted = true) ∧
    ((closedDay yard).takes 2 ∧ newTicketRow.hasPlace (closedDay yard) ∧ (closedDay yard).flags.restarted = false ∧
      (closedDay yard).day.isOpen = false ∧ newTicketRow.whenClosed = false) ∧
    (portRowOf (.newTicket [0]) = some shortRow ∧ yard.takes 1 ∧ shortRow.hasPlace yard ∧ yard.flags.restarted = false ∧
      yard.day.isOpen = true ∧ shortRow.whenOpen = true ∧ shortRow.params.length ∉ shortRow.lengths) ∧
    (yard.takes 48 ∧ List.replicate 48 (0 : Byte) ≠ []) := by
  refine ⟨⟨by decide, by decide, ?_⟩, ⟨by decide, by decide, ?_⟩, ⟨by decide, Or.inr (by decide), by decide⟩,
    ⟨by decide, Or.inr (by decide), by decide⟩, ⟨by decide, by decide, Or.inr (by decide), by decide⟩, by decide⟩ <;>
    rintro (h | h) <;> revert h <;> decide

/-- The step invariants: a state with them that steps. -/
theorem test_premises_step_invariants : yard.noticesOk ∧ yard.closedOk ∧ yard.queueOk ∧ yard2.ticketsOk ∧
    (∃ t, step yard = .next t) ∧ ∃ t, step yard2 = .next t :=
  ⟨by decide, by decide, by decide, by decide, ⟨_, rfl⟩, _, rfl⟩

theorem test_premises_StepRunsTheFrontCommand :
    waiting.pending = [Instr.nop [0], Instr.zero []] := by
  decide +kernel

theorem test_premises_EmptyQueueLetsAMillisecondPass :
    yard.pending = [] := by
  decide +kernel

theorem test_premises_EveryEventEndsWithThePort_1 :
    (dry (printing PrinterState.ready [job1] yard)).printer.paperOut = true ∧
    (faulty (printing PrinterState.stopped [jobSusp 0] yard)).printer.fault = true ∧
    ((printing PrinterState.loaned [job1] yard).printer.port ≠ PrinterState.ready ∧
     (printing PrinterState.loaned [job1] yard).printer.port ≠ PrinterState.stopped) ∧
    ((handing 65).printer.port ≠ PrinterState.ready ∧ (handing 65).printer.port ≠ PrinterState.stopped) ∧
    ((printing PrinterState.loanPending [jobOn, job1] yard).printer.port ≠ PrinterState.ready ∧
     (printing PrinterState.loanPending [jobOn, job1] yard).printer.port ≠ PrinterState.stopped) ∧
    ((printing PrinterState.ready [voucherJob] yard).printer.port = PrinterState.ready ∧
     (∀ (j : Job), j ∈ (printing PrinterState.ready [voucherJob] yard).printer.jobs → j.state ≠ JobState.queued)) ∧
    ((printing PrinterState.stopped [job1] yard).printer.port = PrinterState.stopped ∧
     (∀ (j : Job), j ∈ (printing PrinterState.stopped [job1] yard).printer.jobs → j.state ≠ JobState.suspended)) ∧
    (((printing PrinterState.ready [voucherJob, job2, job3] yard).printer.paperOut = false ∧ (printing PrinterState.ready [voucherJob, job2, job3] yard).printer.fault = false ∧ State.latched Flag.printerFault (printing PrinterState.ready [voucherJob, job2, job3] yard) = false) ∧
     (printing PrinterState.ready [voucherJob, job2, job3] yard).printer.port = PrinterState.ready ∧
     List.find? (fun (j : Job) => decide (j.state = JobState.queued)) (printing PrinterState.ready [voucherJob, job2, job3] yard).printer.jobs = some job2) ∧
    (((printing PrinterState.ready [job1] yard).printer.paperOut = false ∧ (printing PrinterState.ready [job1] yard).printer.fault = false ∧ State.latched Flag.printerFault (printing PrinterState.ready [job1] yard) = false) ∧
     (printing PrinterState.ready [job1] yard).printer.port = PrinterState.ready ∧
     List.find? (fun (j : Job) => decide (j.state = JobState.queued)) (printing PrinterState.ready [job1] yard).printer.jobs = some job1) ∧
    (((printing PrinterState.stopped [job2, jobSusp 255] yard).printer.paperOut = false ∧ (printing PrinterState.stopped [job2, jobSusp 255] yard).printer.fault = false ∧ State.latched Flag.printerFault (printing PrinterState.stopped [job2, jobSusp 255] yard) = false) ∧
     (printing PrinterState.stopped [job2, jobSusp 255] yard).printer.port = PrinterState.stopped ∧
     List.find? (fun (j : Job) => decide (j.state = JobState.suspended)) (printing PrinterState.stopped [job2, jobSusp 255] yard).printer.jobs = some (jobSusp 255)) := by
  decide +kernel

theorem test_premises_EveryEventEndsWithThePort_2 :
    (((printing PrinterState.stopped [jobWaits] yard).printer.paperOut = false ∧ (printing PrinterState.stopped [jobWaits] yard).printer.fault = false ∧ State.latched Flag.printerFault (printing PrinterState.stopped [jobWaits] yard) = false) ∧
     (printing PrinterState.stopped [jobWaits] yard).printer.port = PrinterState.stopped ∧
     List.find? (fun (j : Job) => decide (j.state = JobState.suspended)) (printing PrinterState.stopped [jobWaits] yard).printer.jobs = some jobWaits) ∧
    ((waitingJob.printer.paperOut = false ∧ waitingJob.printer.fault = false ∧ State.latched Flag.printerFault waitingJob = false) ∧
     waitingJob.printer.port = PrinterState.stopped ∧
     List.find? (fun (j : Job) => decide (j.state = JobState.suspended)) waitingJob.printer.jobs = some jobWaits) ∧
    ((noPlace (linked LinkState.down yard)).link.state ≠ LinkState.up ∧
     (noPlace (linked LinkState.down yard)).link.state ≠ LinkState.alone) ∧
    yard.link.queue = [] ∧
    ((queued [askItem, unsentBurst] yard).link.state = LinkState.up ∧
     (queued [askItem, unsentBurst] yard).link.queue = [] ++ [askItem, unsentBurst] ∧
     (∀ (x : QueueItem), x ∈ (queued [askItem, unsentBurst] yard).link.queue → x.burst = none ∨ x.started = false ∧ x.onWire = false)) ∧
    ((queued [askItem, startedBurst] yard).link.state = LinkState.up ∧
     (queued [askItem, startedBurst] yard).link.queue = [askItem] ++ [startedBurst] ∧
     (startedBurst.burst.isSome = true ∧ (startedBurst.started = true ∨ startedBurst.onWire = true) ∧ ∀ (x : QueueItem), x ∈ [askItem] → x.burst = none ∨ x.started = false ∧ x.onWire = false)) ∧
    ((queued [askItem, startedBurst] (linked LinkState.alone yard)).link.state = LinkState.alone ∧
     (queued [askItem, startedBurst] (linked LinkState.alone yard)).link.queue = [askItem] ++ [startedBurst]) ∧
    ((queued [askItem, burstOnWire] yard).link.state = LinkState.up ∧
     (queued [askItem, burstOnWire] yard).link.queue = [askItem] ++ [burstOnWire] ∧
     (burstOnWire.burst.isSome = true ∧ (burstOnWire.started = true ∨ burstOnWire.onWire = true) ∧ ∀ (x : QueueItem), x ∈ [askItem] → x.burst = none ∨ x.started = false ∧ x.onWire = false)) := by
  decide +kernel

theorem test_premises_NopSelectAndRejectedFrames_1 :
    [1, 128][1]? = some 128 ∧
    [1, 128][0]? = some 1 ∧
    State.takes [0, 0].length yard ∧
    State.takes (List.replicate 48 0).length yard ∧
    State.takes [0, 0].length (runningYard []) ∧
    (yard.powered = true ∧ yard.port.select = false) ∧
    ((runningYard [true, false]).powered = true ∧ (runningYard [true, false]).port.frame = PortFrame.running [1] [] 20) ∧
    (abandonedYard.powered = true ∧ abandonedYard.port.frame = PortFrame.abandoned) ∧
    ((runningYard [true, false]).port.frame.begins = true ∧ frameParams (runningYard [true, false]).dataIn = none) ∧
    (yard.port.frame.begins = true ∧ frameParams yard.dataIn = none) ∧
    ((runningYard (commandBits 24 [])).powered = true ∧ (runningYard (commandBits 24 [])).port.frame.begins = true ∧
     frameParams (runningYard (commandBits 24 [])).dataIn ≠ none) ∧
    (bootYard.powered = true ∧ bootYard.port.frame = PortFrame.notAFrame) ∧
    portRowOf (Instr.zero []) = some weighRow := by
  decide +kernel

theorem test_premises_NopSelectAndRejectedFrames_2 :
    (portRowOf (Instr.zero (List.replicate 49 0)) = some longRow ∧ 48 < longRow.params.length) ∧
    ((runningYard []).powered = true ∧ (runningYard []).port.frame.begins = true) := by
  decide +kernel

theorem test_premises_NoticesAndFlagLatches :
    (lastSeq.notices.seq < 256 ∧ lastSeq.notices.queue.length < 16) ∧
    (full.notices.seq < 256 ∧ 16 ≤ full.notices.queue.length) ∧
    (Flag.conflict.isCondition = false ∧ Flag.conflict ≠ Flag.noticeOverflow ∧ yard.notices.queue.length < 16) ∧
    State.latched Flag.conflict yard = false ∧
    (Flag.overload.isCondition = false ∧ Flag.overload ≠ Flag.noticeOverflow ∧ flagged.notices.queue.length < 16) ∧
    State.latched Flag.overload flagged = true ∧
    (Flag.cashWarn.isCondition = true ∧ condition Flag.cashWarn yard = false) ∧
    State.latched Flag.cashWarn flagged = true ∧
    (condition Flag.cashWarn cashy = true ∧ State.latched Flag.cashWarn cashy = false ∧
     cashy.notices.queue.length < 16) := by
  decide +kernel

theorem test_premises_ReadNoticeAndSetAttn :
    (State.takes 0 full ∧
     full.notices.queue = (255, Notice.payable t21) :: List.replicate 15 (255, Notice.payable t21)) ∧
    (State.takes 0 yard ∧ yard.notices.queue = []) ∧
    (State.takes 1 yard ∧ BitVec.toNat (1 : Byte) ≤ 1) ∧
    BitVec.toNat (0 : Byte) ≤ 1 ∧
    1 < BitVec.toNat (2 : Byte) := by
  decide +kernel

theorem test_premises_ClearFlagsAndClearAll :
    (State.takes 2 flagged ∧ BitVec.getLsbD (64 : Byte) 6 = true) ∧
    BitVec.getLsbD (132 : Byte) 6 = false ∧
    State.takes 0 flagged := by
  decide +kernel

theorem test_premises_FaultScopeGates :
    State.takes 0 flagged ∧ flagged.hasWeigh = true ∧ flagged.weigh = none ∧ gatePasses GatedOp.zero flagged = false := by
  decide +kernel

theorem test_premises_PowerLossAndALostStore :
    lived.powered = false ∧
    living.powered = true := by
  decide +kernel

theorem test_premises_SoftReset :
    State.takes 0 (dry living) ∧
    State.takes 0 busyPrinter ∧
    State.takes 0 (dry busyPrinter) ∧
    State.takes 0 (faulty (printing PrinterState.loanPending [jobOn] yard)) ∧
    State.takes 0 (faulty (printing PrinterState.loaned [jobSusp 0] yard)) ∧
    State.takes 0 jobless ∧
    (dry living).printer.paperOut = true ∧
    (faulty (printing PrinterState.loanPending [jobOn] yard)).printer.fault = true ∧
    (jobless.printer.port = PrinterState.printing ∧ jobless.printer.paperOut = false ∧ jobless.printer.fault = false ∧
     (∀ (j : Job), j ∈ jobless.printer.jobs → j.state ≠ JobState.suspended) ∧
     (∀ (j : Job), j ∈ jobless.printer.jobs → j.state ≠ JobState.printing)) ∧
    (busyPrinter.printer.port = PrinterState.printing ∧ busyPrinter.printer.paperOut = false ∧
     busyPrinter.printer.fault = false ∧
     (List.find? (fun (j : Job) => decide (j.state = JobState.printing ∨ j.state = JobState.suspended)) busyPrinter.printer.jobs = some jobOn)) ∧
    State.takes 0 waitingJob ∧
    (waitingJob.printer.port = PrinterState.stopped ∧ waitingJob.printer.paperOut = false ∧
     waitingJob.printer.fault = false ∧
     (List.find? (fun (j : Job) => decide (j.state = JobState.printing ∨ j.state = JobState.suspended)) waitingJob.printer.jobs = some jobWaits)) := by
  decide +kernel

theorem test_premises_SetIdentity_1 :
    (State.takes 2 (busyWith zeroing CaptureKind.zeroing (closedDay yard)) ∧
     (busyWith zeroing CaptureKind.zeroing (closedDay yard)).day.isOpen = false ∧
     (busyWith zeroing CaptureKind.zeroing (closedDay yard)).weigh ≠ none) ∧
    (State.takes 2 (closedDay yard) ∧ (closedDay yard).day.isOpen = false ∧ (closedDay yard).weigh = none ∧
     (closedDay yard).payOp = none ∧
     (15 < BitVec.toNat (16 : Byte) ∨ BitVec.toNat (1 : Byte) = 0 ∨ 3 < BitVec.toNat (1 : Byte))) ∧
    (15 < BitVec.toNat (15 : Byte) ∨ BitVec.toNat (0 : Byte) = 0 ∨ 3 < BitVec.toNat (0 : Byte)) ∧
    (15 < BitVec.toNat (1 : Byte) ∨ BitVec.toNat (4 : Byte) = 0 ∨ 3 < BitVec.toNat (4 : Byte)) ∧
    (15 = 0 ∨ BitVec.toNat (15 : Byte) ≤ 15 ∧ 1 ≤ BitVec.toNat (1 : Byte) ∧ BitVec.toNat (1 : Byte) ≤ 3) ∧
    (State.takes 2 (closedDay yard2) ∧ (closedDay yard2).day.isOpen = false ∧ (closedDay yard2).weigh = none ∧
     (closedDay yard2).payOp = none ∧
     (2 = 0 ∨ BitVec.toNat (2 : Byte) ≤ 15 ∧ 1 ≤ BitVec.toNat (3 : Byte) ∧ BitVec.toNat (3 : Byte) ≤ 3)) ∧
    (0 = 0 ∨ BitVec.toNat (0 : Byte) ≤ 15 ∧ 1 ≤ BitVec.toNat (9 : Byte) ∧ BitVec.toNat (9 : Byte) ≤ 3) ∧
    (State.takes 2 threeRecords ∧ threeRecords.day.isOpen = false ∧ threeRecords.weigh = none ∧
     threeRecords.payOp = none ∧
     (7 = 0 ∨ BitVec.toNat (7 : Byte) ≤ 15 ∧ 1 ≤ BitVec.toNat (1 : Byte) ∧ BitVec.toNat (1 : Byte) ≤ 3)) := by
  decide +kernel

theorem test_premises_SetIdentity_2 :
    (7 = 0 ∨ BitVec.toNat (7 : Byte) ≤ 15 ∧ 1 ≤ BitVec.toNat (2 : Byte) ∧ BitVec.toNat (2 : Byte) ≤ 3) ∧
    (List.map Record.number threeRecords.tickets.table).Nodup ∧
    (State.takes 2 idQueue ∧ idQueue.day.isOpen = false ∧ idQueue.weigh = none ∧ idQueue.payOp = none ∧
     (5 = 0 ∨ BitVec.toNat (5 : Byte) ≤ 15 ∧ 1 ≤ BitVec.toNat (3 : Byte) ∧ BitVec.toNat (3 : Byte) ≤ 3)) ∧
    (State.takes 2 (closedDay (as 2 yard)) ∧ (closedDay (as 2 yard)).day.isOpen = false ∧
     (closedDay (as 2 yard)).weigh = none ∧ (closedDay (as 2 yard)).payOp = none ∧
     (7 = 0 ∨ BitVec.toNat (7 : Byte) ≤ 15 ∧ 1 ≤ BitVec.toNat (3 : Byte) ∧ BitVec.toNat (3 : Byte) ≤ 3)) := by
  decide +kernel

theorem test_premises_ConfigureAndDefaults_1 :
    (closedDay yard).day.isOpen = false ∧
    (State.takes 5 (closedDay yard) ∧ (closedDay yard).settings.inRange = true ∧ (closedDay yard).weigh = none ∧
     10000 % (closedDay yard).settings.division = 0) ∧
    150000 % (closedDay yard).settings.division = 0 ∧
    ((closedDay yard).settings.capacity % 50 = 0 ∧ (closedDay yard).settings.motionBand ≤ 5 * 50) ∧
    100 ≤ 5 * (closedDay yard).settings.division ∧
    (1 = 1 ∧ (9980 < 10000 ∨ 150000 < 9980 ∨ 9980 % (closedDay yard).settings.division ≠ 0)) ∧
    (1 = 1 ∧ (150020 < 10000 ∨ 150000 < 150020 ∨ 150020 % (closedDay yard).settings.division ≠ 0)) ∧
    (1 = 1 ∧ (60001 < 10000 ∨ 150000 < 60001 ∨ 60001 % (closedDay yard).settings.division ≠ 0)) ∧
    (2 = 2 ∧ (30 ≠ 5 ∧ 30 ≠ 10 ∧ 30 ≠ 20 ∧ 30 ≠ 50 ∨ (closedDay yard).settings.capacity % 30 ≠ 0 ∨ 5 * 30 < (closedDay yard).settings.motionBand)) ∧
    (4 = 4 ∧ (101 < 1 ∨ 5 * (closedDay yard).settings.division < 101)) ∧
    State.takes 10 (closedDay yard) ∧
    (closedDay yard).settings.capacity % 5 = 0 ∧
    (16 = 0 ∨ 15 < BitVec.toNat (16 : Byte)) ∧
    (0 = 0 ∨ 15 < BitVec.toNat (0 : Byte)) := by
  decide +kernel

theorem test_premises_ConfigureAndDefaults_2 :
    ((busyWith zeroing CaptureKind.zeroing (closedDay yard)).day.isOpen = false ∧
     State.takes 5 (busyWith zeroing CaptureKind.zeroing (closedDay yard)) ∧
     (busyWith zeroing CaptureKind.zeroing (closedDay yard)).weigh = some zeroing ∧
     zeroing.phase = WeighPhase.zeroing ∧ 1 ≤ BitVec.toNat (6 : Byte) ∧ BitVec.toNat (6 : Byte) ≤ 6) ∧
    ((closedDay yard2).day.isOpen = false ∧ State.takes 0 (closedDay yard2) ∧ (closedDay yard2).weigh = none) := by
  decide +kernel

theorem test_premises_DayOpen_1 :
    (State.takes 5 (closedDay cashy) ∧ (closedDay cashy).day.isOpen = false ∧
     (closedDay cashy).flags.restarted = false) ∧
    ((closedDay cashy).identity.inForce ≠ none ∧ (closedDay cashy).flags.retainedLost.latched = false) ∧
    (State.takes 5 (closedDay forced) ∧ (closedDay forced).day.isOpen = false ∧
     (closedDay forced).flags.restarted = false) ∧
    ((closedDay forced).identity.inForce ≠ none ∧ (closedDay forced).flags.retainedLost.latched = false) ∧
    (State.takes 5 noId ∧ noId.day.isOpen = false ∧ noId.flags.restarted = false ∧ noId.identity.inForce = none) ∧
    (State.takes 5 (closedDay yard) ∧ (closedDay yard).day.isOpen = false ∧ (closedDay yard).flags.restarted = false ∧
     (closedDay yard).identity.inForce ≠ none) := by
  decide +kernel

theorem test_premises_DayOpen_2 :
    State.takes 5 lostStore ∧ lostStore.day.isOpen = false ∧ lostStore.flags.restarted = false ∧
    lostStore.identity.inForce ≠ none ∧ lostStore.flags.retainedLost.latched = true := by
  decide +kernel

theorem test_premises_DayClosePlainAndForce_1 :
    (State.takes 1 (busyWith zeroing CaptureKind.zeroing yard1) ∧
     (busyWith zeroing CaptureKind.zeroing yard1).day.isOpen = true ∧
     (busyWith zeroing CaptureKind.zeroing yard1).flags.restarted = false ∧ BitVec.toNat (1 : Byte) ≤ 1 ∧
     (busyWith zeroing CaptureKind.zeroing yard1).weigh ≠ none) ∧
    BitVec.toNat (0 : Byte) ≤ 1 ∧
    (State.takes 1 (printing PrinterState.ready (List.replicate 8 job1) yard2) ∧
     (printing PrinterState.ready (List.replicate 8 job1) yard2).day.isOpen = true ∧
     (printing PrinterState.ready (List.replicate 8 job1) yard2).flags.restarted = false ∧
     (printing PrinterState.ready (List.replicate 8 job1) yard2).weigh = none ∧
     (printing PrinterState.ready (List.replicate 8 job1) yard2).payOp = none ∧
     (∀ (e : RegEntry), e ∈ (printing PrinterState.ready (List.replicate 8 job1) yard2).tickets.register → e.life ≠ RegLife.opened) ∧
     (printing PrinterState.ready (List.replicate 8 job1) yard2).settings.receiptRequired = true ∧
     8 ≤ (printing PrinterState.ready (List.replicate 8 job1) yard2).printer.jobs.length) ∧
    (State.takes 1 yard1 ∧ yard1.day.isOpen = true ∧ yard1.flags.restarted = false ∧ yard1.weigh = none ∧
     yard1.payOp = none ∧ reg1 ∈ yard1.tickets.register ∧ reg1.life = RegLife.opened) := by
  decide +kernel

theorem test_premises_DayClosePlainAndForce_2 :
    (State.takes 1 yard2 ∧ yard2.day.isOpen = true ∧ yard2.flags.restarted = false ∧ yard2.weigh = none ∧
     yard2.payOp = none ∧ (∀ (e : RegEntry), e ∈ yard2.tickets.register → e.life ≠ RegLife.opened) ∧
     yard2.printer.jobs.length < 8 ∧ yard2.notices.queue.length < 16) ∧
    (State.takes 1 yardHeldBy5 ∧ yardHeldBy5.day.isOpen = true ∧ yardHeldBy5.flags.restarted = false ∧
     yardHeldBy5.weigh = none ∧ yardHeldBy5.payOp = none ∧ reg5 ∈ yardHeldBy5.tickets.register ∧
     reg5.life = RegLife.opened ∧ reg5.holder ≠ 0) := by
  decide +kernel

theorem test_premises_DayClosePlainAndForce_3 :
    (State.takes 1 (dry forced) ∧ (dry forced).day.isOpen = true ∧ (dry forced).flags.restarted = false ∧
     (dry forced).weigh = none ∧ (dry forced).payOp = none ∧ (dry forced).tickets.owner ≠ 0 ∧
     (∀ (e : RegEntry), e ∈ (dry forced).tickets.register → e.life = RegLife.opened → e.holder = 0) ∧
     (dry forced).printer.jobs.length < 8 ∧
     List.Pairwise (fun (a b : RegEntry) => a.serial < b.serial) (dry forced).tickets.register ∧
     (dry forced).tickets.closed.length ≤ 32 ∧ noneClosed (dry forced)) ∧
    (State.takes 1 (dry twoOpen) ∧ (dry twoOpen).day.isOpen = true ∧ (dry twoOpen).flags.restarted = false ∧
     (dry twoOpen).weigh = none ∧ (dry twoOpen).payOp = none ∧ (dry twoOpen).tickets.owner ≠ 0 ∧
     (∀ (e : RegEntry), e ∈ (dry twoOpen).tickets.register → e.life = RegLife.opened → e.holder = 0) ∧
     (dry twoOpen).printer.jobs.length < 8 ∧
     List.Pairwise (fun (a b : RegEntry) => a.serial < b.serial) (dry twoOpen).tickets.register ∧
     (dry twoOpen).tickets.closed.length ≤ 32 ∧ noneClosed (dry twoOpen)) := by
  decide +kernel

theorem test_premises_DayClosePlainAndForce_4 :
    (State.takes 1 (noPlace (dry twoOpen)) ∧ (noPlace (dry twoOpen)).day.isOpen = true ∧
     (noPlace (dry twoOpen)).flags.restarted = false ∧ (noPlace (dry twoOpen)).weigh = none ∧
     (noPlace (dry twoOpen)).payOp = none ∧ (noPlace (dry twoOpen)).tickets.owner ≠ 0 ∧
     (∀ (e : RegEntry), e ∈ (noPlace (dry twoOpen)).tickets.register → e.life = RegLife.opened → e.holder = 0) ∧
     (noPlace (dry twoOpen)).printer.jobs.length < 8 ∧
     List.Pairwise (fun (a b : RegEntry) => a.serial < b.serial) (noPlace (dry twoOpen)).tickets.register ∧
     (noPlace (dry twoOpen)).tickets.closed.length ≤ 32 ∧ noneClosed (noPlace (dry twoOpen))) ∧
    (State.takes 1 (dry yard2) ∧ (dry yard2).day.isOpen = true ∧ (dry yard2).flags.restarted = false ∧
     (dry yard2).weigh = none ∧ (dry yard2).payOp = none ∧ (dry yard2).tickets.owner ≠ 0 ∧
     (∀ (e : RegEntry), e ∈ (dry yard2).tickets.register → e.life = RegLife.opened → e.holder = 0) ∧
     (dry yard2).printer.jobs.length < 8 ∧
     List.Pairwise (fun (a b : RegEntry) => a.serial < b.serial) (dry yard2).tickets.register ∧
     (dry yard2).tickets.closed.length ≤ 32 ∧ noneClosed (dry yard2)) := by
  decide +kernel

theorem test_premises_YardClock :
    State.reset.day.tick = none ∧
    (yard.powered = true ∧ yard.day.tick = some 1000 ∧ yard.day.clock ≤ 172799 ∧ yard.day.clock ≠ 172798) ∧
    (atTop.powered = true ∧ atTop.day.tick = some 1000 ∧ atTop.day.clock ≤ 172799 ∧ atTop.day.clock ≠ 172798) ∧
    ((nearTop yard).powered = true ∧ (nearTop yard).day.tick = some 1000 ∧ (nearTop yard).day.clock = 172798 ∧
     (nearTop yard).notices.queue.length < 16) ∧
    (nearTopOff.powered = false ∧ nearTopOff.day.tick = some 1000 ∧ nearTopOff.day.clock < 172799) := by
  decide +kernel

theorem test_premises_NewTicketAndZeroOpenAContext_1 :
    (State.takes (textBytes noText ++ textBytes noText).length yard ∧ yard.hasWeigh = true ∧ yard.day.isOpen = true ∧
     yard.flags.restarted = false ∧ yard.weigh = none ∧ List.length noText ≤ 12 ∧ List.length noText ≤ 16 ∧
     (∀ (c : Nat), c ∈ noText ++ noText → 32 ≤ c ∧ c ≤ 126) ∧ gatePasses GatedOp.newTicket yard = true ∧
     yard.link.state ≠ LinkState.silent ∧ yard.tickets.table.length < 48 ∧ yard.tickets.register.length < 1024 ∧
     (yard.settings.receiptRequired = true → yard.printer.jobs.length < 8)) ∧
    (State.takes (textBytes longTag ++ textBytes longSeller).length yard ∧ List.length longTag ≤ 12 ∧
     List.length longSeller ≤ 16 ∧ (∀ (c : Nat), c ∈ longTag ++ longSeller → 32 ≤ c ∧ c ≤ 126)) := by
  decide +kernel

theorem test_premises_NewTicketAndZeroOpenAContext_2 :
    (State.takes (textBytes noText ++ textBytes noText).length roomless ∧ roomless.hasWeigh = true ∧
     roomless.day.isOpen = true ∧ roomless.flags.restarted = false ∧ roomless.weigh = none ∧
     gatePasses GatedOp.newTicket roomless = true ∧ roomless.link.state ≠ LinkState.silent ∧
     48 ≤ roomless.tickets.table.length) ∧
    (State.takes (textBytes noText ++ textBytes noText).length homeFull ∧ homeFull.hasWeigh = true ∧
     homeFull.day.isOpen = true ∧ homeFull.flags.restarted = false ∧ homeFull.weigh = none ∧
     gatePasses GatedOp.newTicket homeFull = true ∧ homeFull.link.state ≠ LinkState.silent ∧
     homeFull.tickets.table.length < 48 ∧ 1024 ≤ homeFull.tickets.register.length) ∧
    (State.takes 0 (busyWith zeroing CaptureKind.zeroing yard) ∧
     (busyWith zeroing CaptureKind.zeroing yard).hasWeigh = true ∧
     gatePasses GatedOp.zero (busyWith zeroing CaptureKind.zeroing yard) = true ∧
     (busyWith zeroing CaptureKind.zeroing yard).weigh ≠ none) := by
  decide +kernel

theorem test_premises_NewTicketAndZeroOpenAContext_3 :
    (State.takes 0 (closedDay yard) ∧ (closedDay yard).hasWeigh = true ∧
     gatePasses GatedOp.zero (closedDay yard) = true ∧ (closedDay yard).weigh = none) ∧
    (State.takes 0 reconfigured ∧ reconfigured.hasWeigh = true ∧ gatePasses GatedOp.zero reconfigured = true ∧
     reconfigured.weigh = none) := by
  decide +kernel

theorem test_premises_WeighStepAsksForCustody_1 :
    (State.takes 7 (busyWith zeroing CaptureKind.zeroing yard1) ∧
     (busyWith zeroing CaptureKind.zeroing yard1).hasWeigh = true ∧
     (busyWith zeroing CaptureKind.zeroing yard1).day.isOpen = true ∧
     (busyWith zeroing CaptureKind.zeroing yard1).flags.restarted = false ∧ t21.home ≤ 255 ∧ t21.serial ≤ 65535 ∧
     (busyWith zeroing CaptureKind.zeroing yard1).weigh ≠ none) ∧
    (State.takes 7 yard1 ∧ yard1.hasWeigh = true ∧ yard1.day.isOpen = true ∧ yard1.flags.restarted = false ∧
     t01.home ≤ 255 ∧ t01.serial ≤ 65535 ∧ yard1.weigh = none ∧ ¬State.stepInRange t01 3 0 0 yard1) ∧
    (t16.home ≤ 255 ∧ t16.serial ≤ 65535 ∧ ¬State.stepInRange t16 3 0 0 yard1) ∧
    (t20.home ≤ 255 ∧ t20.serial ≤ 65535 ∧ ¬State.stepInRange t20 3 0 0 yard1) ∧
    ¬State.stepInRange t21 0 0 0 yard1 := by
  decide +kernel

theorem test_premises_WeighStepAsksForCustody_2 :
    ¬State.stepInRange t21 33 0 0 yard1 ∧
    ¬State.stepInRange t21 4 0 0 yard1 ∧
    ¬State.stepInRange t21 3 501 0 yard1 ∧
    ¬State.stepInRange t21 3 0 2 yard1 ∧
    (t255Last.home ≤ 255 ∧ t255Last.serial ≤ 65535 ∧ ¬State.stepInRange t255Last 255 65535 255 yard1) ∧
    (State.takes 7 (halted yard1) ∧ (halted yard1).hasWeigh = true ∧ (halted yard1).day.isOpen = true ∧
     (halted yard1).flags.restarted = false ∧ (halted yard1).weigh = none ∧
     State.stepInRange t21 3 0 0 (halted yard1) ∧ gatePasses GatedOp.weighStep (halted yard1) = false) := by
  decide +kernel

theorem test_premises_WeighStepAsksForCustody_3 :
    (State.takes 7 (closedAt t22 yard) ∧ (closedAt t22 yard).hasWeigh = true ∧ (closedAt t22 yard).day.isOpen = true ∧
     (closedAt t22 yard).flags.restarted = false ∧ t22.home ≤ 255 ∧ t22.serial ≤ 65535 ∧
     (closedAt t22 yard).weigh = none ∧ State.stepInRange t22 3 0 0 (closedAt t22 yard) ∧
     gatePasses GatedOp.weighStep (closedAt t22 yard) = true ∧ State.isClosed t22 (closedAt t22 yard) = true) ∧
    (State.takes 7 yard ∧ yard.hasWeigh = true ∧ yard.day.isOpen = true ∧ yard.flags.restarted = false ∧
     t15Last.home ≤ 255 ∧ t15Last.serial ≤ 65535 ∧ yard.weigh = none ∧ State.stepInRange t15Last 3 0 0 yard ∧
     gatePasses GatedOp.weighStep yard = true ∧ State.isClosed t15Last yard = false ∧
     State.findRecord t15Last yard = none) := by
  decide +kernel

theorem test_premises_WeighStepAsksForCustody_4 :
    (State.takes 7 (holding staleFree reg1 yard) ∧ (holding staleFree reg1 yard).hasWeigh = true ∧
     (holding staleFree reg1 yard).day.isOpen = true ∧ (holding staleFree reg1 yard).flags.restarted = false ∧
     (holding staleFree reg1 yard).weigh = none ∧ State.stepInRange t21 3 0 0 (holding staleFree reg1 yard) ∧
     gatePasses GatedOp.weighStep (holding staleFree reg1 yard) = true ∧
     State.isClosed t21 (holding staleFree reg1 yard) = false ∧
     State.findRecord t21 (holding staleFree reg1 yard) = some staleFree ∧ staleFree.stale = true) ∧
    (State.takes 7 (queued [askItem] (holding staleFree reg1 yard)) ∧
     (queued [askItem] (holding staleFree reg1 yard)).hasWeigh = true ∧
     (queued [askItem] (holding staleFree reg1 yard)).day.isOpen = true ∧
     (queued [askItem] (holding staleFree reg1 yard)).flags.restarted = false ∧
     (queued [askItem] (holding staleFree reg1 yard)).weigh = none ∧
     State.stepInRange t21 3 0 0 (queued [askItem] (holding staleFree reg1 yard)) ∧
     gatePasses GatedOp.weighStep (queued [askItem] (holding staleFree reg1 yard)) = true ∧
     State.isClosed t21 (queued [askItem] (holding staleFree reg1 yard)) = false ∧
     State.findRecord t21 (queued [askItem] (holding staleFree reg1 yard)) = some staleFree) := by
  decide +kernel

theorem test_premises_WeighStepAsksForCustody_5 :
    (State.takes 7 (linked LinkState.down (holding staleFree reg1 yard)) ∧
     (linked LinkState.down (holding staleFree reg1 yard)).hasWeigh = true ∧
     (linked LinkState.down (holding staleFree reg1 yard)).day.isOpen = true ∧
     (linked LinkState.down (holding staleFree reg1 yard)).flags.restarted = false ∧
     (linked LinkState.down (holding staleFree reg1 yard)).weigh = none ∧
     State.stepInRange t21 3 0 0 (linked LinkState.down (holding staleFree reg1 yard)) ∧
     gatePasses GatedOp.weighStep (linked LinkState.down (holding staleFree reg1 yard)) = true ∧
     State.isClosed t21 (linked LinkState.down (holding staleFree reg1 yard)) = false ∧
     State.findRecord t21 (linked LinkState.down (holding staleFree reg1 yard)) = some staleFree) ∧
    (State.takes 7 (linked LinkState.silent (holding staleFree reg1 yard)) ∧
     (linked LinkState.silent (holding staleFree reg1 yard)).hasWeigh = true ∧
     (linked LinkState.silent (holding staleFree reg1 yard)).day.isOpen = true ∧
     (linked LinkState.silent (holding staleFree reg1 yard)).flags.restarted = false ∧
     (linked LinkState.silent (holding staleFree reg1 yard)).weigh = none ∧
     State.stepInRange t21 3 0 0 (linked LinkState.silent (holding staleFree reg1 yard)) ∧
     gatePasses GatedOp.weighStep (linked LinkState.silent (holding staleFree reg1 yard)) = true ∧
     State.isClosed t21 (linked LinkState.silent (holding staleFree reg1 yard)) = false ∧
     State.findRecord t21 (linked LinkState.silent (holding staleFree reg1 yard)) = some staleFree) := by
  decide +kernel

theorem test_premises_WeighStepAsksForCustody_6 :
    (State.takes 7 (noPlace (holding staleFree reg1 yard)) ∧ (noPlace (holding staleFree reg1 yard)).hasWeigh = true ∧
     (noPlace (holding staleFree reg1 yard)).day.isOpen = true ∧
     (noPlace (holding staleFree reg1 yard)).flags.restarted = false ∧
     (noPlace (holding staleFree reg1 yard)).weigh = none ∧
     State.stepInRange t21 3 0 0 (noPlace (holding staleFree reg1 yard)) ∧
     gatePasses GatedOp.weighStep (noPlace (holding staleFree reg1 yard)) = true ∧
     State.isClosed t21 (noPlace (holding staleFree reg1 yard)) = false ∧
     State.findRecord t21 (noPlace (holding staleFree reg1 yard)) = some staleFree) ∧
    (State.takes 7 yard2reg ∧ yard2reg.hasWeigh = true ∧ yard2reg.day.isOpen = true ∧
     yard2reg.flags.restarted = false ∧ yard2reg.weigh = none ∧ State.stepInRange t21 3 0 0 yard2reg ∧
     gatePasses GatedOp.weighStep yard2reg = true ∧ State.isClosed t21 yard2reg = false ∧
     State.findRecord t21 yard2reg = some rec2 ∧ rec2.stale = false ∧
     ¬(fun (life : Life) => life = Life.opened) rec2.life) := by
  decide +kernel

theorem test_premises_WeighStepAsksForCustody_7 :
    State.takes 7 (taken 5) ∧ (taken 5).hasWeigh = true ∧ (taken 5).day.isOpen = true ∧
    (taken 5).flags.restarted = false ∧ (taken 5).weigh = none ∧ State.stepInRange t21 3 0 0 (taken 5) ∧
    gatePasses GatedOp.weighStep (taken 5) = true ∧ State.isClosed t21 (taken 5) = false ∧
    State.findRecord t21 (taken 5) = some (takenRec 5) ∧ (takenRec 5).stale = false ∧
    (fun (life : Life) => life = Life.opened) (takenRec 5).life ∧ (takenRec 5).custody ≠ Custody.free := by
  decide +kernel

theorem test_premises_WeighStepAsksForCustody_8 :
    State.takes 7 (holding rec7 reg1 yard) ∧ (holding rec7 reg1 yard).hasWeigh = true ∧
    (holding rec7 reg1 yard).day.isOpen = true ∧ (holding rec7 reg1 yard).flags.restarted = false ∧
    (holding rec7 reg1 yard).weigh = none ∧ State.stepInRange t21 3 0 0 (holding rec7 reg1 yard) ∧
    gatePasses GatedOp.weighStep (holding rec7 reg1 yard) = true ∧
    State.isClosed t21 (holding rec7 reg1 yard) = false ∧ State.findRecord t21 (holding rec7 reg1 yard) = some rec7 ∧
    rec7.stale = false ∧ (fun (life : Life) => life = Life.opened) rec7.life ∧ rec7.custody = Custody.free ∧
    (rec7.lines.length = 7 ∧ 0 = 0 ∨ 8 ≤ rec7.lines.length) := by
  decide +kernel

theorem test_premises_WeighStepAsksForCustody_9 :
    State.takes 7 (holding rec8 reg1 yard) ∧ (holding rec8 reg1 yard).hasWeigh = true ∧
    (holding rec8 reg1 yard).day.isOpen = true ∧ (holding rec8 reg1 yard).flags.restarted = false ∧
    (holding rec8 reg1 yard).weigh = none ∧ State.stepInRange t21 3 0 1 (holding rec8 reg1 yard) ∧
    gatePasses GatedOp.weighStep (holding rec8 reg1 yard) = true ∧
    State.isClosed t21 (holding rec8 reg1 yard) = false ∧ State.findRecord t21 (holding rec8 reg1 yard) = some rec8 ∧
    rec8.stale = false ∧ (fun (life : Life) => life = Life.opened) rec8.life ∧ rec8.custody = Custody.free ∧
    (rec8.lines.length = 7 ∧ 1 = 0 ∨ 8 ≤ rec8.lines.length) := by
  decide +kernel

theorem test_premises_WeighStepAsksForCustody_10 :
    State.takes 7 (printing PrinterState.ready eightJobs yard1) ∧
    (printing PrinterState.ready eightJobs yard1).hasWeigh = true ∧
    (printing PrinterState.ready eightJobs yard1).day.isOpen = true ∧
    (printing PrinterState.ready eightJobs yard1).flags.restarted = false ∧
    (printing PrinterState.ready eightJobs yard1).weigh = none ∧
    State.stepInRange t21 3 0 0 (printing PrinterState.ready eightJobs yard1) ∧
    gatePasses GatedOp.weighStep (printing PrinterState.ready eightJobs yard1) = true ∧
    State.isClosed t21 (printing PrinterState.ready eightJobs yard1) = false ∧
    State.findRecord t21 (printing PrinterState.ready eightJobs yard1) = some rec1 ∧ rec1.stale = false ∧
    (fun (life : Life) => life = Life.opened) rec1.life ∧ rec1.custody = Custody.free ∧
    (¬(rec1.lines.length = 7 ∧ 0 = 0 ∨ 8 ≤ rec1.lines.length)) ∧
    ((printing PrinterState.ready eightJobs yard1).settings.receiptRequired = true ∧ 8 ≤ (printing PrinterState.ready eightJobs yard1).printer.jobs.length) := by
  decide +kernel

theorem test_premises_WeighStepAsksForCustody_11 :
    (State.takes 7 (homeAway old5) ∧ (homeAway old5).hasWeigh = true ∧ (homeAway old5).day.isOpen = true ∧
     (homeAway old5).flags.restarted = false ∧ t5Last.home ≤ 255 ∧ t5Last.serial ≤ 65535 ∧
     (homeAway old5).weigh = none ∧ State.stepInRange t5Last 3 0 0 (homeAway old5) ∧
     gatePasses GatedOp.weighStep (homeAway old5) = true ∧ State.isClosed t5Last (homeAway old5) = false ∧
     State.findRecord t5Last (homeAway old5) = some old5 ∧ old5.stale = false ∧
     (fun (life : Life) => life = Life.opened) old5.life ∧ old5.custody = Custody.free ∧
     (¬(old5.lines.length = 7 ∧ 0 = 0 ∨ 8 ≤ old5.lines.length)) ∧
     (¬((homeAway old5).settings.receiptRequired = true ∧ 8 ≤ (homeAway old5).printer.jobs.length))) ∧
    ((homeAway old5).link.state = LinkState.up ∧ ¬State.homeSeen t5Last (homeAway old5)) := by
  decide +kernel

theorem test_premises_WeighStepAsksForCustody_12 :
    (State.takes 7 (linked LinkState.alone (holding old5 reg1 yard)) ∧
     (linked LinkState.alone (holding old5 reg1 yard)).hasWeigh = true ∧
     (linked LinkState.alone (holding old5 reg1 yard)).day.isOpen = true ∧
     (linked LinkState.alone (holding old5 reg1 yard)).flags.restarted = false ∧
     (linked LinkState.alone (holding old5 reg1 yard)).weigh = none ∧
     State.stepInRange t5Last 3 0 0 (linked LinkState.alone (holding old5 reg1 yard)) ∧
     gatePasses GatedOp.weighStep (linked LinkState.alone (holding old5 reg1 yard)) = true ∧
     State.isClosed t5Last (linked LinkState.alone (holding old5 reg1 yard)) = false ∧
     State.findRecord t5Last (linked LinkState.alone (holding old5 reg1 yard)) = some old5 ∧
     (¬((linked LinkState.alone (holding old5 reg1 yard)).settings.receiptRequired = true ∧ 8 ≤ (linked LinkState.alone (holding old5 reg1 yard)).printer.jobs.length)) ∧
     ((linked LinkState.alone (holding old5 reg1 yard)).link.state = LinkState.alone ∧ t5Last.home ≠ (linked LinkState.alone (holding old5 reg1 yard)).myId ∧ (linked LinkState.alone (holding old5 reg1 yard)).settings.homeCheck = true)) ∧
    (State.takes 7 (linked LinkState.down (holding old5 reg1 yard)) ∧
     (linked LinkState.down (holding old5 reg1 yard)).hasWeigh = true ∧
     (linked LinkState.down (holding old5 reg1 yard)).day.isOpen = true ∧
     (linked LinkState.down (holding old5 reg1 yard)).flags.restarted = false ∧
     (linked LinkState.down (holding old5 reg1 yard)).weigh = none ∧
     State.stepInRange t5Last 3 0 0 (linked LinkState.down (holding old5 reg1 yard)) ∧
     gatePasses GatedOp.weighStep (linked LinkState.down (holding old5 reg1 yard)) = true ∧
     State.isClosed t5Last (linked LinkState.down (holding old5 reg1 yard)) = false ∧
     State.findRecord t5Last (linked LinkState.down (holding old5 reg1 yard)) = some old5 ∧
     (¬((linked LinkState.down (holding old5 reg1 yard)).settings.receiptRequired = true ∧ 8 ≤ (linked LinkState.down (holding old5 reg1 yard)).printer.jobs.length)) ∧
     ((linked LinkState.down (holding old5 reg1 yard)).link.state = LinkState.down ∧ t5Last.home ≠ (linked LinkState.down (holding old5 reg1 yard)).myId)) := by
  decide +kernel

theorem test_premises_WeighStepAsksForCustody_13 :
    (State.takes 7 (linked LinkState.silent yard1) ∧ (linked LinkState.silent yard1).hasWeigh = true ∧
     (linked LinkState.silent yard1).day.isOpen = true ∧ (linked LinkState.silent yard1).flags.restarted = false ∧
     (linked LinkState.silent yard1).weigh = none ∧ State.stepInRange t21 3 0 0 (linked LinkState.silent yard1) ∧
     gatePasses GatedOp.weighStep (linked LinkState.silent yard1) = true ∧
     State.isClosed t21 (linked LinkState.silent yard1) = false ∧
     State.findRecord t21 (linked LinkState.silent yard1) = some rec1 ∧
     (¬((linked LinkState.silent yard1).settings.receiptRequired = true ∧ 8 ≤ (linked LinkState.silent yard1).printer.jobs.length)) ∧
     (linked LinkState.silent yard1).link.state = LinkState.silent) ∧
    (State.takes 7 (joining yard1) ∧ (joining yard1).hasWeigh = true ∧ (joining yard1).day.isOpen = true ∧
     (joining yard1).flags.restarted = false ∧ (joining yard1).weigh = none ∧
     State.stepInRange t21 3 0 0 (joining yard1) ∧ gatePasses GatedOp.weighStep (joining yard1) = true ∧
     State.isClosed t21 (joining yard1) = false ∧ State.findRecord t21 (joining yard1) = some rec1 ∧
     (¬((joining yard1).settings.receiptRequired = true ∧ 8 ≤ (joining yard1).printer.jobs.length)) ∧
     (joining yard1).link.state = LinkState.joining) := by
  decide +kernel

theorem test_premises_WeighStepAsksForCustody_14 :
    (State.takes 7 (noPlace yard1) ∧ (noPlace yard1).hasWeigh = true ∧ (noPlace yard1).day.isOpen = true ∧
     (noPlace yard1).flags.restarted = false ∧ (noPlace yard1).weigh = none ∧
     State.stepInRange t21 3 0 0 (noPlace yard1) ∧ gatePasses GatedOp.weighStep (noPlace yard1) = true ∧
     State.isClosed t21 (noPlace yard1) = false ∧ State.findRecord t21 (noPlace yard1) = some rec1 ∧
     (¬((noPlace yard1).settings.receiptRequired = true ∧ 8 ≤ (noPlace yard1).printer.jobs.length)) ∧
     ((noPlace yard1).link.state = LinkState.up ∧ State.homeSeen t21 (noPlace yard1) ∧ 24 ≤ (noPlace yard1).occupied)) ∧
    (State.stepInRange t21 3 500 1 yard1 ∧ gatePasses GatedOp.weighStep yard1 = true ∧
     State.isClosed t21 yard1 = false ∧ State.findRecord t21 yard1 = some rec1 ∧
     (¬(rec1.lines.length = 7 ∧ 1 = 0 ∨ 8 ≤ rec1.lines.length)) ∧
     (¬(yard1.settings.receiptRequired = true ∧ 8 ≤ yard1.printer.jobs.length)) ∧ State.claimQueues t21 yard1) := by
  decide +kernel

theorem test_premises_WeighStepAsksForCustody_15 :
    State.takes 7 (holding rec7 reg1 (noCheck lonely)) ∧ (holding rec7 reg1 (noCheck lonely)).hasWeigh = true ∧
    (holding rec7 reg1 (noCheck lonely)).day.isOpen = true ∧
    (holding rec7 reg1 (noCheck lonely)).flags.restarted = false ∧ (holding rec7 reg1 (noCheck lonely)).weigh = none ∧
    State.stepInRange t21 3 0 1 (holding rec7 reg1 (noCheck lonely)) ∧
    gatePasses GatedOp.weighStep (holding rec7 reg1 (noCheck lonely)) = true ∧
    State.isClosed t21 (holding rec7 reg1 (noCheck lonely)) = false ∧
    State.findRecord t21 (holding rec7 reg1 (noCheck lonely)) = some rec7 ∧
    (¬(rec7.lines.length = 7 ∧ 1 = 0 ∨ 8 ≤ rec7.lines.length)) ∧
    (¬((holding rec7 reg1 (noCheck lonely)).settings.receiptRequired = true ∧ 8 ≤ (holding rec7 reg1 (noCheck lonely)).printer.jobs.length)) ∧
    State.claimQueues t21 (holding rec7 reg1 (noCheck lonely)) := by
  decide +kernel

theorem test_premises_WeighStepAsksForCustody_16 :
    (State.takes 7 (noCheck (homeAway old5)) ∧ (noCheck (homeAway old5)).hasWeigh = true ∧
     (noCheck (homeAway old5)).day.isOpen = true ∧ (noCheck (homeAway old5)).flags.restarted = false ∧
     (noCheck (homeAway old5)).weigh = none ∧ State.stepInRange t5Last 3 0 0 (noCheck (homeAway old5)) ∧
     gatePasses GatedOp.weighStep (noCheck (homeAway old5)) = true ∧
     State.isClosed t5Last (noCheck (homeAway old5)) = false ∧
     State.findRecord t5Last (noCheck (homeAway old5)) = some old5 ∧
     (¬((noCheck (homeAway old5)).settings.receiptRequired = true ∧ 8 ≤ (noCheck (homeAway old5)).printer.jobs.length)) ∧
     State.claimQueues t5Last (noCheck (homeAway old5))) ∧
    (State.takes 7 (linked LinkState.alone yard1) ∧ (linked LinkState.alone yard1).hasWeigh = true ∧
     (linked LinkState.alone yard1).day.isOpen = true ∧ (linked LinkState.alone yard1).flags.restarted = false ∧
     (linked LinkState.alone yard1).weigh = none ∧ State.stepInRange t21 3 0 0 (linked LinkState.alone yard1) ∧
     gatePasses GatedOp.weighStep (linked LinkState.alone yard1) = true ∧
     State.isClosed t21 (linked LinkState.alone yard1) = false ∧
     State.findRecord t21 (linked LinkState.alone yard1) = some rec1 ∧
     (¬((linked LinkState.alone yard1).settings.receiptRequired = true ∧ 8 ≤ (linked LinkState.alone yard1).printer.jobs.length)) ∧
     ((linked LinkState.alone yard1).link.state = LinkState.alone ∧ (t21.home = (linked LinkState.alone yard1).myId ∨ (linked LinkState.alone yard1).settings.homeCheck = false))) := by
  decide +kernel

theorem test_premises_WeighStepAsksForCustody_17 :
    State.takes 7 (linked LinkState.alone (noCheck (holding old5 reg1 yard))) ∧
    (linked LinkState.alone (noCheck (holding old5 reg1 yard))).hasWeigh = true ∧
    (linked LinkState.alone (noCheck (holding old5 reg1 yard))).day.isOpen = true ∧
    (linked LinkState.alone (noCheck (holding old5 reg1 yard))).flags.restarted = false ∧
    (linked LinkState.alone (noCheck (holding old5 reg1 yard))).weigh = none ∧
    State.stepInRange t5Last 3 0 1 (linked LinkState.alone (noCheck (holding old5 reg1 yard))) ∧
    gatePasses GatedOp.weighStep (linked LinkState.alone (noCheck (holding old5 reg1 yard))) = true ∧
    State.isClosed t5Last (linked LinkState.alone (noCheck (holding old5 reg1 yard))) = false ∧
    State.findRecord t5Last (linked LinkState.alone (noCheck (holding old5 reg1 yard))) = some old5 ∧
    (¬(old5.lines.length = 7 ∧ 1 = 0 ∨ 8 ≤ old5.lines.length)) ∧
    (¬((linked LinkState.alone (noCheck (holding old5 reg1 yard))).settings.receiptRequired = true ∧ 8 ≤ (linked LinkState.alone (noCheck (holding old5 reg1 yard))).printer.jobs.length)) ∧
    ((linked LinkState.alone (noCheck (holding old5 reg1 yard))).link.state = LinkState.alone ∧ (t5Last.home = (linked LinkState.alone (noCheck (holding old5 reg1 yard))).myId ∨ (linked LinkState.alone (noCheck (holding old5 reg1 yard))).settings.homeCheck = false)) := by
  decide +kernel

theorem test_premises_WeighStepAsksForCustody_18 :
    State.takes 7 (linked LinkState.down (noPlace yard1)) ∧ (linked LinkState.down (noPlace yard1)).hasWeigh = true ∧
    (linked LinkState.down (noPlace yard1)).day.isOpen = true ∧
    (linked LinkState.down (noPlace yard1)).flags.restarted = false ∧
    (linked LinkState.down (noPlace yard1)).weigh = none ∧
    State.stepInRange t21 3 0 1 (linked LinkState.down (noPlace yard1)) ∧
    gatePasses GatedOp.weighStep (linked LinkState.down (noPlace yard1)) = true ∧
    State.isClosed t21 (linked LinkState.down (noPlace yard1)) = false ∧
    State.findRecord t21 (linked LinkState.down (noPlace yard1)) = some rec1 ∧
    (¬((linked LinkState.down (noPlace yard1)).settings.receiptRequired = true ∧ 8 ≤ (linked LinkState.down (noPlace yard1)).printer.jobs.length)) ∧
    ((linked LinkState.down (noPlace yard1)).link.state = LinkState.down ∧ t21.home = (linked LinkState.down (noPlace yard1)).myId) := by
  decide +kernel

theorem test_premises_VoidTicketCommitsOrClaims_1 :
    (State.takes 3 (busyWith zeroing CaptureKind.zeroing (as 1 yard1)) ∧
     (busyWith zeroing CaptureKind.zeroing (as 1 yard1)).day.isOpen = true ∧
     (busyWith zeroing CaptureKind.zeroing (as 1 yard1)).flags.restarted = false ∧ t21.home ≤ 255 ∧
     t21.serial ≤ 65535 ∧
     ¬State.slotIdle (State.voidRunsIn t21 (busyWith zeroing CaptureKind.zeroing (as 1 yard1))) (busyWith zeroing CaptureKind.zeroing (as 1 yard1))) ∧
    (State.takes 3 (as 2 offering) ∧ (as 2 offering).day.isOpen = true ∧ (as 2 offering).flags.restarted = false ∧
     ¬State.slotIdle (State.voidRunsIn t21 (as 2 offering)) (as 2 offering)) ∧
    (State.takes 3 yard1 ∧ yard1.day.isOpen = true ∧ yard1.flags.restarted = false ∧ t01.home ≤ 255 ∧
     t01.serial ≤ 65535 ∧ State.slotIdle (State.voidRunsIn t01 yard1) yard1 ∧ ¬ticketInRange t01) ∧
    (t16.home ≤ 255 ∧ t16.serial ≤ 65535 ∧ State.slotIdle (State.voidRunsIn t16 yard1) yard1 ∧ ¬ticketInRange t16) := by
  decide +kernel

theorem test_premises_VoidTicketCommitsOrClaims_2 :
    (t20.home ≤ 255 ∧ t20.serial ≤ 65535 ∧ State.slotIdle (State.voidRunsIn t20 yard1) yard1 ∧ ¬ticketInRange t20) ∧
    (t255Last.home ≤ 255 ∧ t255Last.serial ≤ 65535 ∧ State.slotIdle (State.voidRunsIn t255Last yard1) yard1 ∧
     ¬ticketInRange t255Last) ∧
    (State.takes 3 (halted yard1) ∧ (halted yard1).day.isOpen = true ∧ (halted yard1).flags.restarted = false ∧
     State.slotIdle (State.voidRunsIn t21 (halted yard1)) (halted yard1) ∧ ticketInRange t21 ∧
     gatePasses GatedOp.voidTicket (halted yard1) = false) := by
  decide +kernel

theorem test_premises_VoidTicketCommitsOrClaims_3 :
    (State.takes 3 (closedAt t22 yard) ∧ (closedAt t22 yard).day.isOpen = true ∧
     (closedAt t22 yard).flags.restarted = false ∧ t22.home ≤ 255 ∧ t22.serial ≤ 65535 ∧
     State.slotIdle (State.voidRunsIn t22 (closedAt t22 yard)) (closedAt t22 yard) ∧ ticketInRange t22 ∧
     gatePasses GatedOp.voidTicket (closedAt t22 yard) = true ∧ State.isClosed t22 (closedAt t22 yard) = true) ∧
    (State.takes 3 yard ∧ yard.day.isOpen = true ∧ yard.flags.restarted = false ∧ t15Last.home ≤ 255 ∧
     t15Last.serial ≤ 65535 ∧ State.slotIdle (State.voidRunsIn t15Last yard) yard ∧ ticketInRange t15Last ∧
     gatePasses GatedOp.voidTicket yard = true ∧ State.isClosed t15Last yard = false ∧
     State.findRecord t15Last yard = none) := by
  decide +kernel

theorem test_premises_VoidTicketCommitsOrClaims_4 :
    (State.takes 3 (as 2 (holding stale3 settled1 yard)) ∧ (as 2 (holding stale3 settled1 yard)).day.isOpen = true ∧
     (as 2 (holding stale3 settled1 yard)).flags.restarted = false ∧
     State.slotIdle (State.voidRunsIn t21 (as 2 (holding stale3 settled1 yard))) (as 2 (holding stale3 settled1 yard)) ∧
     gatePasses GatedOp.voidTicket (as 2 (holding stale3 settled1 yard)) = true ∧
     State.isClosed t21 (as 2 (holding stale3 settled1 yard)) = false ∧
     State.findRecord t21 (as 2 (holding stale3 settled1 yard)) = some stale3 ∧ stale3.stale = true) ∧
    (State.takes 3 (taken 5) ∧ (taken 5).day.isOpen = true ∧ (taken 5).flags.restarted = false ∧
     State.slotIdle (State.voidRunsIn t21 (taken 5)) (taken 5) ∧ gatePasses GatedOp.voidTicket (taken 5) = true ∧
     State.isClosed t21 (taken 5) = false ∧ State.findRecord t21 (taken 5) = some (takenRec 5) ∧
     (takenRec 5).stale = false ∧ (fun (x : Life) => True) (takenRec 5).life ∧ (takenRec 5).custody ≠ Custody.free) := by
  decide +kernel

theorem test_premises_VoidTicketCommitsOrClaims_5 :
    State.takes 3 (printing PrinterState.ready eightJobs yard1) ∧
    (printing PrinterState.ready eightJobs yard1).day.isOpen = true ∧
    (printing PrinterState.ready eightJobs yard1).flags.restarted = false ∧
    State.slotIdle (State.voidRunsIn t21 (printing PrinterState.ready eightJobs yard1)) (printing PrinterState.ready eightJobs yard1) ∧
    gatePasses GatedOp.voidTicket (printing PrinterState.ready eightJobs yard1) = true ∧
    State.isClosed t21 (printing PrinterState.ready eightJobs yard1) = false ∧
    State.findRecord t21 (printing PrinterState.ready eightJobs yard1) = some rec1 ∧ rec1.stale = false ∧
    (fun (x : Life) => True) rec1.life ∧ rec1.custody = Custody.free ∧
    ((printing PrinterState.ready eightJobs yard1).settings.receiptRequired = true ∧ 8 ≤ (printing PrinterState.ready eightJobs yard1).printer.jobs.length) := by
  decide +kernel

theorem test_premises_VoidTicketCommitsOrClaims_6 :
    State.takes 3 (homeAway old5) ∧ (homeAway old5).day.isOpen = true ∧ (homeAway old5).flags.restarted = false ∧
    t5Last.home ≤ 255 ∧ t5Last.serial ≤ 65535 ∧
    State.slotIdle (State.voidRunsIn t5Last (homeAway old5)) (homeAway old5) ∧ ticketInRange t5Last ∧
    gatePasses GatedOp.voidTicket (homeAway old5) = true ∧ State.isClosed t5Last (homeAway old5) = false ∧
    State.findRecord t5Last (homeAway old5) = some old5 ∧ old5.stale = false ∧ (fun (x : Life) => True) old5.life ∧
    old5.custody = Custody.free ∧
    (¬((homeAway old5).settings.receiptRequired = true ∧ 8 ≤ (homeAway old5).printer.jobs.length)) ∧
    ((homeAway old5).link.state = LinkState.up ∧ ¬State.homeSeen t5Last (homeAway old5)) := by
  decide +kernel

theorem test_premises_VoidTicketCommitsOrClaims_7 :
    (State.takes 3 (linked LinkState.alone (holding pay5 reg1 yard)) ∧
     (linked LinkState.alone (holding pay5 reg1 yard)).day.isOpen = true ∧
     (linked LinkState.alone (holding pay5 reg1 yard)).flags.restarted = false ∧
     State.slotIdle (State.voidRunsIn t5Last (linked LinkState.alone (holding pay5 reg1 yard))) (linked LinkState.alone (holding pay5 reg1 yard)) ∧
     gatePasses GatedOp.voidTicket (linked LinkState.alone (holding pay5 reg1 yard)) = true ∧
     State.isClosed t5Last (linked LinkState.alone (holding pay5 reg1 yard)) = false ∧
     State.findRecord t5Last (linked LinkState.alone (holding pay5 reg1 yard)) = some pay5 ∧ pay5.stale = false ∧
     (fun (x : Life) => True) pay5.life ∧ pay5.custody = Custody.free ∧
     (¬((linked LinkState.alone (holding pay5 reg1 yard)).settings.receiptRequired = true ∧ 8 ≤ (linked LinkState.alone (holding pay5 reg1 yard)).printer.jobs.length)) ∧
     ((linked LinkState.alone (holding pay5 reg1 yard)).link.state = LinkState.alone ∧ t5Last.home ≠ (linked LinkState.alone (holding pay5 reg1 yard)).myId ∧ (linked LinkState.alone (holding pay5 reg1 yard)).settings.homeCheck = true)) ∧
    (State.takes 3 (linked LinkState.down (holding pay5 reg1 yard)) ∧
     (linked LinkState.down (holding pay5 reg1 yard)).day.isOpen = true ∧
     (linked LinkState.down (holding pay5 reg1 yard)).flags.restarted = false ∧
     State.slotIdle (State.voidRunsIn t5Last (linked LinkState.down (holding pay5 reg1 yard))) (linked LinkState.down (holding pay5 reg1 yard)) ∧
     gatePasses GatedOp.voidTicket (linked LinkState.down (holding pay5 reg1 yard)) = true ∧
     State.isClosed t5Last (linked LinkState.down (holding pay5 reg1 yard)) = false ∧
     State.findRecord t5Last (linked LinkState.down (holding pay5 reg1 yard)) = some pay5 ∧
     (¬((linked LinkState.down (holding pay5 reg1 yard)).settings.receiptRequired = true ∧ 8 ≤ (linked LinkState.down (holding pay5 reg1 yard)).printer.jobs.length)) ∧
     ((linked LinkState.down (holding pay5 reg1 yard)).link.state = LinkState.down ∧ t5Last.home ≠ (linked LinkState.down (holding pay5 reg1 yard)).myId)) := by
  decide +kernel

theorem test_premises_VoidTicketCommitsOrClaims_8 :
    (State.takes 3 (linked LinkState.silent (as 1 yard1)) ∧ (linked LinkState.silent (as 1 yard1)).day.isOpen = true ∧
     (linked LinkState.silent (as 1 yard1)).flags.restarted = false ∧
     State.slotIdle (State.voidRunsIn t21 (linked LinkState.silent (as 1 yard1))) (linked LinkState.silent (as 1 yard1)) ∧
     gatePasses GatedOp.voidTicket (linked LinkState.silent (as 1 yard1)) = true ∧
     State.isClosed t21 (linked LinkState.silent (as 1 yard1)) = false ∧
     State.findRecord t21 (linked LinkState.silent (as 1 yard1)) = some rec1 ∧
     (¬((linked LinkState.silent (as 1 yard1)).settings.receiptRequired = true ∧ 8 ≤ (linked LinkState.silent (as 1 yard1)).printer.jobs.length)) ∧
     (linked LinkState.silent (as 1 yard1)).link.state = LinkState.silent) ∧
    (State.takes 3 (joining yard3) ∧ (joining yard3).day.isOpen = true ∧ (joining yard3).flags.restarted = false ∧
     State.slotIdle (State.voidRunsIn t21 (joining yard3)) (joining yard3) ∧
     gatePasses GatedOp.voidTicket (joining yard3) = true ∧ State.isClosed t21 (joining yard3) = false ∧
     State.findRecord t21 (joining yard3) = some rec3 ∧ rec3.stale = false ∧ (fun (x : Life) => True) rec3.life ∧
     rec3.custody = Custody.free ∧
     (¬((joining yard3).settings.receiptRequired = true ∧ 8 ≤ (joining yard3).printer.jobs.length)) ∧
     (joining yard3).link.state = LinkState.joining) := by
  decide +kernel

theorem test_premises_VoidTicketCommitsOrClaims_9 :
    (State.takes 3 (noPlace yard1) ∧ (noPlace yard1).day.isOpen = true ∧ (noPlace yard1).flags.restarted = false ∧
     State.slotIdle (State.voidRunsIn t21 (noPlace yard1)) (noPlace yard1) ∧
     gatePasses GatedOp.voidTicket (noPlace yard1) = true ∧ State.isClosed t21 (noPlace yard1) = false ∧
     State.findRecord t21 (noPlace yard1) = some rec1 ∧
     (¬((noPlace yard1).settings.receiptRequired = true ∧ 8 ≤ (noPlace yard1).printer.jobs.length)) ∧
     ((noPlace yard1).link.state = LinkState.up ∧ State.homeSeen t21 (noPlace yard1) ∧ 24 ≤ (noPlace yard1).occupied)) ∧
    (State.slotIdle (State.voidRunsIn t21 yard1) yard1 ∧ gatePasses GatedOp.voidTicket yard1 = true ∧
     State.isClosed t21 yard1 = false ∧ State.findRecord t21 yard1 = some rec1 ∧
     (¬(yard1.settings.receiptRequired = true ∧ 8 ≤ yard1.printer.jobs.length)) ∧ State.claimQueues t21 yard1) := by
  decide +kernel

theorem test_premises_VoidTicketCommitsOrClaims_10 :
    (State.takes 3 (as 1 yard2) ∧ (as 1 yard2).day.isOpen = true ∧ (as 1 yard2).flags.restarted = false ∧
     State.slotIdle (State.voidRunsIn t21 (as 1 yard2)) (as 1 yard2) ∧
     gatePasses GatedOp.voidTicket (as 1 yard2) = true ∧ State.isClosed t21 (as 1 yard2) = false ∧
     State.findRecord t21 (as 1 yard2) = some rec2 ∧ rec2.stale = false ∧ (fun (x : Life) => True) rec2.life ∧
     rec2.custody = Custody.free ∧
     (¬((as 1 yard2).settings.receiptRequired = true ∧ 8 ≤ (as 1 yard2).printer.jobs.length)) ∧
     State.claimQueues t21 (as 1 yard2)) ∧
    (State.takes 3 yard2 ∧ yard2.day.isOpen = true ∧ yard2.flags.restarted = false ∧
     State.slotIdle (State.voidRunsIn t21 yard2) yard2 ∧ gatePasses GatedOp.voidTicket yard2 = true ∧
     State.isClosed t21 yard2 = false ∧ State.findRecord t21 yard2 = some rec2 ∧
     (¬(yard2.settings.receiptRequired = true ∧ 8 ≤ yard2.printer.jobs.length)) ∧ State.claimQueues t21 yard2) := by
  decide +kernel

theorem test_premises_VoidTicketCommitsOrClaims_11 :
    (State.takes 3 (as 2 yard1) ∧ (as 2 yard1).day.isOpen = true ∧ (as 2 yard1).flags.restarted = false ∧
     State.slotIdle (State.voidRunsIn t21 (as 2 yard1)) (as 2 yard1) ∧
     gatePasses GatedOp.voidTicket (as 2 yard1) = true ∧ State.isClosed t21 (as 2 yard1) = false ∧
     State.findRecord t21 (as 2 yard1) = some rec1 ∧
     (¬((as 2 yard1).settings.receiptRequired = true ∧ 8 ≤ (as 2 yard1).printer.jobs.length)) ∧
     State.claimQueues t21 (as 2 yard1)) ∧
    (State.takes 3 (dry voidable) ∧ (dry voidable).day.isOpen = true ∧ (dry voidable).flags.restarted = false ∧
     State.slotIdle (State.voidRunsIn t21 (dry voidable)) (dry voidable) ∧
     gatePasses GatedOp.voidTicket (dry voidable) = true ∧ State.isClosed t21 (dry voidable) = false ∧
     State.findRecord t21 (dry voidable) = some rec1 ∧
     (¬((dry voidable).settings.receiptRequired = true ∧ 8 ≤ (dry voidable).printer.jobs.length)) ∧
     ((dry voidable).link.state = LinkState.alone ∧ (t21.home = (dry voidable).myId ∨ (dry voidable).settings.homeCheck = false)) ∧
     (dry voidable).occupied < 24 ∧ (dry voidable).printer.jobs.length < 8 ∧ (dry voidable).notices.queue.length < 16) := by
  decide +kernel

theorem test_premises_VoidTicketCommitsOrClaims_12 :
    State.takes 3 (dry (linked LinkState.alone yard3)) ∧ (dry (linked LinkState.alone yard3)).day.isOpen = true ∧
    (dry (linked LinkState.alone yard3)).flags.restarted = false ∧
    State.slotIdle (State.voidRunsIn t21 (dry (linked LinkState.alone yard3))) (dry (linked LinkState.alone yard3)) ∧
    gatePasses GatedOp.voidTicket (dry (linked LinkState.alone yard3)) = true ∧
    State.isClosed t21 (dry (linked LinkState.alone yard3)) = false ∧
    State.findRecord t21 (dry (linked LinkState.alone yard3)) = some rec3 ∧
    (¬((dry (linked LinkState.alone yard3)).settings.receiptRequired = true ∧ 8 ≤ (dry (linked LinkState.alone yard3)).printer.jobs.length)) ∧
    ((dry (linked LinkState.alone yard3)).link.state = LinkState.alone ∧ (t21.home = (dry (linked LinkState.alone yard3)).myId ∨ (dry (linked LinkState.alone yard3)).settings.homeCheck = false)) ∧
    (dry (linked LinkState.alone yard3)).occupied < 24 ∧
    (dry (linked LinkState.alone yard3)).printer.jobs.length < 8 ∧
    (dry (linked LinkState.alone yard3)).notices.queue.length < 16 := by
  decide +kernel

theorem test_premises_VoidTicketCommitsOrClaims_13 :
    State.takes 3 (dry (linked LinkState.down yard1)) ∧ (dry (linked LinkState.down yard1)).day.isOpen = true ∧
    (dry (linked LinkState.down yard1)).flags.restarted = false ∧
    State.slotIdle (State.voidRunsIn t21 (dry (linked LinkState.down yard1))) (dry (linked LinkState.down yard1)) ∧
    gatePasses GatedOp.voidTicket (dry (linked LinkState.down yard1)) = true ∧
    State.isClosed t21 (dry (linked LinkState.down yard1)) = false ∧
    State.findRecord t21 (dry (linked LinkState.down yard1)) = some rec1 ∧
    (¬((dry (linked LinkState.down yard1)).settings.receiptRequired = true ∧ 8 ≤ (dry (linked LinkState.down yard1)).printer.jobs.length)) ∧
    ((dry (linked LinkState.down yard1)).link.state = LinkState.down ∧ t21.home = (dry (linked LinkState.down yard1)).myId) ∧
    (dry (linked LinkState.down yard1)).occupied < 24 ∧ (dry (linked LinkState.down yard1)).printer.jobs.length < 8 ∧
    (dry (linked LinkState.down yard1)).notices.queue.length < 16 := by
  decide +kernel

theorem test_premises_VoidTicketCommitsOrClaims_14 :
    State.takes 3 (dry (linked LinkState.alone (noCheck (as 2 (holding pay5 reg1 yard))))) ∧
    (dry (linked LinkState.alone (noCheck (as 2 (holding pay5 reg1 yard))))).day.isOpen = true ∧
    (dry (linked LinkState.alone (noCheck (as 2 (holding pay5 reg1 yard))))).flags.restarted = false ∧
    State.slotIdle (State.voidRunsIn t5Last (dry (linked LinkState.alone (noCheck (as 2 (holding pay5 reg1 yard)))))) (dry (linked LinkState.alone (noCheck (as 2 (holding pay5 reg1 yard))))) ∧
    gatePasses GatedOp.voidTicket (dry (linked LinkState.alone (noCheck (as 2 (holding pay5 reg1 yard))))) = true ∧
    State.isClosed t5Last (dry (linked LinkState.alone (noCheck (as 2 (holding pay5 reg1 yard))))) = false ∧
    State.findRecord t5Last (dry (linked LinkState.alone (noCheck (as 2 (holding pay5 reg1 yard))))) = some pay5 ∧
    (¬((dry (linked LinkState.alone (noCheck (as 2 (holding pay5 reg1 yard))))).settings.receiptRequired = true ∧ 8 ≤ (dry (linked LinkState.alone (noCheck (as 2 (holding pay5 reg1 yard))))).printer.jobs.length)) ∧
    ((dry (linked LinkState.alone (noCheck (as 2 (holding pay5 reg1 yard))))).link.state = LinkState.alone ∧ (t5Last.home = (dry (linked LinkState.alone (noCheck (as 2 (holding pay5 reg1 yard))))).myId ∨ (dry (linked LinkState.alone (noCheck (as 2 (holding pay5 reg1 yard))))).settings.homeCheck = false)) ∧
    (dry (linked LinkState.alone (noCheck (as 2 (holding pay5 reg1 yard))))).occupied < 24 ∧
    (dry (linked LinkState.alone (noCheck (as 2 (holding pay5 reg1 yard))))).printer.jobs.length < 8 ∧
    (dry (linked LinkState.alone (noCheck (as 2 (holding pay5 reg1 yard))))).notices.queue.length < 16 := by
  decide +kernel

theorem test_premises_VoidTicketCommitsOrClaims_15 :
    State.takes 3 (dry (linked LinkState.down (as 2 yard1))) ∧
    (dry (linked LinkState.down (as 2 yard1))).day.isOpen = true ∧
    (dry (linked LinkState.down (as 2 yard1))).flags.restarted = false ∧
    State.slotIdle (State.voidRunsIn t21 (dry (linked LinkState.down (as 2 yard1)))) (dry (linked LinkState.down (as 2 yard1))) ∧
    gatePasses GatedOp.voidTicket (dry (linked LinkState.down (as 2 yard1))) = true ∧
    State.isClosed t21 (dry (linked LinkState.down (as 2 yard1))) = false ∧
    State.findRecord t21 (dry (linked LinkState.down (as 2 yard1))) = some rec1 ∧
    (¬((dry (linked LinkState.down (as 2 yard1))).settings.receiptRequired = true ∧ 8 ≤ (dry (linked LinkState.down (as 2 yard1))).printer.jobs.length)) ∧
    ((dry (linked LinkState.down (as 2 yard1))).link.state = LinkState.down ∧ t21.home = (dry (linked LinkState.down (as 2 yard1))).myId) ∧
    (dry (linked LinkState.down (as 2 yard1))).occupied < 24 ∧
    (dry (linked LinkState.down (as 2 yard1))).printer.jobs.length < 8 ∧
    (dry (linked LinkState.down (as 2 yard1))).notices.queue.length < 16 := by
  decide +kernel

theorem test_premises_VoidTicketCommitsOrClaims_16 :
    State.takes 3 (dry (linked LinkState.alone cursorAtOnly)) ∧
    (dry (linked LinkState.alone cursorAtOnly)).day.isOpen = true ∧
    (dry (linked LinkState.alone cursorAtOnly)).flags.restarted = false ∧
    State.slotIdle (State.voidRunsIn t21 (dry (linked LinkState.alone cursorAtOnly))) (dry (linked LinkState.alone cursorAtOnly)) ∧
    gatePasses GatedOp.voidTicket (dry (linked LinkState.alone cursorAtOnly)) = true ∧
    State.isClosed t21 (dry (linked LinkState.alone cursorAtOnly)) = false ∧
    State.findRecord t21 (dry (linked LinkState.alone cursorAtOnly)) = some rec1 ∧
    (¬((dry (linked LinkState.alone cursorAtOnly)).settings.receiptRequired = true ∧ 8 ≤ (dry (linked LinkState.alone cursorAtOnly)).printer.jobs.length)) ∧
    ((dry (linked LinkState.alone cursorAtOnly)).link.state = LinkState.alone ∧ (t21.home = (dry (linked LinkState.alone cursorAtOnly)).myId ∨ (dry (linked LinkState.alone cursorAtOnly)).settings.homeCheck = false)) ∧
    (dry (linked LinkState.alone cursorAtOnly)).occupied < 24 ∧
    (dry (linked LinkState.alone cursorAtOnly)).printer.jobs.length < 8 ∧
    (dry (linked LinkState.alone cursorAtOnly)).notices.queue.length < 16 := by
  decide +kernel

theorem test_premises_WeighCancel_1 :
    (State.takes 0 yard ∧ yard.hasWeigh = true ∧ yard.weigh = none) ∧
    (State.takes 0 (busyWith zeroing CaptureKind.zeroing yard) ∧
     (busyWith zeroing CaptureKind.zeroing yard).hasWeigh = true ∧
     (busyWith zeroing CaptureKind.zeroing yard).weigh = some zeroing ∧
     (busyWith zeroing CaptureKind.zeroing yard).notices.queue.length < 16 ∧ zeroing.target = none) ∧
    (State.takes 0 stepHeld ∧ stepHeld.hasWeigh = true ∧ stepHeld.weigh = some (stepping true) ∧
     stepHeld.notices.queue.length < 16 ∧ (stepping true).target = some heldRec.number ∧
     State.findRecord heldRec.number stepHeld = some heldRec) ∧
    ((stepping true).phase = WeighPhase.capturing ∧ heldRec.custody = Custody.held SlotId.weigh Purpose.weigh) ∧
    (State.takes 0 (stepIn (Grant.byLink LinkState.alone) false yard) ∧
     (stepIn (Grant.byLink LinkState.alone) false yard).hasWeigh = true ∧
     (stepIn (Grant.byLink LinkState.alone) false yard).weigh = some (stepOp (Grant.byLink LinkState.alone) false) ∧
     (stepIn (Grant.byLink LinkState.alone) false yard).notices.queue.length < 16 ∧
     (stepOp (Grant.byLink LinkState.alone) false).target = some heldRec.number ∧
     State.findRecord heldRec.number (stepIn (Grant.byLink LinkState.alone) false yard) = some heldRec) := by
  decide +kernel

theorem test_premises_WeighCancel_2 :
    (stepOp (Grant.byLink LinkState.alone) false).phase = WeighPhase.capturing ∧
    (State.takes 0 claimingState ∧ claimingState.hasWeigh = true ∧ claimingState.weigh = some (claimOp false) ∧
     claimingState.notices.queue.length < 16 ∧ (claimOp false).target = some claimRec.number ∧
     State.findRecord claimRec.number claimingState = some claimRec) ∧
    ((claimOp false).phase = WeighPhase.claiming ∧ claimRec.custody = Custody.claiming SlotId.weigh Purpose.weigh ∧
     List.filter (fun (i : QueueItem) => decide (i.slot = some SlotId.weigh)) claimingState.link.queue = [claimItem1] ∧
     claimItem1.started = false ∧ claimItem1.onWire = false) ∧
    (State.takes 0 leavingState ∧ leavingState.hasWeigh = true ∧ leavingState.weigh = some (claimOp false) ∧
     leavingState.notices.queue.length < 16 ∧ (claimOp false).target = some leavingRec.number ∧
     State.findRecord leavingRec.number leavingState = some leavingRec) ∧
    (leavingRec.custody = Custody.claiming SlotId.weigh Purpose.weigh ∧
     List.filter (fun (i : QueueItem) => decide (i.slot = some SlotId.weigh)) leavingState.link.queue = [claimItem1]) := by
  decide +kernel

theorem test_premises_WeighCancel_3 :
    (State.takes 0 (queued [triedClaim] claimingState) ∧ (queued [triedClaim] claimingState).hasWeigh = true ∧
     (queued [triedClaim] claimingState).weigh = some (claimOp false) ∧
     (queued [triedClaim] claimingState).notices.queue.length < 16 ∧
     State.findRecord claimRec.number (queued [triedClaim] claimingState) = some claimRec) ∧
    (List.filter (fun (i : QueueItem) => decide (i.slot = some SlotId.weigh)) (queued [triedClaim] claimingState).link.queue = [triedClaim] ∧
     triedClaim.started = true) ∧
    (State.takes 0 windowWeigh ∧ windowWeigh.hasWeigh = true ∧ windowWeigh.weigh = some (claimOp true) ∧
     windowWeigh.notices.queue.length < 16 ∧ (claimOp true).target = some claimRec.number ∧
     State.findRecord claimRec.number windowWeigh = some claimRec) ∧
    ((claimOp true).phase = WeighPhase.claiming ∧
     (∀ (i : QueueItem), i ∈ windowWeigh.link.queue → i.slot ≠ some SlotId.weigh) ∧ (claimOp true).closing = true) := by
  decide +kernel

theorem test_premises_CapturedWeightIsNearest :
    0 < small.windowLength ∧ 0 < small.division := by
  decide +kernel

theorem test_premises_SamplesOutsideAndInsideACapture_1 :
    yard.powered = true ∧
    ((as 2 yard).powered = true ∧ (as 2 yard).hasWeigh = false) ∧
    (yard.hasWeigh = true ∧ yard.scale.context = none) ∧
    yard.settings.capacity + 9 * yard.settings.division < 199999 - yard.scale.zero ∧
    -99999 - yard.scale.zero ≤ yard.settings.capacity + 9 * yard.settings.division ∧
    60184 - yard.scale.zero ≤ yard.settings.capacity + 9 * yard.settings.division ∧
    yard.settings.capacity + 9 * yard.settings.division < 60185 - yard.scale.zero ∧
    (reconfigured.powered = true ∧ reconfigured.hasWeigh = true ∧ reconfigured.scale.context = none ∧
     10184 - reconfigured.scale.zero ≤ reconfigured.settings.capacity + 9 * reconfigured.settings.division) ∧
    reconfigured.settings.capacity + 9 * reconfigured.settings.division < 10185 - reconfigured.scale.zero ∧
    ((busyWith zeroing CaptureKind.zeroing yard).powered = true ∧
     (busyWith zeroing CaptureKind.zeroing yard).hasWeigh = true ∧
     (busyWith zeroing CaptureKind.zeroing yard).scale.context = some (captureOf CaptureKind.zeroing)) ∧
    (205 - (busyWith zeroing CaptureKind.zeroing yard).scale.zero ≤ (busyWith zeroing CaptureKind.zeroing yard).settings.capacity + 9 * (busyWith zeroing CaptureKind.zeroing yard).settings.division ∧
     (State.windowWith 205 true (captureOf CaptureKind.zeroing) (busyWith zeroing CaptureKind.zeroing yard)).length < (busyWith zeroing CaptureKind.zeroing yard).settings.windowLength) ∧
    ((inCapture nineBad).powered = true ∧ (inCapture nineBad).hasWeigh = true ∧
     (inCapture nineBad).scale.context = some nineBad) := by
  decide +kernel

theorem test_premises_SamplesOutsideAndInsideACapture_2 :
    (205 - (inCapture nineBad).scale.zero ≤ (inCapture nineBad).settings.capacity + 9 * (inCapture nineBad).settings.division ∧
     s205 ∈ State.windowWith 205 true nineBad (inCapture nineBad) ∧
     s180 ∈ State.windowWith 205 true nineBad (inCapture nineBad) ∧
     (inCapture nineBad).settings.motionBand < s205.raw - s180.raw) ∧
    (inCapture nineBad).settings.capacity + 9 * (inCapture nineBad).settings.division < 60185 - (inCapture nineBad).scale.zero ∧
    ((inCapture nineTen).powered = true ∧ (inCapture nineTen).hasWeigh = true ∧
     (inCapture nineTen).scale.context = some nineTen) ∧
    (205 - (inCapture nineTen).scale.zero ≤ (inCapture nineTen).settings.capacity + 9 * (inCapture nineTen).settings.division ∧
     0 < (inCapture nineTen).settings.windowLength ∧
     (inCapture nineTen).settings.windowLength ≤ nineTen.window.length + 1 ∧
     (∀ (x : WindowSample), x ∈ State.windowWith 205 true nineTen (inCapture nineTen) → x.good = true) ∧
     (∀ (x : WindowSample), x ∈ State.windowWith 205 true nineTen (inCapture nineTen) → ∀ (y : WindowSample), y ∈ State.windowWith 205 true nineTen (inCapture nineTen) → x.raw - y.raw ≤ (inCapture nineTen).settings.motionBand) ∧
     nineTen.kind = CaptureKind.capture Target.newTicket ∧
     (if 205 - (inCapture nineTen).scale.zero ≤ (inCapture nineTen).settings.clearThreshold * (inCapture nineTen).settings.division then true else (inCapture nineTen).scale.deckClear) = false ∧
     Target.newTicket = Target.newTicket) ∧
    ((inCapture nineBadLast).powered = true ∧ (inCapture nineBadLast).hasWeigh = true ∧
     (inCapture nineBadLast).scale.context = some nineBadLast) ∧
    (205 - (inCapture nineBadLast).scale.zero ≤ (inCapture nineBadLast).settings.capacity + 9 * (inCapture nineBadLast).settings.division ∧
     s205Bad ∈ State.windowWith 205 true nineBadLast (inCapture nineBadLast) ∧ s205Bad.good = false) := by
  decide +kernel

theorem test_premises_SamplesOutsideAndInsideACapture_3 :
    (committing.powered = true ∧ committing.hasWeigh = true ∧
     committing.scale.context = some (nineOf (CaptureKind.capture (Target.ticket t21)) 25804)) ∧
    (SampleStatus.converterFault = SampleStatus.converterFault ∧ committing.weigh = some (stepping true) ∧
     committing.notices.queue.length < 15) ∧
    (SampleStatus.cellFault = SampleStatus.cellFault ∧
     (busyWith zeroing CaptureKind.zeroing yard).weigh = some zeroing ∧
     (busyWith zeroing CaptureKind.zeroing yard).notices.queue.length < 15) := by
  decide +kernel

theorem test_premises_CaptureCreatesTheTicket_1 :
    (State.captureCompletes Target.newTicket 30020 (nineOf (CaptureKind.capture Target.newTicket) 30010) creating ∧
     creating.scale.deckClear = true ∧ creating.weigh = some weighing ∧
     weighing.kind = WeighKind.newTicket none none ∧ weighing.target = none ∧ creating.notices.queue.length < 16) ∧
    creating.ticketsOk ∧
    (20 * creating.settings.division ≤ State.capturedWith 30020 (nineOf (CaptureKind.capture Target.newTicket) 30010) creating ∧
     creating.printer.jobs.length < 8) := by
  decide +kernel

theorem test_premises_CaptureCreatesTheTicket_2 :
    (State.captureCompletes Target.newTicket 30020 (tenOf (CaptureKind.capture Target.newTicket) 30010) (newTicketIn 30010 wrapping) ∧
     (newTicketIn 30010 wrapping).scale.deckClear = true ∧ (newTicketIn 30010 wrapping).weigh = some weighing ∧
     (newTicketIn 30010 wrapping).notices.queue.length < 16) ∧
    (newTicketIn 30010 wrapping).ticketsOk ∧
    (20 * (newTicketIn 30010 wrapping).settings.division ≤ State.capturedWith 30020 (tenOf (CaptureKind.capture Target.newTicket) 30010) (newTicketIn 30010 wrapping) ∧
     (newTicketIn 30010 wrapping).printer.jobs.length < 8) := by
  decide +kernel

theorem test_premises_CaptureCreatesTheTicket_3 :
    (State.captureCompletes Target.newTicket 30020 (tenOf (CaptureKind.capture Target.newTicket) 30010) (newTicketIn 30010 (noPlace yard)) ∧
     (newTicketIn 30010 (noPlace yard)).scale.deckClear = true ∧
     (newTicketIn 30010 (noPlace yard)).weigh = some weighing ∧
     (newTicketIn 30010 (noPlace yard)).notices.queue.length < 16) ∧
    (20 * (newTicketIn 30010 (noPlace yard)).settings.division ≤ State.capturedWith 30020 (tenOf (CaptureKind.capture Target.newTicket) 30010) (newTicketIn 30010 (noPlace yard)) ∧
     (newTicketIn 30010 (noPlace yard)).printer.jobs.length < 8) ∧
    (State.captureCompletes Target.newTicket 30020 (tenOf (CaptureKind.capture Target.newTicket) 30010) (newTicketIn 30010 (linked LinkState.down yard)) ∧
     (newTicketIn 30010 (linked LinkState.down yard)).scale.deckClear = true ∧
     (newTicketIn 30010 (linked LinkState.down yard)).weigh = some weighing ∧
     (newTicketIn 30010 (linked LinkState.down yard)).notices.queue.length < 16) ∧
    (20 * (newTicketIn 30010 (linked LinkState.down yard)).settings.division ≤ State.capturedWith 30020 (tenOf (CaptureKind.capture Target.newTicket) 30010) (newTicketIn 30010 (linked LinkState.down yard)) ∧
     (newTicketIn 30010 (linked LinkState.down yard)).printer.jobs.length < 8) := by
  decide +kernel

theorem test_premises_CaptureCreatesTheTicket_4 :
    (State.captureCompletes Target.newTicket 204 (tenOf (CaptureKind.capture Target.newTicket) 204) (newTicketIn 204 yard) ∧
     204 - (newTicketIn 204 yard).scale.zero ≤ (newTicketIn 204 yard).settings.clearThreshold * (newTicketIn 204 yard).settings.division ∧
     (newTicketIn 204 yard).weigh = some weighing ∧ (newTicketIn 204 yard).notices.queue.length < 16) ∧
    (0 ≤ State.capturedWith 204 (tenOf (CaptureKind.capture Target.newTicket) 204) (newTicketIn 204 yard) ∧
     State.capturedWith 204 (tenOf (CaptureKind.capture Target.newTicket) 204) (newTicketIn 204 yard) < 20 * (newTicketIn 204 yard).settings.division) ∧
    (State.captureCompletes Target.newTicket (-30) (tenOf (CaptureKind.capture Target.newTicket) (-30)) (newTicketIn (-30) yard) ∧
     -30 - (newTicketIn (-30) yard).scale.zero ≤ (newTicketIn (-30) yard).settings.clearThreshold * (newTicketIn (-30) yard).settings.division ∧
     (newTicketIn (-30) yard).weigh = some weighing ∧ (newTicketIn (-30) yard).notices.queue.length < 16) ∧
    State.capturedWith (-30) (tenOf (CaptureKind.capture Target.newTicket) (-30)) (newTicketIn (-30) yard) < 0 := by
  decide +kernel

theorem test_premises_CaptureCreatesTheTicket_5 :
    (State.captureCompletes Target.newTicket 30020 (tenOf (CaptureKind.capture Target.newTicket) 30010) (newTicketIn 30010 (printing PrinterState.ready eightJobs yard)) ∧
     (newTicketIn 30010 (printing PrinterState.ready eightJobs yard)).scale.deckClear = true ∧
     (newTicketIn 30010 (printing PrinterState.ready eightJobs yard)).weigh = some weighing ∧
     (newTicketIn 30010 (printing PrinterState.ready eightJobs yard)).notices.queue.length < 16) ∧
    (20 * (newTicketIn 30010 (printing PrinterState.ready eightJobs yard)).settings.division ≤ State.capturedWith 30020 (tenOf (CaptureKind.capture Target.newTicket) 30010) (newTicketIn 30010 (printing PrinterState.ready eightJobs yard)) ∧
     (newTicketIn 30010 (printing PrinterState.ready eightJobs yard)).settings.receiptRequired = true ∧
     8 ≤ (newTicketIn 30010 (printing PrinterState.ready eightJobs yard)).printer.jobs.length) := by
  decide +kernel

theorem test_premises_CaptureCommitsTheStep_1 :
    State.captureCompletes (Target.ticket heldRec.number) 25804 (nineOf (CaptureKind.capture (Target.ticket t21)) 25804) committing ∧
    committing.scale.deckClear = true ∧ committing.weigh = some (stepping true) ∧
    (stepping true).kind = WeighKind.weighStep 3 10 true ∧ (stepping true).target = some heldRec.number ∧
    State.findRecord heldRec.number committing = some heldRec ∧
    (∀ (x : Record), x ∈ committing.tickets.table → x.number = heldRec.number → x = heldRec) ∧
    heldRec.custody = Custody.held SlotId.weigh Purpose.weigh ∧ heldRec.step = (stepping true).claimedStep ∧
    heldRec.stale = false ∧ heldRec.lines.length < 8 ∧ heldRec.linesOk ∧ committing.printer.jobs.length < 8 ∧
    committing.notices.queue.length < 15 ∧
    0 ≤ State.capturedWith 25804 (nineOf (CaptureKind.capture (Target.ticket t21)) 25804) committing ∧
    State.capturedWith 25804 (nineOf (CaptureKind.capture (Target.ticket t21)) 25804) committing + committing.settings.division ≤ heldRec.lastWeight := by
  decide +kernel

theorem test_premises_CaptureCommitsTheStep_2 :
    State.captureCompletes (Target.ticket heldRec.number) 25804 (tenOf (CaptureKind.capture (Target.ticket t21)) 25804) (stepIn Grant.byFrame true yard) ∧
    (stepIn Grant.byFrame true yard).scale.deckClear = true ∧
    (stepIn Grant.byFrame true yard).weigh = some (stepOp Grant.byFrame true) ∧
    (stepOp Grant.byFrame true).kind = WeighKind.weighStep 3 10 true ∧
    (stepOp Grant.byFrame true).target = some heldRec.number ∧
    State.findRecord heldRec.number (stepIn Grant.byFrame true yard) = some heldRec ∧
    (∀ (x : Record), x ∈ (stepIn Grant.byFrame true yard).tickets.table → x.number = heldRec.number → x = heldRec) ∧
    heldRec.step = (stepOp Grant.byFrame true).claimedStep ∧
    (stepIn Grant.byFrame true yard).printer.jobs.length < 8 ∧
    (stepIn Grant.byFrame true yard).notices.queue.length < 15 ∧
    0 ≤ State.capturedWith 25804 (tenOf (CaptureKind.capture (Target.ticket t21)) 25804) (stepIn Grant.byFrame true yard) ∧
    State.capturedWith 25804 (tenOf (CaptureKind.capture (Target.ticket t21)) 25804) (stepIn Grant.byFrame true yard) + (stepIn Grant.byFrame true yard).settings.division ≤ heldRec.lastWeight := by
  decide +kernel

theorem test_premises_CaptureCommitsTheStep_3 :
    State.captureCompletes (Target.ticket heldRec.number) 25804 (tenOf (CaptureKind.capture (Target.ticket t21)) 25804) (stepIn Grant.byFrame true twoMore) ∧
    (stepIn Grant.byFrame true twoMore).scale.deckClear = true ∧
    (stepIn Grant.byFrame true twoMore).weigh = some (stepOp Grant.byFrame true) ∧
    State.findRecord heldRec.number (stepIn Grant.byFrame true twoMore) = some heldRec ∧
    (∀ (x : Record), x ∈ (stepIn Grant.byFrame true twoMore).tickets.table → x.number = heldRec.number → x = heldRec) ∧
    (stepIn Grant.byFrame true twoMore).printer.jobs.length < 8 ∧
    (stepIn Grant.byFrame true twoMore).notices.queue.length < 15 ∧
    0 ≤ State.capturedWith 25804 (tenOf (CaptureKind.capture (Target.ticket t21)) 25804) (stepIn Grant.byFrame true twoMore) ∧
    State.capturedWith 25804 (tenOf (CaptureKind.capture (Target.ticket t21)) 25804) (stepIn Grant.byFrame true twoMore) + (stepIn Grant.byFrame true twoMore).settings.division ≤ heldRec.lastWeight := by
  decide +kernel

theorem test_premises_CaptureCommitsTheStep_4 :
    State.captureCompletes (Target.ticket heldRec.number) 25804 (tenOf (CaptureKind.capture (Target.ticket t21)) 25804) (stepIn (Grant.byLink LinkState.alone) false (linked LinkState.alone yard)) ∧
    (stepIn (Grant.byLink LinkState.alone) false (linked LinkState.alone yard)).scale.deckClear = true ∧
    (stepIn (Grant.byLink LinkState.alone) false (linked LinkState.alone yard)).weigh = some (stepOp (Grant.byLink LinkState.alone) false) ∧
    (stepOp (Grant.byLink LinkState.alone) false).kind = WeighKind.weighStep 3 10 true ∧
    (stepOp (Grant.byLink LinkState.alone) false).target = some heldRec.number ∧
    State.findRecord heldRec.number (stepIn (Grant.byLink LinkState.alone) false (linked LinkState.alone yard)) = some heldRec ∧
    (∀ (x : Record), x ∈ (stepIn (Grant.byLink LinkState.alone) false (linked LinkState.alone yard)).tickets.table → x.number = heldRec.number → x = heldRec) ∧
    heldRec.step = (stepOp (Grant.byLink LinkState.alone) false).claimedStep ∧
    (stepIn (Grant.byLink LinkState.alone) false (linked LinkState.alone yard)).printer.jobs.length < 8 ∧
    (stepIn (Grant.byLink LinkState.alone) false (linked LinkState.alone yard)).notices.queue.length < 15 ∧
    0 ≤ State.capturedWith 25804 (tenOf (CaptureKind.capture (Target.ticket t21)) 25804) (stepIn (Grant.byLink LinkState.alone) false (linked LinkState.alone yard)) ∧
    State.capturedWith 25804 (tenOf (CaptureKind.capture (Target.ticket t21)) 25804) (stepIn (Grant.byLink LinkState.alone) false (linked LinkState.alone yard)) + (stepIn (Grant.byLink LinkState.alone) false (linked LinkState.alone yard)).settings.division ≤ heldRec.lastWeight := by
  decide +kernel

theorem test_premises_CaptureCommitsTheStep_5 :
    State.captureCompletes (Target.ticket heldRec.number) 25804 (tenOf (CaptureKind.capture (Target.ticket t21)) 25804) (stepIn (Grant.byLink LinkState.down) false (linked LinkState.down yard)) ∧
    (stepIn (Grant.byLink LinkState.down) false (linked LinkState.down yard)).scale.deckClear = true ∧
    (stepIn (Grant.byLink LinkState.down) false (linked LinkState.down yard)).weigh = some (stepOp (Grant.byLink LinkState.down) false) ∧
    (stepOp (Grant.byLink LinkState.down) false).kind = WeighKind.weighStep 3 10 true ∧
    (stepOp (Grant.byLink LinkState.down) false).target = some heldRec.number ∧
    State.findRecord heldRec.number (stepIn (Grant.byLink LinkState.down) false (linked LinkState.down yard)) = some heldRec ∧
    (∀ (x : Record), x ∈ (stepIn (Grant.byLink LinkState.down) false (linked LinkState.down yard)).tickets.table → x.number = heldRec.number → x = heldRec) ∧
    heldRec.step = (stepOp (Grant.byLink LinkState.down) false).claimedStep ∧
    (stepIn (Grant.byLink LinkState.down) false (linked LinkState.down yard)).printer.jobs.length < 8 ∧
    (stepIn (Grant.byLink LinkState.down) false (linked LinkState.down yard)).notices.queue.length < 15 ∧
    0 ≤ State.capturedWith 25804 (tenOf (CaptureKind.capture (Target.ticket t21)) 25804) (stepIn (Grant.byLink LinkState.down) false (linked LinkState.down yard)) ∧
    State.capturedWith 25804 (tenOf (CaptureKind.capture (Target.ticket t21)) 25804) (stepIn (Grant.byLink LinkState.down) false (linked LinkState.down yard)) + (stepIn (Grant.byLink LinkState.down) false (linked LinkState.down yard)).settings.division ≤ heldRec.lastWeight := by
  decide +kernel

theorem test_premises_CaptureCommitsTheStep_6 :
    (State.captureCompletes (Target.ticket heldRec.number) (-30) (tenOf (CaptureKind.capture (Target.ticket t21)) (-30)) (stepAt (stepOp Grant.byFrame true) (-30) heldRec yard) ∧
     (stepAt (stepOp Grant.byFrame true) (-30) heldRec yard).scale.deckClear = true ∧
     (stepAt (stepOp Grant.byFrame true) (-30) heldRec yard).weigh = some (stepOp Grant.byFrame true) ∧
     State.findRecord heldRec.number (stepAt (stepOp Grant.byFrame true) (-30) heldRec yard) = some heldRec ∧
     (stepAt (stepOp Grant.byFrame true) (-30) heldRec yard).notices.queue.length < 16) ∧
    State.capturedWith (-30) (tenOf (CaptureKind.capture (Target.ticket t21)) (-30)) (stepAt (stepOp Grant.byFrame true) (-30) heldRec yard) < 0 ∧
    (State.captureCompletes (Target.ticket leavingHeld.number) (-30) (tenOf (CaptureKind.capture (Target.ticket t21)) (-30)) (stepAt (stepOp (Grant.byLink LinkState.alone) false) (-30) leavingHeld (as 1 yard)) ∧
     (stepAt (stepOp (Grant.byLink LinkState.alone) false) (-30) leavingHeld (as 1 yard)).scale.deckClear = true ∧
     (stepAt (stepOp (Grant.byLink LinkState.alone) false) (-30) leavingHeld (as 1 yard)).weigh = some (stepOp (Grant.byLink LinkState.alone) false) ∧
     (stepOp (Grant.byLink LinkState.alone) false).target = some leavingHeld.number ∧
     State.findRecord leavingHeld.number (stepAt (stepOp (Grant.byLink LinkState.alone) false) (-30) leavingHeld (as 1 yard)) = some leavingHeld ∧
     leavingHeld.custody = Custody.held SlotId.weigh Purpose.weigh ∧
     (stepAt (stepOp (Grant.byLink LinkState.alone) false) (-30) leavingHeld (as 1 yard)).notices.queue.length < 16) ∧
    State.capturedWith (-30) (tenOf (CaptureKind.capture (Target.ticket t21)) (-30)) (stepAt (stepOp (Grant.byLink LinkState.alone) false) (-30) leavingHeld (as 1 yard)) < 0 := by
  decide +kernel

theorem test_premises_CaptureCommitsTheStep_7 :
    (State.captureCompletes (Target.ticket heldRec.number) 30000 (tenOf (CaptureKind.capture (Target.ticket t21)) 30000) (stepAt (stepOp Grant.byFrame true) 30000 heldRec yard) ∧
     (stepAt (stepOp Grant.byFrame true) 30000 heldRec yard).scale.deckClear = true ∧
     (stepAt (stepOp Grant.byFrame true) 30000 heldRec yard).weigh = some (stepOp Grant.byFrame true) ∧
     State.findRecord heldRec.number (stepAt (stepOp Grant.byFrame true) 30000 heldRec yard) = some heldRec ∧
     (stepAt (stepOp Grant.byFrame true) 30000 heldRec yard).notices.queue.length < 16) ∧
    (0 ≤ State.capturedWith 30000 (tenOf (CaptureKind.capture (Target.ticket t21)) 30000) (stepAt (stepOp Grant.byFrame true) 30000 heldRec yard) ∧
     heldRec.lastWeight - State.capturedWith 30000 (tenOf (CaptureKind.capture (Target.ticket t21)) 30000) (stepAt (stepOp Grant.byFrame true) 30000 heldRec yard) < (stepAt (stepOp Grant.byFrame true) 30000 heldRec yard).settings.division) ∧
    (State.captureCompletes (Target.ticket heldRec.number) 29996 (tenOf (CaptureKind.capture (Target.ticket t21)) 29996) (stepAt (stepOp Grant.byFrame true) 29996 heldRec yard) ∧
     (stepAt (stepOp Grant.byFrame true) 29996 heldRec yard).scale.deckClear = true ∧
     (stepAt (stepOp Grant.byFrame true) 29996 heldRec yard).weigh = some (stepOp Grant.byFrame true) ∧
     State.findRecord heldRec.number (stepAt (stepOp Grant.byFrame true) 29996 heldRec yard) = some heldRec ∧
     (stepAt (stepOp Grant.byFrame true) 29996 heldRec yard).notices.queue.length < 16) ∧
    (0 ≤ State.capturedWith 29996 (tenOf (CaptureKind.capture (Target.ticket t21)) 29996) (stepAt (stepOp Grant.byFrame true) 29996 heldRec yard) ∧
     heldRec.lastWeight - State.capturedWith 29996 (tenOf (CaptureKind.capture (Target.ticket t21)) 29996) (stepAt (stepOp Grant.byFrame true) 29996 heldRec yard) < (stepAt (stepOp Grant.byFrame true) 29996 heldRec yard).settings.division) := by
  decide +kernel

theorem test_premises_CaptureCommitsTheStep_8 :
    (State.captureCompletes (Target.ticket changedHeld.number) 25804 (tenOf (CaptureKind.capture (Target.ticket t21)) 25804) (stepAt (stepOp Grant.byFrame true) 25804 changedHeld yard) ∧
     (stepAt (stepOp Grant.byFrame true) 25804 changedHeld yard).scale.deckClear = true ∧
     (stepAt (stepOp Grant.byFrame true) 25804 changedHeld yard).weigh = some (stepOp Grant.byFrame true) ∧
     (stepOp Grant.byFrame true).target = some changedHeld.number ∧
     State.findRecord changedHeld.number (stepAt (stepOp Grant.byFrame true) 25804 changedHeld yard) = some changedHeld ∧
     changedHeld.custody = Custody.held SlotId.weigh Purpose.weigh ∧
     (stepAt (stepOp Grant.byFrame true) 25804 changedHeld yard).notices.queue.length < 16) ∧
    (0 ≤ State.capturedWith 25804 (tenOf (CaptureKind.capture (Target.ticket t21)) 25804) (stepAt (stepOp Grant.byFrame true) 25804 changedHeld yard) ∧
     (stepAt (stepOp Grant.byFrame true) 25804 changedHeld yard).settings.division ≤ changedHeld.lastWeight - State.capturedWith 25804 (tenOf (CaptureKind.capture (Target.ticket t21)) 25804) (stepAt (stepOp Grant.byFrame true) 25804 changedHeld yard) ∧
     changedHeld.step ≠ (stepOp Grant.byFrame true).claimedStep) := by
  decide +kernel

theorem test_premises_CaptureCommitsTheStep_9 :
    (State.captureCompletes (Target.ticket staleHeld.number) 25804 (tenOf (CaptureKind.capture (Target.ticket t21)) 25804) (stepAt (stepOp (Grant.byLink LinkState.alone) false) 25804 staleHeld yard) ∧
     (stepAt (stepOp (Grant.byLink LinkState.alone) false) 25804 staleHeld yard).scale.deckClear = true ∧
     (stepAt (stepOp (Grant.byLink LinkState.alone) false) 25804 staleHeld yard).weigh = some (stepOp (Grant.byLink LinkState.alone) false) ∧
     (stepOp (Grant.byLink LinkState.alone) false).target = some staleHeld.number ∧
     State.findRecord staleHeld.number (stepAt (stepOp (Grant.byLink LinkState.alone) false) 25804 staleHeld yard) = some staleHeld ∧
     staleHeld.custody = Custody.held SlotId.weigh Purpose.weigh ∧
     (stepAt (stepOp (Grant.byLink LinkState.alone) false) 25804 staleHeld yard).notices.queue.length < 16) ∧
    (0 ≤ State.capturedWith 25804 (tenOf (CaptureKind.capture (Target.ticket t21)) 25804) (stepAt (stepOp (Grant.byLink LinkState.alone) false) 25804 staleHeld yard) ∧
     (stepAt (stepOp (Grant.byLink LinkState.alone) false) 25804 staleHeld yard).settings.division ≤ staleHeld.lastWeight - State.capturedWith 25804 (tenOf (CaptureKind.capture (Target.ticket t21)) 25804) (stepAt (stepOp (Grant.byLink LinkState.alone) false) 25804 staleHeld yard) ∧
     staleHeld.step = (stepOp (Grant.byLink LinkState.alone) false).claimedStep ∧ staleHeld.stale = true) := by
  decide +kernel

theorem test_premises_CaptureCommitsTheStep_10 :
    (State.captureCompletes (Target.ticket heldRec.number) 25804 (tenOf (CaptureKind.capture (Target.ticket t21)) 25804) (stepAt (stepOp Grant.byFrame true) 25804 heldRec (printing PrinterState.ready eightJobs yard)) ∧
     (stepAt (stepOp Grant.byFrame true) 25804 heldRec (printing PrinterState.ready eightJobs yard)).scale.deckClear = true ∧
     (stepAt (stepOp Grant.byFrame true) 25804 heldRec (printing PrinterState.ready eightJobs yard)).weigh = some (stepOp Grant.byFrame true) ∧
     State.findRecord heldRec.number (stepAt (stepOp Grant.byFrame true) 25804 heldRec (printing PrinterState.ready eightJobs yard)) = some heldRec ∧
     (stepAt (stepOp Grant.byFrame true) 25804 heldRec (printing PrinterState.ready eightJobs yard)).notices.queue.length < 16) ∧
    (0 ≤ State.capturedWith 25804 (tenOf (CaptureKind.capture (Target.ticket t21)) 25804) (stepAt (stepOp Grant.byFrame true) 25804 heldRec (printing PrinterState.ready eightJobs yard)) ∧
     (stepAt (stepOp Grant.byFrame true) 25804 heldRec (printing PrinterState.ready eightJobs yard)).settings.division ≤ heldRec.lastWeight - State.capturedWith 25804 (tenOf (CaptureKind.capture (Target.ticket t21)) 25804) (stepAt (stepOp Grant.byFrame true) 25804 heldRec (printing PrinterState.ready eightJobs yard)) ∧
     (stepAt (stepOp Grant.byFrame true) 25804 heldRec (printing PrinterState.ready eightJobs yard)).settings.receiptRequired = true ∧
     8 ≤ (stepAt (stepOp Grant.byFrame true) 25804 heldRec (printing PrinterState.ready eightJobs yard)).printer.jobs.length) ∧
    (State.captureCompletes (Target.ticket changedHeld.number) 25804 (tenOf (CaptureKind.capture (Target.ticket t21)) 25804) (recapture (stepAt (stepOp Grant.byFrame true) 25804 changedHeld yard)) ∧
     (recapture (stepAt (stepOp Grant.byFrame true) 25804 changedHeld yard)).scale.captured = some (Target.ticket changedHeld.number) ∧
     (recapture (stepAt (stepOp Grant.byFrame true) 25804 changedHeld yard)).weigh = some (stepOp Grant.byFrame true) ∧
     State.findRecord changedHeld.number (recapture (stepAt (stepOp Grant.byFrame true) 25804 changedHeld yard)) = some changedHeld ∧
     (recapture (stepAt (stepOp Grant.byFrame true) 25804 changedHeld yard)).notices.queue.length < 16) := by
  decide +kernel

theorem test_premises_CaptureCommitsTheStep_11 :
    (0 ≤ State.capturedWith 25804 (tenOf (CaptureKind.capture (Target.ticket t21)) 25804) (recapture (stepAt (stepOp Grant.byFrame true) 25804 changedHeld yard)) ∧
     (recapture (stepAt (stepOp Grant.byFrame true) 25804 changedHeld yard)).settings.division ≤ changedHeld.lastWeight - State.capturedWith 25804 (tenOf (CaptureKind.capture (Target.ticket t21)) 25804) (recapture (stepAt (stepOp Grant.byFrame true) 25804 changedHeld yard))) ∧
    (State.captureCompletes (Target.ticket heldRec.number) (-30) (tenOf (CaptureKind.capture (Target.ticket t21)) (-30)) (recapture (stepAt (stepOp Grant.byFrame true) (-30) heldRec yard)) ∧
     -30 - (recapture (stepAt (stepOp Grant.byFrame true) (-30) heldRec yard)).scale.zero ≤ (recapture (stepAt (stepOp Grant.byFrame true) (-30) heldRec yard)).settings.clearThreshold * (recapture (stepAt (stepOp Grant.byFrame true) (-30) heldRec yard)).settings.division ∧
     (recapture (stepAt (stepOp Grant.byFrame true) (-30) heldRec yard)).weigh = some (stepOp Grant.byFrame true) ∧
     State.findRecord heldRec.number (recapture (stepAt (stepOp Grant.byFrame true) (-30) heldRec yard)) = some heldRec ∧
     (recapture (stepAt (stepOp Grant.byFrame true) (-30) heldRec yard)).notices.queue.length < 16) ∧
    State.capturedWith (-30) (tenOf (CaptureKind.capture (Target.ticket t21)) (-30)) (recapture (stepAt (stepOp Grant.byFrame true) (-30) heldRec yard)) < 0 := by
  decide +kernel

theorem test_premises_ZeroSetsTheOffset_1 :
    (State.windowCompletes 1200 (nineOf CaptureKind.zeroing 1200) (zeroable 1200) ∧
     (nineOf CaptureKind.zeroing 1200).kind = CaptureKind.zeroing ∧ (zeroable 1200).weigh = some zeroing ∧
     zeroing.target = none ∧ (zeroable 1200).notices.queue.length < 16 ∧
     50 * (State.windowSumWith 1200 (nineOf CaptureKind.zeroing 1200) (zeroable 1200)).natAbs ≤ (zeroable 1200).settings.capacity * (zeroable 1200).settings.windowLength) ∧
    (State.windowCompletes 1201 (nineOf CaptureKind.zeroing 1200) (zeroable 1200) ∧
     (zeroable 1200).settings.capacity * (zeroable 1200).settings.windowLength < 50 * (State.windowSumWith 1201 (nineOf CaptureKind.zeroing 1200) (zeroable 1200)).natAbs) := by
  decide +kernel

theorem test_premises_ZeroSetsTheOffset_2 :
    (State.windowCompletes 150 (nineOf CaptureKind.zeroing 150) (zeroable 150) ∧
     (nineOf CaptureKind.zeroing 150).kind = CaptureKind.zeroing ∧ (zeroable 150).weigh = some zeroing ∧
     (zeroable 150).notices.queue.length < 16 ∧
     50 * (State.windowSumWith 150 (nineOf CaptureKind.zeroing 150) (zeroable 150)).natAbs ≤ (zeroable 150).settings.capacity * (zeroable 150).settings.windowLength) ∧
    (State.windowCompletes 150 (tenOf CaptureKind.zeroing 150) (sliding zeroing CaptureKind.zeroing 150 yard) ∧
     (tenOf CaptureKind.zeroing 150).kind = CaptureKind.zeroing ∧
     (sliding zeroing CaptureKind.zeroing 150 yard).weigh = some zeroing ∧
     (sliding zeroing CaptureKind.zeroing 150 yard).notices.queue.length < 16 ∧
     50 * (State.windowSumWith 150 (tenOf CaptureKind.zeroing 150) (sliding zeroing CaptureKind.zeroing 150 yard)).natAbs ≤ (sliding zeroing CaptureKind.zeroing 150 yard).settings.capacity * (sliding zeroing CaptureKind.zeroing 150 yard).settings.windowLength) := by
  decide +kernel

theorem test_premises_SilenceAndCaptureTimer_1 :
    (yard.powered = true ∧ yard.scale.silence = some 500 ∧ yard.scale.context = none) ∧
    ((busyWith weighing (CaptureKind.capture Target.newTicket) yard).powered = true ∧
     (busyWith weighing (CaptureKind.capture Target.newTicket) yard).scale.silence = some 500 ∧
     (busyWith weighing (CaptureKind.capture Target.newTicket) yard).scale.context = some (captureOf (CaptureKind.capture Target.newTicket)) ∧
     (busyWith weighing (CaptureKind.capture Target.newTicket) yard).weigh = some weighing ∧ weighing.target = none ∧
     (busyWith weighing (CaptureKind.capture Target.newTicket) yard).notices.queue.length < 15) ∧
    (busyWith weighing (CaptureKind.capture Target.newTicket) yard).notices.queue.length < 16 ∧
    (stepHeld.powered = true ∧ stepHeld.scale.context = some (captureOf (CaptureKind.capture (Target.ticket t21))) ∧
     stepHeld.weigh = some (stepping true) ∧ (stepping true).target = some heldRec.number ∧
     State.findRecord heldRec.number stepHeld = some heldRec ∧
     heldRec.custody = Custody.held SlotId.weigh Purpose.weigh) ∧
    (stepHeld.scale.silence = some 500 ∧ stepHeld.notices.queue.length < 15) ∧
    stepHeld.notices.queue.length < 16 := by
  decide +kernel

theorem test_premises_SilenceAndCaptureTimer_2 :
    ((stepIn (Grant.byLink LinkState.alone) false yard).powered = true ∧
     (stepIn (Grant.byLink LinkState.alone) false yard).scale.context = some (tenOf (CaptureKind.capture (Target.ticket t21)) 25804) ∧
     (stepIn (Grant.byLink LinkState.alone) false yard).weigh = some (stepOp (Grant.byLink LinkState.alone) false) ∧
     (stepOp (Grant.byLink LinkState.alone) false).target = some heldRec.number ∧
     State.findRecord heldRec.number (stepIn (Grant.byLink LinkState.alone) false yard) = some heldRec) ∧
    ((stepIn (Grant.byLink LinkState.alone) false yard).scale.silence = some 500 ∧
     (stepIn (Grant.byLink LinkState.alone) false yard).notices.queue.length < 15) ∧
    (stepIn (Grant.byLink LinkState.alone) false yard).notices.queue.length < 16 := by
  decide +kernel

theorem test_premises_LoadGradeAndAddPriceVersion_1 :
    (State.takes ([byte 32] ++ textBytes (codesOf "HEAVY STEEL1") ++ [byte 2, byte 1, byte 200, byte fourTiers.length] ++ List.flatMap (fun (t : Tier) => bytesOf 3 t.bound ++ bytesOf 3 t.price) fourTiers).length (closedDay yard) ∧
     (closedDay yard).day.isOpen = false ∧ List.length (codesOf "HEAVY STEEL1") ≤ 12 ∧
     (∀ (c : Nat), c ∈ codesOf "HEAVY STEEL1" → 32 ≤ c ∧ c ≤ 126) ∧ fourTiers.length ≤ 4 ∧
     (∀ (t : Tier), t ∈ fourTiers → t.bound ≤ 150450 ∧ t.price ≤ 2000000)) ∧
    (codesOf "HEAVY STEEL1" ≠ [] ∧ Option.map Tier.bound fourTiers.head? = some 0 ∧
     List.Pairwise (fun (a b : Tier) => a.bound < b.bound) fourTiers) ∧
    (State.takes ([byte 33] ++ textBytes noText ++ [byte 2, byte 1, byte 200, byte noTiers.length] ++ List.flatMap (fun (t : Tier) => bytesOf 3 t.bound ++ bytesOf 3 t.price) noTiers).length (closedDay yard) ∧
     List.length noText ≤ 12 ∧ (∀ (c : Nat), c ∈ noText → 32 ≤ c ∧ c ≤ 126) ∧ noTiers.length ≤ 4 ∧
     (∀ (t : Tier), t ∈ noTiers → t.bound ≤ 150450 ∧ t.price ≤ 2000000)) ∧
    State.takes ([byte 0] ++ textBytes noText ++ [byte 2, byte 1, byte 200, byte noTiers.length] ++ List.flatMap (fun (t : Tier) => bytesOf 3 t.bound ++ bytesOf 3 t.price) noTiers).length (closedDay yard) ∧
    (State.takes ([byte 3] ++ textBytes noText ++ [byte 0, byte 0, byte 0, byte noTiers.length] ++ List.flatMap (fun (t : Tier) => bytesOf 3 t.bound ++ bytesOf 3 t.price) noTiers).length (closedDay yard) ∧
     noTiers = []) := by
  decide +kernel

theorem test_premises_LoadGradeAndAddPriceVersion_2 :
    (State.takes ([byte 3] ++ bytesOf 3 30000 ++ [byte oneTier.length] ++ List.flatMap (fun (t : Tier) => bytesOf 3 t.bound ++ bytesOf 3 t.price) oneTier).length yard ∧
     1 ≤ oneTier.length ∧ oneTier.length ≤ 4 ∧ (∀ (t : Tier), t ∈ oneTier → t.bound ≤ 150450 ∧ t.price ≤ 2000000) ∧
     Option.map Tier.bound oneTier.head? = some 0 ∧ List.Pairwise (fun (a b : Tier) => a.bound < b.bound) oneTier ∧
     State.grade 3 yard = some steel ∧ steel.versions = [v0] ++ [v30000] ∧ [v0].length ≤ 2) ∧
    v30000.effective ≤ 30000 ∧
    State.takes ([byte 3] ++ bytesOf 3 172799 ++ [byte oneTier.length] ++ List.flatMap (fun (t : Tier) => bytesOf 3 t.bound ++ bytesOf 3 t.price) oneTier).length yard ∧
    v30000.effective ≤ 172799 ∧
    State.takes ([byte 3] ++ bytesOf 3 29999 ++ [byte oneTier.length] ++ List.flatMap (fun (t : Tier) => bytesOf 3 t.bound ++ bytesOf 3 t.price) oneTier).length yard ∧
    29999 < v30000.effective ∧
    (State.takes ([byte 3] ++ bytesOf 3 30001 ++ [byte oneTier.length] ++ List.flatMap (fun (t : Tier) => bytesOf 3 t.bound ++ bytesOf 3 t.price) oneTier).length yardThree ∧
     State.grade 3 yardThree = some steelThree ∧ steelThree.versions = zeroOnly ++ [v30000] ∧ zeroOnly.length ≤ 2) ∧
    v30000.effective ≤ 30001 := by
  decide +kernel

theorem test_premises_VersionByLockTime :
    (List.Pairwise (fun (a b : Version) => a.effective < b.effective) three ∧ v0one ∈ three ∧ v0one.effective ≤ 100) ∧
    (List.Pairwise (fun (a b : Version) => a.effective < b.effective) [v10] ∧
     (∀ (v : Version), v ∈ [v10] → 5 < v.effective)) := by
  decide +kernel

theorem test_premises_TierByPaidWeight :
    (State.grade 3 yard = some steel ∧ tiersOk v30000.tiers = true ∧
     chooseVersion (State.lockTime yard.day.clock rec1.weighInTime rec1.issueDay yard) steel.versions = (some v30000, false)) ∧
    (steel.deduction ≤ 200 ∧ 5 ≤ yard.scale.inForce.division ∧ 25000 + yard.scale.inForce.division ≤ rec1.lastWeight) ∧
    (State.grade 3 early = some steel ∧ tiersOk v0.tiers = true ∧
     chooseVersion (State.lockTime early.day.clock rec1.weighInTime rec1.issueDay early) steel.versions = (some v0, false)) ∧
    (5 ≤ early.scale.inForce.division ∧ 24880 + early.scale.inForce.division ≤ rec1.lastWeight) := by
  decide +kernel

theorem test_premises_AmountOfALine :
    State.grade 3 yard = some steel ∧
    (rec1.lastWeight ≤ 150450 ∧ (buildLine rec1 3 500 25000 false yard).price ≤ 2000000) := by
  decide +kernel

theorem test_premises_OfferOfATicket :
    0 < (input 617400 617400).net ∧
    0 < (input 617400 0).net ∧
    0 < (input 1 (-5)).net ∧
    0 < (input 1858500 0).net ∧
    (input 0 0).net ≤ 0 ∧
    (input (-3) 0).net ≤ 0 := by
  decide +kernel

theorem test_premises_PayClaimsByFrame_1 :
    (State.takes (ticketBytes t21 ++ textBytes noText).length offering ∧ offering.hasPay = true ∧
     offering.day.isOpen = true ∧ offering.flags.restarted = false ∧ t21.home ≤ 255 ∧ t21.serial ≤ 65535 ∧
     List.length noText ≤ 16 ∧ (∀ (c : Nat), c ∈ noText → c ≤ 255) ∧ offering.payOp ≠ none) ∧
    (State.takes (ticketBytes t01 ++ textBytes noText).length yard3 ∧ yard3.hasPay = true ∧ yard3.day.isOpen = true ∧
     yard3.flags.restarted = false ∧ t01.home ≤ 255 ∧ t01.serial ≤ 65535 ∧ yard3.payOp = none ∧
     (¬(ticketInRange t01 ∧ ∀ (c : Nat), c ∈ noText → 32 ≤ c ∧ c ≤ 126))) ∧
    (State.takes (ticketBytes t16 ++ textBytes noText).length yard3 ∧ t16.home ≤ 255 ∧ t16.serial ≤ 65535 ∧
     (¬(ticketInRange t16 ∧ ∀ (c : Nat), c ∈ noText → 32 ≤ c ∧ c ≤ 126))) := by
  decide +kernel

theorem test_premises_PayClaimsByFrame_2 :
    (State.takes (ticketBytes t20 ++ textBytes noText).length yard3 ∧ t20.home ≤ 255 ∧ t20.serial ≤ 65535 ∧
     (¬(ticketInRange t20 ∧ ∀ (c : Nat), c ∈ noText → 32 ≤ c ∧ c ≤ 126))) ∧
    (State.takes (ticketBytes t21 ++ textBytes badText).length yard3 ∧ List.length badText ≤ 16 ∧
     (∀ (c : Nat), c ∈ badText → c ≤ 255) ∧ (¬(ticketInRange t21 ∧ ∀ (c : Nat), c ∈ badText → 32 ≤ c ∧ c ≤ 126))) ∧
    (State.takes (ticketBytes t255Last ++ textBytes longSeller).length yard3 ∧ t255Last.home ≤ 255 ∧
     t255Last.serial ≤ 65535 ∧ List.length longSeller ≤ 16 ∧ (∀ (c : Nat), c ∈ longSeller → c ≤ 255) ∧
     (¬(ticketInRange t255Last ∧ ∀ (c : Nat), c ∈ longSeller → 32 ≤ c ∧ c ≤ 126))) ∧
    (State.takes (ticketBytes t21 ++ textBytes noText).length (halted yard3) ∧ (halted yard3).hasPay = true ∧
     (halted yard3).day.isOpen = true ∧ (halted yard3).flags.restarted = false ∧ (halted yard3).payOp = none ∧
     (ticketInRange t21 ∧ ∀ (c : Nat), c ∈ noText → 32 ≤ c ∧ c ≤ 126) ∧ gatePasses GatedOp.pay (halted yard3) = false) := by
  decide +kernel

theorem test_premises_PayClaimsByFrame_3 :
    (State.takes (ticketBytes t22 ++ textBytes noText).length (closedAt t22 yard) ∧
     (closedAt t22 yard).hasPay = true ∧ (closedAt t22 yard).day.isOpen = true ∧
     (closedAt t22 yard).flags.restarted = false ∧ t22.home ≤ 255 ∧ t22.serial ≤ 65535 ∧
     (closedAt t22 yard).payOp = none ∧ (ticketInRange t22 ∧ ∀ (c : Nat), c ∈ noText → 32 ≤ c ∧ c ≤ 126) ∧
     gatePasses GatedOp.pay (closedAt t22 yard) = true ∧ State.isClosed t22 (closedAt t22 yard) = true) ∧
    (State.takes (ticketBytes t15Last ++ textBytes noText).length yard ∧ yard.hasPay = true ∧ yard.day.isOpen = true ∧
     yard.flags.restarted = false ∧ t15Last.home ≤ 255 ∧ t15Last.serial ≤ 65535 ∧ yard.payOp = none ∧
     (ticketInRange t15Last ∧ ∀ (c : Nat), c ∈ noText → 32 ≤ c ∧ c ≤ 126) ∧ gatePasses GatedOp.pay yard = true ∧
     State.isClosed t15Last yard = false ∧ State.findRecord t15Last yard = none) := by
  decide +kernel

theorem test_premises_PayClaimsByFrame_4 :
    (State.takes (ticketBytes t21 ++ textBytes noText).length (holding stale3 settled1 yard) ∧
     (holding stale3 settled1 yard).hasPay = true ∧ (holding stale3 settled1 yard).day.isOpen = true ∧
     (holding stale3 settled1 yard).flags.restarted = false ∧ (holding stale3 settled1 yard).payOp = none ∧
     gatePasses GatedOp.pay (holding stale3 settled1 yard) = true ∧
     State.isClosed t21 (holding stale3 settled1 yard) = false ∧
     State.findRecord t21 (holding stale3 settled1 yard) = some stale3 ∧ stale3.stale = true) ∧
    (State.takes (ticketBytes t21 ++ textBytes noText).length (queued [askItem] (holding stale3 settled1 yard)) ∧
     (queued [askItem] (holding stale3 settled1 yard)).hasPay = true ∧
     (queued [askItem] (holding stale3 settled1 yard)).day.isOpen = true ∧
     (queued [askItem] (holding stale3 settled1 yard)).flags.restarted = false ∧
     (queued [askItem] (holding stale3 settled1 yard)).payOp = none ∧
     gatePasses GatedOp.pay (queued [askItem] (holding stale3 settled1 yard)) = true ∧
     State.isClosed t21 (queued [askItem] (holding stale3 settled1 yard)) = false ∧
     State.findRecord t21 (queued [askItem] (holding stale3 settled1 yard)) = some stale3) := by
  decide +kernel

theorem test_premises_PayClaimsByFrame_5 :
    (State.takes (ticketBytes t21 ++ textBytes noText).length yard1 ∧ yard1.hasPay = true ∧ yard1.day.isOpen = true ∧
     yard1.flags.restarted = false ∧ yard1.payOp = none ∧ gatePasses GatedOp.pay yard1 = true ∧
     State.isClosed t21 yard1 = false ∧ State.findRecord t21 yard1 = some rec1 ∧ rec1.stale = false ∧
     ¬(fun (life : Life) => life = Life.complete) rec1.life) ∧
    (State.takes (ticketBytes t21 ++ textBytes noText).length (holding takenPay settled1 yard) ∧
     (holding takenPay settled1 yard).hasPay = true ∧ (holding takenPay settled1 yard).day.isOpen = true ∧
     (holding takenPay settled1 yard).flags.restarted = false ∧ (holding takenPay settled1 yard).payOp = none ∧
     gatePasses GatedOp.pay (holding takenPay settled1 yard) = true ∧
     State.isClosed t21 (holding takenPay settled1 yard) = false ∧
     State.findRecord t21 (holding takenPay settled1 yard) = some takenPay ∧ takenPay.stale = false ∧
     (fun (life : Life) => life = Life.complete) takenPay.life ∧ takenPay.custody ≠ Custody.free) := by
  decide +kernel

theorem test_premises_PayClaimsByFrame_6 :
    State.takes (ticketBytes t21 ++ textBytes noText).length yard2 ∧ yard2.hasPay = true ∧ yard2.day.isOpen = true ∧
    yard2.flags.restarted = false ∧ yard2.payOp = none ∧ gatePasses GatedOp.pay yard2 = true ∧
    State.isClosed t21 yard2 = false ∧ State.findRecord t21 yard2 = some rec2 ∧ rec2.stale = false ∧
    (fun (life : Life) => life = Life.complete) rec2.life ∧ rec2.custody = Custody.free ∧
    (rec2.seller = none ∧ noText = [] ∧ ∃ (l : Line), l ∈ rec2.lines ∧ l.regulated = true) := by
  decide +kernel

theorem test_premises_PayClaimsByFrame_7 :
    (State.takes (ticketBytes t21 ++ textBytes (codesOf "X")).length yard3 ∧ List.length (codesOf "X") ≤ 16 ∧
     (∀ (c : Nat), c ∈ codesOf "X" → c ≤ 255) ∧
     (ticketInRange t21 ∧ ∀ (c : Nat), c ∈ codesOf "X" → 32 ≤ c ∧ c ≤ 126) ∧ gatePasses GatedOp.pay yard3 = true ∧
     State.isClosed t21 yard3 = false ∧ State.findRecord t21 yard3 = some rec3 ∧ rec3.stale = false ∧
     (fun (life : Life) => life = Life.complete) rec3.life ∧ rec3.custody = Custody.free ∧
     (rec3.seller ≠ none ∧ codesOf "X" ≠ [] ∧ rec3.seller ≠ some (codesOf "X"))) ∧
    (State.takes (ticketBytes t21 ++ textBytes noText).length (printing PrinterState.ready eightJobs yard3) ∧
     (printing PrinterState.ready eightJobs yard3).hasPay = true ∧
     (printing PrinterState.ready eightJobs yard3).day.isOpen = true ∧
     (printing PrinterState.ready eightJobs yard3).flags.restarted = false ∧
     (printing PrinterState.ready eightJobs yard3).payOp = none ∧
     gatePasses GatedOp.pay (printing PrinterState.ready eightJobs yard3) = true ∧
     State.isClosed t21 (printing PrinterState.ready eightJobs yard3) = false ∧
     State.findRecord t21 (printing PrinterState.ready eightJobs yard3) = some rec3 ∧
     (¬(rec3.seller = none ∧ noText = [] ∧ ∃ (l : Line), l ∈ rec3.lines ∧ l.regulated = true)) ∧
     (¬(rec3.seller ≠ none ∧ noText ≠ [] ∧ rec3.seller ≠ some noText)) ∧
     ((printing PrinterState.ready eightJobs yard3).settings.receiptRequired = true ∧ 8 ≤ (printing PrinterState.ready eightJobs yard3).printer.jobs.length)) := by
  decide +kernel

theorem test_premises_PayClaimsByFrame_8 :
    (State.takes (ticketBytes t5Last ++ textBytes noText).length (homeAway pay5) ∧ (homeAway pay5).hasPay = true ∧
     (homeAway pay5).day.isOpen = true ∧ (homeAway pay5).flags.restarted = false ∧ t5Last.home ≤ 255 ∧
     t5Last.serial ≤ 65535 ∧ (homeAway pay5).payOp = none ∧
     (ticketInRange t5Last ∧ ∀ (c : Nat), c ∈ noText → 32 ≤ c ∧ c ≤ 126) ∧
     gatePasses GatedOp.pay (homeAway pay5) = true ∧ State.isClosed t5Last (homeAway pay5) = false ∧
     State.findRecord t5Last (homeAway pay5) = some pay5 ∧ pay5.stale = false ∧
     (fun (life : Life) => life = Life.complete) pay5.life ∧ pay5.custody = Custody.free ∧
     (¬(pay5.seller = none ∧ noText = [] ∧ ∃ (l : Line), l ∈ pay5.lines ∧ l.regulated = true)) ∧
     (¬(pay5.seller ≠ none ∧ noText ≠ [] ∧ pay5.seller ≠ some noText))) ∧
    ((¬((homeAway pay5).settings.receiptRequired = true ∧ 8 ≤ (homeAway pay5).printer.jobs.length)) ∧
     ((homeAway pay5).link.state = LinkState.up ∧ ¬State.homeSeen t5Last (homeAway pay5))) := by
  decide +kernel

theorem test_premises_PayClaimsByFrame_9 :
    (State.takes (ticketBytes t5Last ++ textBytes noText).length (linked LinkState.alone (printing PrinterState.ready [job1] (holding pay5 reg1 noReceipts))) ∧
     (linked LinkState.alone (printing PrinterState.ready [job1] (holding pay5 reg1 noReceipts))).hasPay = true ∧
     (linked LinkState.alone (printing PrinterState.ready [job1] (holding pay5 reg1 noReceipts))).day.isOpen = true ∧
     (linked LinkState.alone (printing PrinterState.ready [job1] (holding pay5 reg1 noReceipts))).flags.restarted = false ∧
     (linked LinkState.alone (printing PrinterState.ready [job1] (holding pay5 reg1 noReceipts))).payOp = none ∧
     gatePasses GatedOp.pay (linked LinkState.alone (printing PrinterState.ready [job1] (holding pay5 reg1 noReceipts))) = true ∧
     State.isClosed t5Last (linked LinkState.alone (printing PrinterState.ready [job1] (holding pay5 reg1 noReceipts))) = false ∧
     State.findRecord t5Last (linked LinkState.alone (printing PrinterState.ready [job1] (holding pay5 reg1 noReceipts))) = some pay5 ∧
     (¬((linked LinkState.alone (printing PrinterState.ready [job1] (holding pay5 reg1 noReceipts))).settings.receiptRequired = true ∧ 8 ≤ (linked LinkState.alone (printing PrinterState.ready [job1] (holding pay5 reg1 noReceipts))).printer.jobs.length)) ∧
     ((linked LinkState.alone (printing PrinterState.ready [job1] (holding pay5 reg1 noReceipts))).link.state = LinkState.alone ∧ t5Last.home ≠ (linked LinkState.alone (printing PrinterState.ready [job1] (holding pay5 reg1 noReceipts))).myId ∧ (linked LinkState.alone (printing PrinterState.ready [job1] (holding pay5 reg1 noReceipts))).settings.homeCheck = true)) ∧
    (State.takes (ticketBytes t5Last ++ textBytes noText).length (linked LinkState.down (dry (printing PrinterState.ready [job1, job2] (holding pay5 reg1 yard)))) ∧
     (linked LinkState.down (dry (printing PrinterState.ready [job1, job2] (holding pay5 reg1 yard)))).hasPay = true ∧
     (linked LinkState.down (dry (printing PrinterState.ready [job1, job2] (holding pay5 reg1 yard)))).day.isOpen = true ∧
     (linked LinkState.down (dry (printing PrinterState.ready [job1, job2] (holding pay5 reg1 yard)))).flags.restarted = false ∧
     (linked LinkState.down (dry (printing PrinterState.ready [job1, job2] (holding pay5 reg1 yard)))).payOp = none ∧
     gatePasses GatedOp.pay (linked LinkState.down (dry (printing PrinterState.ready [job1, job2] (holding pay5 reg1 yard)))) = true ∧
     State.isClosed t5Last (linked LinkState.down (dry (printing PrinterState.ready [job1, job2] (holding pay5 reg1 yard)))) = false ∧
     State.findRecord t5Last (linked LinkState.down (dry (printing PrinterState.ready [job1, job2] (holding pay5 reg1 yard)))) = some pay5 ∧
     (¬((linked LinkState.down (dry (printing PrinterState.ready [job1, job2] (holding pay5 reg1 yard)))).settings.receiptRequired = true ∧ 8 ≤ (linked LinkState.down (dry (printing PrinterState.ready [job1, job2] (holding pay5 reg1 yard)))).printer.jobs.length)) ∧
     ((linked LinkState.down (dry (printing PrinterState.ready [job1, job2] (holding pay5 reg1 yard)))).link.state = LinkState.down ∧ t5Last.home ≠ (linked LinkState.down (dry (printing PrinterState.ready [job1, job2] (holding pay5 reg1 yard)))).myId)) := by
  decide +kernel

theorem test_premises_PayClaimsByFrame_10 :
    (State.takes (ticketBytes t21 ++ textBytes noText).length (linked LinkState.silent yard3) ∧
     (linked LinkState.silent yard3).hasPay = true ∧ (linked LinkState.silent yard3).day.isOpen = true ∧
     (linked LinkState.silent yard3).flags.restarted = false ∧ (linked LinkState.silent yard3).payOp = none ∧
     gatePasses GatedOp.pay (linked LinkState.silent yard3) = true ∧
     State.isClosed t21 (linked LinkState.silent yard3) = false ∧
     State.findRecord t21 (linked LinkState.silent yard3) = some rec3 ∧
     (¬((linked LinkState.silent yard3).settings.receiptRequired = true ∧ 8 ≤ (linked LinkState.silent yard3).printer.jobs.length)) ∧
     (linked LinkState.silent yard3).link.state = LinkState.silent) ∧
    (State.takes (ticketBytes t21 ++ textBytes noText).length (joining yard3) ∧ (joining yard3).hasPay = true ∧
     (joining yard3).day.isOpen = true ∧ (joining yard3).flags.restarted = false ∧ (joining yard3).payOp = none ∧
     gatePasses GatedOp.pay (joining yard3) = true ∧ State.isClosed t21 (joining yard3) = false ∧
     State.findRecord t21 (joining yard3) = some rec3 ∧
     (¬((joining yard3).settings.receiptRequired = true ∧ 8 ≤ (joining yard3).printer.jobs.length)) ∧
     (joining yard3).link.state = LinkState.joining) := by
  decide +kernel

theorem test_premises_PayClaimsByFrame_11 :
    (State.takes (ticketBytes t21 ++ textBytes noText).length (noPlace yard3) ∧ (noPlace yard3).hasPay = true ∧
     (noPlace yard3).day.isOpen = true ∧ (noPlace yard3).flags.restarted = false ∧ (noPlace yard3).payOp = none ∧
     gatePasses GatedOp.pay (noPlace yard3) = true ∧ State.isClosed t21 (noPlace yard3) = false ∧
     State.findRecord t21 (noPlace yard3) = some rec3 ∧
     (¬((noPlace yard3).settings.receiptRequired = true ∧ 8 ≤ (noPlace yard3).printer.jobs.length)) ∧
     ((noPlace yard3).link.state = LinkState.up ∧ State.homeSeen t21 (noPlace yard3) ∧ 24 ≤ (noPlace yard3).occupied)) ∧
    (State.takes (ticketBytes t21 ++ textBytes longSeller).length yard2 ∧
     (ticketInRange t21 ∧ ∀ (c : Nat), c ∈ longSeller → 32 ≤ c ∧ c ≤ 126) ∧
     (¬(rec2.seller = none ∧ longSeller = [] ∧ ∃ (l : Line), l ∈ rec2.lines ∧ l.regulated = true)) ∧
     (¬(rec2.seller ≠ none ∧ longSeller ≠ [] ∧ rec2.seller ≠ some longSeller)) ∧
     (¬(yard2.settings.receiptRequired = true ∧ 8 ≤ yard2.printer.jobs.length)) ∧ State.claimQueues t21 yard2) ∧
    (State.takes (ticketBytes t21 ++ textBytes noText).length yard3 ∧
     (¬(yard3.settings.receiptRequired = true ∧ 8 ≤ yard3.printer.jobs.length)) ∧ State.claimQueues t21 yard3) := by
  decide +kernel

theorem test_premises_PayClaimsByFrame_12 :
    State.takes (ticketBytes t21 ++ textBytes (codesOf "S-9")).length (holding rec3 settled1 noReceipts) ∧
    (holding rec3 settled1 noReceipts).hasPay = true ∧ (holding rec3 settled1 noReceipts).day.isOpen = true ∧
    (holding rec3 settled1 noReceipts).flags.restarted = false ∧ List.length (codesOf "S-9") ≤ 16 ∧
    (∀ (c : Nat), c ∈ codesOf "S-9" → c ≤ 255) ∧ (holding rec3 settled1 noReceipts).payOp = none ∧
    (ticketInRange t21 ∧ ∀ (c : Nat), c ∈ codesOf "S-9" → 32 ≤ c ∧ c ≤ 126) ∧
    gatePasses GatedOp.pay (holding rec3 settled1 noReceipts) = true ∧
    State.isClosed t21 (holding rec3 settled1 noReceipts) = false ∧
    State.findRecord t21 (holding rec3 settled1 noReceipts) = some rec3 ∧
    (¬(rec3.seller = none ∧ codesOf "S-9" = [] ∧ ∃ (l : Line), l ∈ rec3.lines ∧ l.regulated = true)) ∧
    (¬(rec3.seller ≠ none ∧ codesOf "S-9" ≠ [] ∧ rec3.seller ≠ some (codesOf "S-9"))) ∧
    (¬((holding rec3 settled1 noReceipts).settings.receiptRequired = true ∧ 8 ≤ (holding rec3 settled1 noReceipts).printer.jobs.length)) ∧
    State.claimQueues t21 (holding rec3 settled1 noReceipts) := by
  decide +kernel

theorem test_premises_PayClaimsByFrame_13 :
    State.takes (ticketBytes t21 ++ textBytes noText).length (linked LinkState.alone yard3) ∧
    (linked LinkState.alone yard3).hasPay = true ∧ (linked LinkState.alone yard3).day.isOpen = true ∧
    (linked LinkState.alone yard3).flags.restarted = false ∧ (linked LinkState.alone yard3).payOp = none ∧
    gatePasses GatedOp.pay (linked LinkState.alone yard3) = true ∧
    State.isClosed t21 (linked LinkState.alone yard3) = false ∧
    State.findRecord t21 (linked LinkState.alone yard3) = some rec3 ∧
    (¬((linked LinkState.alone yard3).settings.receiptRequired = true ∧ 8 ≤ (linked LinkState.alone yard3).printer.jobs.length)) ∧
    ((linked LinkState.alone yard3).link.state = LinkState.alone ∧ (t21.home = (linked LinkState.alone yard3).myId ∨ (linked LinkState.alone yard3).settings.homeCheck = false)) ∧
    (linked LinkState.alone yard3).notices.queue.length < 16 ∧
    (linked LinkState.alone yard3).settings.shortToTransfer = true := by
  decide +kernel

theorem test_premises_PayClaimsByFrame_14 :
    State.takes (ticketBytes t21 ++ textBytes longSeller).length (linked LinkState.down (holding rec2 settled1 noReceipts)) ∧
    (linked LinkState.down (holding rec2 settled1 noReceipts)).hasPay = true ∧
    (linked LinkState.down (holding rec2 settled1 noReceipts)).day.isOpen = true ∧
    (linked LinkState.down (holding rec2 settled1 noReceipts)).flags.restarted = false ∧
    (linked LinkState.down (holding rec2 settled1 noReceipts)).payOp = none ∧
    gatePasses GatedOp.pay (linked LinkState.down (holding rec2 settled1 noReceipts)) = true ∧
    State.isClosed t21 (linked LinkState.down (holding rec2 settled1 noReceipts)) = false ∧
    State.findRecord t21 (linked LinkState.down (holding rec2 settled1 noReceipts)) = some rec2 ∧
    (¬((linked LinkState.down (holding rec2 settled1 noReceipts)).settings.receiptRequired = true ∧ 8 ≤ (linked LinkState.down (holding rec2 settled1 noReceipts)).printer.jobs.length)) ∧
    ((linked LinkState.down (holding rec2 settled1 noReceipts)).link.state = LinkState.down ∧ t21.home = (linked LinkState.down (holding rec2 settled1 noReceipts)).myId) ∧
    (linked LinkState.down (holding rec2 settled1 noReceipts)).notices.queue.length < 16 ∧
    (linked LinkState.down (holding rec2 settled1 noReceipts)).settings.shortToTransfer = true := by
  decide +kernel

theorem test_premises_PayClaimsByFrame_15 :
    State.takes (ticketBytes t5Last ++ textBytes noText).length (linked LinkState.alone (noCheck (as 2 (holding pay5 reg1 yard)))) ∧
    (linked LinkState.alone (noCheck (as 2 (holding pay5 reg1 yard)))).hasPay = true ∧
    (linked LinkState.alone (noCheck (as 2 (holding pay5 reg1 yard)))).day.isOpen = true ∧
    (linked LinkState.alone (noCheck (as 2 (holding pay5 reg1 yard)))).flags.restarted = false ∧
    (linked LinkState.alone (noCheck (as 2 (holding pay5 reg1 yard)))).payOp = none ∧
    gatePasses GatedOp.pay (linked LinkState.alone (noCheck (as 2 (holding pay5 reg1 yard)))) = true ∧
    State.isClosed t5Last (linked LinkState.alone (noCheck (as 2 (holding pay5 reg1 yard)))) = false ∧
    State.findRecord t5Last (linked LinkState.alone (noCheck (as 2 (holding pay5 reg1 yard)))) = some pay5 ∧
    (¬((linked LinkState.alone (noCheck (as 2 (holding pay5 reg1 yard)))).settings.receiptRequired = true ∧ 8 ≤ (linked LinkState.alone (noCheck (as 2 (holding pay5 reg1 yard)))).printer.jobs.length)) ∧
    ((linked LinkState.alone (noCheck (as 2 (holding pay5 reg1 yard)))).link.state = LinkState.alone ∧ (t5Last.home = (linked LinkState.alone (noCheck (as 2 (holding pay5 reg1 yard)))).myId ∨ (linked LinkState.alone (noCheck (as 2 (holding pay5 reg1 yard)))).settings.homeCheck = false)) ∧
    (linked LinkState.alone (noCheck (as 2 (holding pay5 reg1 yard)))).notices.queue.length < 16 ∧
    (linked LinkState.alone (noCheck (as 2 (holding pay5 reg1 yard)))).settings.shortToTransfer = true := by
  decide +kernel

theorem test_premises_PayClaimsByFrame_16 :
    State.takes (ticketBytes t21 ++ textBytes noText).length (linked LinkState.alone (holding rec3 settled1 shortYard)) ∧
    (linked LinkState.alone (holding rec3 settled1 shortYard)).hasPay = true ∧
    (linked LinkState.alone (holding rec3 settled1 shortYard)).day.isOpen = true ∧
    (linked LinkState.alone (holding rec3 settled1 shortYard)).flags.restarted = false ∧
    (linked LinkState.alone (holding rec3 settled1 shortYard)).payOp = none ∧
    gatePasses GatedOp.pay (linked LinkState.alone (holding rec3 settled1 shortYard)) = true ∧
    State.isClosed t21 (linked LinkState.alone (holding rec3 settled1 shortYard)) = false ∧
    State.findRecord t21 (linked LinkState.alone (holding rec3 settled1 shortYard)) = some rec3 ∧
    (¬((linked LinkState.alone (holding rec3 settled1 shortYard)).settings.receiptRequired = true ∧ 8 ≤ (linked LinkState.alone (holding rec3 settled1 shortYard)).printer.jobs.length)) ∧
    ((linked LinkState.alone (holding rec3 settled1 shortYard)).link.state = LinkState.alone ∧ (t21.home = (linked LinkState.alone (holding rec3 settled1 shortYard)).myId ∨ (linked LinkState.alone (holding rec3 settled1 shortYard)).settings.homeCheck = false)) ∧
    (linked LinkState.alone (holding rec3 settled1 shortYard)).notices.queue.length < 16 ∧
    0 < (computeOffer (rec3.offered (decide ((linked LinkState.alone (holding rec3 settled1 shortYard)).link.state = LinkState.down)) (rec3.seller.isSome || decide (noText ≠ []))) (linked LinkState.alone (holding rec3 settled1 shortYard))).shortfall ∧
    (linked LinkState.alone (holding rec3 settled1 shortYard)).settings.shortToTransfer = false := by
  decide +kernel

theorem test_premises_PayClaimsByFrame_17 :
    State.takes (ticketBytes t21 ++ textBytes noText).length (linked LinkState.down (dry (printing PrinterState.ready [job1, job2] (holding rec3 settled1 shortYard)))) ∧
    (linked LinkState.down (dry (printing PrinterState.ready [job1, job2] (holding rec3 settled1 shortYard)))).hasPay = true ∧
    (linked LinkState.down (dry (printing PrinterState.ready [job1, job2] (holding rec3 settled1 shortYard)))).day.isOpen = true ∧
    (linked LinkState.down (dry (printing PrinterState.ready [job1, job2] (holding rec3 settled1 shortYard)))).flags.restarted = false ∧
    (linked LinkState.down (dry (printing PrinterState.ready [job1, job2] (holding rec3 settled1 shortYard)))).payOp = none ∧
    gatePasses GatedOp.pay (linked LinkState.down (dry (printing PrinterState.ready [job1, job2] (holding rec3 settled1 shortYard)))) = true ∧
    State.isClosed t21 (linked LinkState.down (dry (printing PrinterState.ready [job1, job2] (holding rec3 settled1 shortYard)))) = false ∧
    State.findRecord t21 (linked LinkState.down (dry (printing PrinterState.ready [job1, job2] (holding rec3 settled1 shortYard)))) = some rec3 ∧
    (¬((linked LinkState.down (dry (printing PrinterState.ready [job1, job2] (holding rec3 settled1 shortYard)))).settings.receiptRequired = true ∧ 8 ≤ (linked LinkState.down (dry (printing PrinterState.ready [job1, job2] (holding rec3 settled1 shortYard)))).printer.jobs.length)) ∧
    ((linked LinkState.down (dry (printing PrinterState.ready [job1, job2] (holding rec3 settled1 shortYard)))).link.state = LinkState.down ∧ t21.home = (linked LinkState.down (dry (printing PrinterState.ready [job1, job2] (holding rec3 settled1 shortYard)))).myId) ∧
    (linked LinkState.down (dry (printing PrinterState.ready [job1, job2] (holding rec3 settled1 shortYard)))).notices.queue.length < 16 ∧
    0 < (computeOffer (rec3.offered (decide ((linked LinkState.down (dry (printing PrinterState.ready [job1, job2] (holding rec3 settled1 shortYard)))).link.state = LinkState.down)) (rec3.seller.isSome || decide (noText ≠ []))) (linked LinkState.down (dry (printing PrinterState.ready [job1, job2] (holding rec3 settled1 shortYard))))).shortfall ∧
    (linked LinkState.down (dry (printing PrinterState.ready [job1, job2] (holding rec3 settled1 shortYard)))).settings.shortToTransfer = false := by
  decide +kernel

theorem test_premises_PayConfirmCommitsTheOffer_1 :
    (State.takes 3 yard ∧ yard.hasPay = true ∧ t21.home ≤ 255 ∧ t21.serial ≤ 65535 ∧ yard.payOp = none) ∧
    (t00.home ≤ 255 ∧ t00.serial ≤ 65535) ∧
    (State.takes 3 offering ∧ offering.hasPay = true ∧ t2Last.home ≤ 255 ∧ t2Last.serial ≤ 65535 ∧
     offering.payOp = some paying ∧ paying.offer = some offer1 ∧ paying.target ≠ t2Last) ∧
    paying.target ≠ t00 ∧
    (t255.home ≤ 255 ∧ t255.serial ≤ 65535 ∧ paying.target ≠ t255) := by
  decide +kernel

theorem test_premises_PayConfirmCommitsTheOffer_2 :
    (paying.target = t21 ∧ State.findRecord t21 offering = some heldPay ∧
     heldPay.custody = Custody.held SlotId.pay Purpose.pay ∧ heldPay.step = paying.claimedStep ∧
     heldPay.stale = false ∧ (paying.grant = Grant.byFrame → paying.closing = true) ∧
     State.closedEntry t21 offering = none) ∧
    paying.grant = Grant.byFrame ∧
    paying.placeholder = some 1 ∧
    (State.takes 3 (offeringAt false) ∧ (offeringAt false).hasPay = true ∧
     (offeringAt false).payOp = some payingLocal ∧ payingLocal.offer = some offer1 ∧ payingLocal.target = t21 ∧
     State.findRecord t21 (offeringAt false) = some peerPay ∧ peerPay.custody = Custody.held SlotId.pay Purpose.pay ∧
     peerPay.step = payingLocal.claimedStep ∧ peerPay.stale = false ∧
     (payingLocal.grant = Grant.byFrame → payingLocal.closing = true) ∧
     State.closedEntry t21 (offeringAt false) = none) ∧
    (offeringAt false).occupied < 24 := by
  decide +kernel

theorem test_premises_PayConfirmCommitsTheOffer_3 :
    (State.takes 3 (noPlace (offeringAt false)) ∧ (noPlace (offeringAt false)).hasPay = true ∧
     (noPlace (offeringAt false)).payOp = some payingLocal ∧
     State.findRecord t21 (noPlace (offeringAt false)) = some peerPay ∧
     State.closedEntry t21 (noPlace (offeringAt false)) = none) ∧
    (payingLocal.grant ≠ Grant.byFrame ∧ 24 ≤ (noPlace (offeringAt false)).occupied ∧
     (∀ (i : QueueItem), i ∈ (noPlace (offeringAt false)).link.queue → i.onWire = true ∨ Option.map Frame.kind i.frames.head? ≠ some FrameKind.announce) ∧
     (∀ (i : QueueItem), i ∈ (noPlace (offeringAt false)).link.queue → i.burst = none ∨ i.started = true ∨ i.onWire = true)) ∧
    (State.takes 3 (bareOffer []) ∧ (bareOffer []).hasPay = true ∧ (bareOffer []).payOp = some payingBare ∧
     payingBare.offer = some offer1 ∧ payingBare.target = t21 ∧ State.findRecord t21 (bareOffer []) = some peerPay ∧
     peerPay.step = payingBare.claimedStep ∧ (payingBare.grant = Grant.byFrame → payingBare.closing = true) ∧
     State.closedEntry t21 (bareOffer []) = none) ∧
    (payingBare.placeholder = none ∧ (bareOffer []).printer.jobs.length < 8) := by
  decide +kernel

theorem test_premises_PayConfirmCommitsTheOffer_4 :
    (State.takes 3 (bareOffer eightJobs) ∧ (bareOffer eightJobs).hasPay = true ∧
     (bareOffer eightJobs).payOp = some payingBare ∧ State.findRecord t21 (bareOffer eightJobs) = some peerPay ∧
     State.closedEntry t21 (bareOffer eightJobs) = none) ∧
    8 ≤ (bareOffer eightJobs).printer.jobs.length := by
  decide +kernel

theorem test_premises_OfferEndsWithoutAPayout_1 :
    (yard.hasPay = true ∧ State.takes 0 yard ∧ yard.payOp = none) ∧
    (offering.hasPay = true ∧ offering.payOp = some paying ∧ State.findRecord paying.target offering = some heldPay ∧
     paying.offer = some offer1 ∧ heldPay.custody = Custody.held SlotId.pay Purpose.pay) ∧
    State.takes 0 offering ∧
    (offering.powered = true ∧ paying.confirm = some 120000 ∧ offering.notices.queue.length < 16) ∧
    ((offeringAt true).hasPay = true ∧ (offeringAt true).payOp = some paying ∧
     State.findRecord paying.target (offeringAt true) = some peerPay ∧
     peerPay.custody = Custody.held SlotId.pay Purpose.pay) ∧
    State.takes 0 (offeringAt true) ∧
    ((offeringAt true).powered = true ∧ (offeringAt true).notices.queue.length < 16) := by
  decide +kernel

theorem test_premises_OfferEndsWithoutAPayout_2 :
    ((offeringAt false).hasPay = true ∧ (offeringAt false).payOp = some payingLocal ∧
     State.findRecord payingLocal.target (offeringAt false) = some peerPay ∧ payingLocal.offer = some offer1) ∧
    State.takes 0 (offeringAt false) ∧
    ((offeringAt false).powered = true ∧ payingLocal.confirm = some 120000 ∧
     (offeringAt false).notices.queue.length < 16) ∧
    (claimingPay.hasPay = true ∧ claimingPay.payOp = some payingWait ∧
     State.findRecord payingWait.target claimingPay = some claimPay ∧ payingWait.offer = none ∧
     claimPay.custody = Custody.claiming SlotId.pay Purpose.pay ∧ State.takes 0 claimingPay ∧
     claimingPay.notices.queue.length < 16) ∧
    (List.filter (fun (i : QueueItem) => decide (i.slot = some SlotId.pay)) claimingPay.link.queue = [payItem] ∧
     payItem.started = false ∧ payItem.onWire = false) := by
  decide +kernel

theorem test_premises_OfferEndsWithoutAPayout_3 :
    ((queued [askItem, payOnWire] claimingPay).hasPay = true ∧
     (queued [askItem, payOnWire] claimingPay).payOp = some payingWait ∧
     State.findRecord payingWait.target (queued [askItem, payOnWire] claimingPay) = some claimPay ∧
     State.takes 0 (queued [askItem, payOnWire] claimingPay) ∧
     (queued [askItem, payOnWire] claimingPay).notices.queue.length < 16) ∧
    (List.filter (fun (i : QueueItem) => decide (i.slot = some SlotId.pay)) (queued [askItem, payOnWire] claimingPay).link.queue = [payOnWire] ∧
     payOnWire.onWire = true) ∧
    ((queued [triedPay, askItem] claimingPay).hasPay = true ∧
     (queued [triedPay, askItem] claimingPay).payOp = some payingWait ∧
     State.findRecord payingWait.target (queued [triedPay, askItem] claimingPay) = some claimPay ∧
     State.takes 0 (queued [triedPay, askItem] claimingPay) ∧
     (queued [triedPay, askItem] claimingPay).notices.queue.length < 16) ∧
    (List.filter (fun (i : QueueItem) => decide (i.slot = some SlotId.pay)) (queued [triedPay, askItem] claimingPay).link.queue = [triedPay] ∧
     triedPay.started = true) ∧
    ((queued [closedItem, askItem] windowPay).hasPay = true ∧
     (queued [closedItem, askItem] windowPay).payOp = some payingWait ∧
     State.findRecord payingWait.target (queued [closedItem, askItem] windowPay) = some claimPay ∧
     State.takes 0 (queued [closedItem, askItem] windowPay) ∧
     (queued [closedItem, askItem] windowPay).notices.queue.length < 16) ∧
    ((∀ (i : QueueItem), i ∈ (queued [closedItem, askItem] windowPay).link.queue → i.slot ≠ some SlotId.pay) ∧
     payingWait.closing = true) := by
  decide +kernel

theorem test_premises_OfferEndsWithoutAPayout_4 :
    (voidClaiming.hasPay = true ∧ voidClaiming.payOp = some voidPay ∧
     State.findRecord voidPay.target voidClaiming = some (voidRec SlotId.pay) ∧ voidPay.offer = none ∧
     (voidRec SlotId.pay).custody = Custody.claiming SlotId.pay Purpose.void ∧ State.takes 0 voidClaiming ∧
     voidClaiming.notices.queue.length < 16) ∧
    (List.filter (fun (i : QueueItem) => decide (i.slot = some SlotId.pay)) voidClaiming.link.queue = [voidItem] ∧
     voidItem.started = false ∧ voidItem.onWire = false) := by
  decide +kernel

theorem test_premises_RefillAndCashLimits :
    (State.takes 7 yard ∧ yard.hasPay = true ∧ yard.flags.restarted = false ∧ yard.offered = false ∧
     List.find? (fun (p : Denomination) => decide (p.value = 5000)) yard.drawer.denominations = some fives ∧
     0 ≤ (fives.count : Int) + 9959 ∧ (fives.count : Int) + 9959 ≤ 9999) ∧
    (0 ≤ (fives.count : Int) + -40 ∧ (fives.count : Int) + -40 ≤ 9999) ∧
    ((fives.count : Int) + 9960 < 0 ∨ 9999 < (fives.count : Int) + 9960) ∧
    ((fives.count : Int) + -41 < 0 ∨ 9999 < (fives.count : Int) + -41) ∧
    State.takes 8 yard := by
  decide +kernel

theorem test_premises_SetDenominationsReplacesTheTable :
    (State.takes (byte threeValues.length :: List.flatMap (fun (p : DenominationParams) => bytesOf 3 p.value ++ [byte p.enabled] ++ bytesOf 2 p.lowMark) threeValues).length counted ∧
     counted.hasPay = true ∧ counted.day.isOpen = false ∧ counted.flags.restarted = false ∧ counted.offered = false ∧
     (∀ (p : DenominationParams), p ∈ threeValues → 1 ≤ p.value ∧ p.value ≤ 1000000 ∧ p.enabled ≤ 1 ∧ p.lowMark ≤ 9999) ∧
     (List.map DenominationParams.value threeValues).Nodup ∧
     (∀ (d : Denomination), d ∈ counted.drawer.denominations → 0 < d.count → ∃ (p : DenominationParams), p ∈ threeValues ∧ p.value = d.value)) ∧
    (State.takes (byte oneValue.length :: List.flatMap (fun (p : DenominationParams) => bytesOf 3 p.value ++ [byte p.enabled] ++ bytesOf 2 p.lowMark) oneValue).length counted ∧
     (∀ (p : DenominationParams), p ∈ oneValue → 1 ≤ p.value ∧ p.value ≤ 1000000 ∧ p.enabled ≤ 1 ∧ p.lowMark ≤ 9999) ∧
     (List.map DenominationParams.value oneValue).Nodup ∧ fivesFull ∈ counted.drawer.denominations ∧
     0 < fivesFull.count ∧ (∀ (p : DenominationParams), p ∈ oneValue → p.value ≠ fivesFull.value)) ∧
    (State.takes (byte twoAlike.length :: List.flatMap (fun (p : DenominationParams) => bytesOf 3 p.value ++ [byte p.enabled] ++ bytesOf 2 p.lowMark) twoAlike).length counted ∧
     (∀ (p : DenominationParams), p ∈ twoAlike → 1 ≤ p.value ∧ p.value ≤ 1000000 ∧ p.enabled ≤ 1 ∧ p.lowMark ≤ 9999) ∧
     ¬(List.map DenominationParams.value twoAlike).Nodup) := by
  decide +kernel

theorem test_premises_ReadingsChangeNothing_1 :
    State.takes 0 flagged ∧
    (State.takes 1 yard ∧ BitVec.toNat (1 : Byte) ≤ 1) ∧
    BitVec.toNat (0 : Byte) ≤ 1 ∧
    State.takes 1 (printing PrinterState.ready [job1] (dry yard)) ∧
    (State.takes 1 flagged ∧ 1 ≤ BitVec.toNat (1 : Byte) ∧ BitVec.toNat (1 : Byte) ≤ 4) ∧
    (1 ≤ BitVec.toNat (4 : Byte) ∧ BitVec.toNat (4 : Byte) ≤ 4) ∧
    5 ≤ BitVec.toNat (5 : Byte) ∧
    5 ≤ BitVec.toNat (255 : Byte) ∧
    2 ≤ BitVec.toNat (2 : Byte) ∧
    (State.takes 0 yard ∧ yard.hasPay = true) ∧
    yard.offered = false ∧
    (State.takes 0 offering ∧ offering.hasPay = true ∧ offering.payOp = some paying ∧ paying.offer = some offer1) ∧
    (yard.hasWeigh = true ∧ yard.scale.last = none) := by
  decide +kernel

theorem test_premises_ReadingsChangeNothing_2 :
    (State.takes 0 sampled ∧ sampled.hasWeigh = true ∧ sampled.scale.last = some sample9) ∧
    (State.takes 0 reconfiguredSample ∧ reconfiguredSample.hasWeigh = true ∧
     reconfiguredSample.scale.last = some sample9) := by
  decide +kernel

theorem test_premises_LookupsAnswerFromTheStore_1 :
    (1 ≤ t21.home ∧ t21.home ≤ 15 ∧ 1 ≤ t21.serial ∧ t21.serial ≤ 65535 ∧ State.takes 4 yard3) ∧
    State.findRecord t21 yard3 = some rec3 ∧
    (1 ≤ t22.home ∧ t22.home ≤ 15 ∧ 1 ≤ t22.serial ∧ t22.serial ≤ 65535 ∧ State.takes 4 settledYard) ∧
    (State.findRecord t22 settledYard = none ∧ State.closedEntry t22 settledYard = some paid22 ∧
     BitVec.toNat (9 : Byte) ≤ 9) ∧
    State.takes 4 entryOnly ∧
    (State.findRecord t21 entryOnly = none ∧ State.closedEntry t21 entryOnly = none ∧
     State.regEntry t21 entryOnly = some reg1) ∧
    1 ≤ BitVec.toNat (9 : Byte) := by
  decide +kernel

theorem test_premises_LookupsAnswerFromTheStore_2 :
    (1 ≤ t15Last.home ∧ t15Last.home ≤ 15 ∧ 1 ≤ t15Last.serial ∧ t15Last.serial ≤ 65535 ∧ State.takes 4 yard) ∧
    (State.findRecord t15Last yard = none ∧ State.closedEntry t15Last yard = none ∧ State.regEntry t15Last yard = none) ∧
    9 < BitVec.toNat (10 : Byte) ∧
    (State.takes 2 yard ∧ State.grade 32 yard = none) ∧
    State.grade 3 yard = some steel := by
  decide +kernel

theorem test_premises_FindByTagFindsTheOldest_1 :
    (State.takes (List.length (codesOf "AB 12") + 1) yard1 ∧ List.length (codesOf "AB 12") ≤ 12 ∧
     (∀ (c : Nat), c ∈ codesOf "AB 12" → c ≤ 255)) ∧
    (codesOf "AB 12" ≠ [] ∧ (∀ (c : Nat), c ∈ codesOf "AB 12" → 32 ≤ c ∧ c ≤ 126) ∧
     yard1.tickets.table = [] ++ [rec1] ∧ rec1.tag = some (codesOf "AB 12") ∧
     (∀ (q : Record), q ∈ [] → q.tag ≠ some (codesOf "AB 12"))) ∧
    (State.takes (List.length longTag + 1) yard1 ∧ List.length longTag ≤ 12 ∧ (∀ (c : Nat), c ∈ longTag → c ≤ 255) ∧
     longTag ≠ [] ∧ (∀ (c : Nat), c ∈ longTag → 32 ≤ c ∧ c ≤ 126) ∧
     (∀ (r : Record), r ∈ yard1.tickets.table → r.tag ≠ some longTag)) ∧
    (State.takes (List.length noText + 1) yard1 ∧ List.length noText ≤ 12 ∧ (∀ (c : Nat), c ∈ noText → c ≤ 255) ∧
     noText = []) ∧
    (State.takes ([127].length + 1) yard1 ∧ [127].length ≤ 12 ∧ (∀ (c : Nat), c ∈ [127] → c ≤ 255) ∧ 127 ∈ [127]) := by
  decide +kernel

theorem test_premises_FindByTagFindsTheOldest_2 :
    State.takes ([31].length + 1) yard1 ∧ [31].length ≤ 12 ∧ (∀ (c : Nat), c ∈ [31] → c ≤ 255) ∧ 31 ∈ [31] := by
  decide +kernel

theorem test_premises_ListTicketsAndReleaseForeign_1 :
    State.takes 1 roomless ∧
    roomless.tickets.table = roomless.tickets.table ∧
    roomless.tickets.cursor = none ∧
    State.takes 1 cursorAt5 ∧
    (cursorAt5.tickets.table = [] ++ [old5, rec1] ∧ cursorAt5.tickets.cursor = some old5.number ∧
     (∀ (q : Record), q ∈ [] → q.number ≠ old5.number)) ∧
    (State.takes 1 (taken 15) ∧ (taken 15).flags.restarted = false) ∧
    (BitVec.toNat (15 : Byte) ≤ 15 ∧ BitVec.toNat (15 : Byte) ≠ (taken 15).myId ∧
     State.present (BitVec.toNat (15 : Byte)) (taken 15) = false) ∧
    (State.takes 1 yard1 ∧ yard1.flags.restarted = false ∧ BitVec.toNat (5 : Byte) ≤ 15 ∧
     BitVec.toNat (5 : Byte) ≠ yard1.myId ∧ State.present (BitVec.toNat (5 : Byte)) yard1 = true) ∧
    15 < BitVec.toNat (16 : Byte) ∧
    BitVec.toNat (2 : Byte) = yard1.myId := by
  decide +kernel

theorem test_premises_ListTicketsAndReleaseForeign_2 :
    (State.takes 3 yard1 ∧ t00.home ≤ 255 ∧ t00.serial ≤ 65535 ∧ t00.home = 0) ∧
    (t255.home ≤ 255 ∧ t255.serial ≤ 65535 ∧ 15 < t255.home) ∧
    (t15Last.home ≤ 255 ∧ t15Last.serial ≤ 65535 ∧ 1 ≤ t15Last.home ∧ t15Last.home ≤ 15 ∧ 1 ≤ t15Last.serial ∧
     State.findRecord t15Last yard1 = none ∧ State.regEntry t15Last yard1 = none) := by
  decide +kernel

theorem test_premises_ListTicketsAndReleaseForeign_3 :
    (State.takes 3 (taken 15) ∧ t21.home ≤ 255 ∧ t21.serial ≤ 65535 ∧ 1 ≤ t21.home ∧ t21.home ≤ 15 ∧ 1 ≤ t21.serial ∧
     State.findRecord t21 (taken 15) = some (takenRec 15) ∧ (takenRec 15).taker = some 15 ∧
     State.present 15 (taken 15) = false) ∧
    (State.takes 3 (taken 5) ∧ (taken 5).flags.restarted = false ∧
     State.findRecord t21 (taken 5) = some (takenRec 5) ∧ (takenRec 5).taker = some 5 ∧
     State.present 5 (taken 5) = true) ∧
    (State.findRecord t21 yard1 = some rec1 ∧ rec1.taker = none ∧
     (∀ (e : RegEntry), e ∈ State.regEntry t21 yard1 → ¬(e.holder ≠ 0 ∧ e.holder ≠ yard1.myId))) := by
  decide +kernel

theorem test_premises_ListTicketsAndReleaseForeign_4 :
    (State.takes 3 entryOnly ∧ entryOnly.flags.restarted = false ∧ State.regEntry t21 entryOnly = some reg1 ∧
     (∀ (r : Record), r ∈ State.findRecord t21 entryOnly → r.taker = none) ∧ State.findRecord t21 entryOnly = none ∧
     (¬(reg1.holder ≠ 0 ∧ reg1.holder ≠ entryOnly.myId))) ∧
    (State.takes 3 (entryHeldBy 5) ∧ (entryHeldBy 5).flags.restarted = false ∧
     State.regEntry t21 (entryHeldBy 5) = some (entryOf 5) ∧
     (∀ (r : Record), r ∈ State.findRecord t21 (entryHeldBy 5) → r.taker = none) ∧
     (((entryOf 5).holder ≠ 0 ∧ (entryOf 5).holder ≠ (entryHeldBy 5).myId)) ∧
     State.present (entryOf 5).holder (entryHeldBy 5) = true) ∧
    (State.takes 3 (entryHeldBy 15) ∧ (entryHeldBy 15).flags.restarted = false ∧
     State.regEntry t21 (entryHeldBy 15) = some (entryOf 15) ∧
     (∀ (r : Record), r ∈ State.findRecord t21 (entryHeldBy 15) → r.taker = none) ∧
     (((entryOf 15).holder ≠ 0 ∧ (entryOf 15).holder ≠ (entryHeldBy 15).myId)) ∧
     State.present (entryOf 15).holder (entryHeldBy 15) = false) := by
  decide +kernel

theorem test_premises_ListTicketsAndReleaseForeign_5 :
    State.takes 3 (holding rec1 (entryOf 15) yard) ∧ (holding rec1 (entryOf 15) yard).flags.restarted = false ∧
    State.regEntry t21 (holding rec1 (entryOf 15) yard) = some (entryOf 15) ∧
    (∀ (r : Record), r ∈ State.findRecord t21 (holding rec1 (entryOf 15) yard) → r.taker = none) ∧
    (((entryOf 15).holder ≠ 0 ∧ (entryOf 15).holder ≠ (holding rec1 (entryOf 15) yard).myId)) ∧
    State.present (entryOf 15).holder (holding rec1 (entryOf 15) yard) = false := by
  decide +kernel

theorem test_premises_ClaimWindowGrants_1 :
    (windowWeigh.powered = true ∧ windowWeigh.weigh = some (claimOp true) ∧
     (claimOp true).kind = WeighKind.weighStep 3 10 true ∧
     windowWeigh.weighTimer = { phase := Phase.window, subject := some sub1, count := some 50 }) ∧
    (windowPay.powered = true ∧ windowPay.payOp = some payingWait ∧ payingWait.target = subPay.ticket ∧
     windowPay.payTimer = { phase := Phase.window, subject := some subPay, count := some 50 } ∧
     State.findRecord subPay.ticket windowPay = some claimPay ∧ windowPay.notices.queue.length < 16) ∧
    (claimPay.step = payingWait.claimedStep ∧ claimPay.stale = false ∧ payingWait.isVoid = false ∧
     windowPay.settings.shortToTransfer = true) ∧
    ((payWindow subPay payingWait claimPay [voucherJob] shortYard).powered = true ∧
     (payWindow subPay payingWait claimPay [voucherJob] shortYard).payOp = some payingWait ∧
     (payWindow subPay payingWait claimPay [voucherJob] shortYard).payTimer = { phase := Phase.window, subject := some subPay, count := some 50 } ∧
     State.findRecord subPay.ticket (payWindow subPay payingWait claimPay [voucherJob] shortYard) = some claimPay ∧
     (payWindow subPay payingWait claimPay [voucherJob] shortYard).notices.queue.length < 16) ∧
    (0 < (computeOffer (claimPay.offered false (claimPay.seller.isSome || payingWait.given.isSome)) (payWindow subPay payingWait claimPay [voucherJob] shortYard)).shortfall ∧
     (payWindow subPay payingWait claimPay [voucherJob] shortYard).settings.shortToTransfer = false) := by
  decide +kernel

theorem test_premises_ClaimWindowGrants_2 :
    ((payWindow subPay payingWait changedPay [voucherJob] yard).powered = true ∧
     (payWindow subPay payingWait changedPay [voucherJob] yard).payOp = some payingWait ∧
     (payWindow subPay payingWait changedPay [voucherJob] yard).payTimer = { phase := Phase.window, subject := some subPay, count := some 50 } ∧
     State.findRecord subPay.ticket (payWindow subPay payingWait changedPay [voucherJob] yard) = some changedPay ∧
     (payWindow subPay payingWait changedPay [voucherJob] yard).notices.queue.length < 16) ∧
    changedPay.step ≠ payingWait.claimedStep ∧
    ((payWindow subPay payingWait stalePay [voucherJob] (as 2 yard)).powered = true ∧
     (payWindow subPay payingWait stalePay [voucherJob] (as 2 yard)).payOp = some payingWait ∧
     (payWindow subPay payingWait stalePay [voucherJob] (as 2 yard)).payTimer = { phase := Phase.window, subject := some subPay, count := some 50 } ∧
     State.findRecord subPay.ticket (payWindow subPay payingWait stalePay [voucherJob] (as 2 yard)) = some stalePay ∧
     (payWindow subPay payingWait stalePay [voucherJob] (as 2 yard)).notices.queue.length < 16) ∧
    (stalePay.step = payingWait.claimedStep ∧ stalePay.stale = true) ∧
    ((payWindow subVoid voidPay (voidRec SlotId.pay) eightJobs yard).powered = true ∧
     (payWindow subVoid voidPay (voidRec SlotId.pay) eightJobs yard).payOp = some voidPay ∧
     voidPay.target = subVoid.ticket ∧
     (payWindow subVoid voidPay (voidRec SlotId.pay) eightJobs yard).payTimer = { phase := Phase.window, subject := some subVoid, count := some 50 } ∧
     State.findRecord subVoid.ticket (payWindow subVoid voidPay (voidRec SlotId.pay) eightJobs yard) = some (voidRec SlotId.pay) ∧
     (payWindow subVoid voidPay (voidRec SlotId.pay) eightJobs yard).notices.queue.length < 16) := by
  decide +kernel

theorem test_premises_ClaimWindowGrants_3 :
    ((voidRec SlotId.pay).step = voidPay.claimedStep ∧ (voidRec SlotId.pay).stale = false ∧ voidPay.isVoid = true ∧
     voidPay.placeholder = none) ∧
    ((payWindow subVoid voidPay (voidRec SlotId.pay) [job1] yard).powered = true ∧
     (payWindow subVoid voidPay (voidRec SlotId.pay) [job1] yard).payOp = some voidPay ∧
     (payWindow subVoid voidPay (voidRec SlotId.pay) [job1] yard).payTimer = { phase := Phase.window, subject := some subVoid, count := some 50 } ∧
     State.findRecord subVoid.ticket (payWindow subVoid voidPay (voidRec SlotId.pay) [job1] yard) = some (voidRec SlotId.pay) ∧
     (payWindow subVoid voidPay (voidRec SlotId.pay) [job1] yard).notices.queue.length < 16) ∧
    ((¬((payWindow subVoid voidPay (voidRec SlotId.pay) [job1] yard).settings.receiptRequired = true ∧ 8 ≤ (payWindow subVoid voidPay (voidRec SlotId.pay) [job1] yard).printer.jobs.length)) ∧
     State.closedEntry subVoid.ticket (payWindow subVoid voidPay (voidRec SlotId.pay) [job1] yard) = none) ∧
    ((payWindow subVoid voidPay (voidRec SlotId.pay) eightJobs noReceipts).powered = true ∧
     (payWindow subVoid voidPay (voidRec SlotId.pay) eightJobs noReceipts).payOp = some voidPay ∧
     (payWindow subVoid voidPay (voidRec SlotId.pay) eightJobs noReceipts).payTimer = { phase := Phase.window, subject := some subVoid, count := some 50 } ∧
     State.findRecord subVoid.ticket (payWindow subVoid voidPay (voidRec SlotId.pay) eightJobs noReceipts) = some (voidRec SlotId.pay) ∧
     (payWindow subVoid voidPay (voidRec SlotId.pay) eightJobs noReceipts).notices.queue.length < 16) ∧
    ((¬((payWindow subVoid voidPay (voidRec SlotId.pay) eightJobs noReceipts).settings.receiptRequired = true ∧ 8 ≤ (payWindow subVoid voidPay (voidRec SlotId.pay) eightJobs noReceipts).printer.jobs.length)) ∧
     State.closedEntry subVoid.ticket (payWindow subVoid voidPay (voidRec SlotId.pay) eightJobs noReceipts) = none) := by
  decide +kernel

theorem test_premises_ClaimWindowGrants_4 :
    ((voidWindow changedVoid [job1] yard).powered = true ∧ (voidWindow changedVoid [job1] yard).weigh = some voidOp ∧
     voidOp.kind = WeighKind.void ∧ voidOp.target = some subVoid.ticket ∧
     (voidWindow changedVoid [job1] yard).weighTimer = { phase := Phase.window, subject := some subVoid, count := some 50 } ∧
     State.findRecord subVoid.ticket (voidWindow changedVoid [job1] yard) = some changedVoid ∧
     (voidWindow changedVoid [job1] yard).notices.queue.length < 16) ∧
    changedVoid.step ≠ voidOp.claimedStep ∧
    ((voidWindow staleVoid [job1] (as 1 yard)).powered = true ∧
     (voidWindow staleVoid [job1] (as 1 yard)).weigh = some voidOp ∧
     (voidWindow staleVoid [job1] (as 1 yard)).weighTimer = { phase := Phase.window, subject := some subVoid, count := some 50 } ∧
     State.findRecord subVoid.ticket (voidWindow staleVoid [job1] (as 1 yard)) = some staleVoid ∧
     (voidWindow staleVoid [job1] (as 1 yard)).notices.queue.length < 16) ∧
    (staleVoid.step = voidOp.claimedStep ∧ staleVoid.stale = true) ∧
    ((voidWindow (voidRec SlotId.weigh) eightJobs yard).powered = true ∧
     (voidWindow (voidRec SlotId.weigh) eightJobs yard).weigh = some voidOp ∧
     (voidWindow (voidRec SlotId.weigh) eightJobs yard).weighTimer = { phase := Phase.window, subject := some subVoid, count := some 50 } ∧
     State.findRecord subVoid.ticket (voidWindow (voidRec SlotId.weigh) eightJobs yard) = some (voidRec SlotId.weigh) ∧
     (voidWindow (voidRec SlotId.weigh) eightJobs yard).notices.queue.length < 16) ∧
    ((voidRec SlotId.weigh).step = voidOp.claimedStep ∧ (voidRec SlotId.weigh).stale = false) := by
  decide +kernel

theorem test_premises_ClaimWindowGrants_5 :
    ((voidWindow (voidRec SlotId.weigh) [job1] yard).powered = true ∧
     (voidWindow (voidRec SlotId.weigh) [job1] yard).weigh = some voidOp ∧
     (voidWindow (voidRec SlotId.weigh) [job1] yard).weighTimer = { phase := Phase.window, subject := some subVoid, count := some 50 } ∧
     State.findRecord subVoid.ticket (voidWindow (voidRec SlotId.weigh) [job1] yard) = some (voidRec SlotId.weigh) ∧
     (voidWindow (voidRec SlotId.weigh) [job1] yard).notices.queue.length < 16) ∧
    ((¬((voidWindow (voidRec SlotId.weigh) [job1] yard).settings.receiptRequired = true ∧ 8 ≤ (voidWindow (voidRec SlotId.weigh) [job1] yard).printer.jobs.length)) ∧
     State.closedEntry subVoid.ticket (voidWindow (voidRec SlotId.weigh) [job1] yard) = none) ∧
    ((voidWindow (voidRec SlotId.weigh) eightJobs noReceipts).powered = true ∧
     (voidWindow (voidRec SlotId.weigh) eightJobs noReceipts).weigh = some voidOp ∧
     (voidWindow (voidRec SlotId.weigh) eightJobs noReceipts).weighTimer = { phase := Phase.window, subject := some subVoid, count := some 50 } ∧
     State.findRecord subVoid.ticket (voidWindow (voidRec SlotId.weigh) eightJobs noReceipts) = some (voidRec SlotId.weigh) ∧
     (voidWindow (voidRec SlotId.weigh) eightJobs noReceipts).notices.queue.length < 16) ∧
    ((¬((voidWindow (voidRec SlotId.weigh) eightJobs noReceipts).settings.receiptRequired = true ∧ 8 ≤ (voidWindow (voidRec SlotId.weigh) eightJobs noReceipts).printer.jobs.length)) ∧
     State.closedEntry subVoid.ticket (voidWindow (voidRec SlotId.weigh) eightJobs noReceipts) = none) := by
  decide +kernel

theorem test_premises_OwnFramesOnTheWire_1 :
    ((queued [askItem] yard).powered = true ∧ (queued [askItem] yard).link.state = LinkState.up ∧
     (queued [askItem] yard).link.wire = none ∧ (queued [askItem] yard).link.queue = [] ++ [askItem] ∧
     askItem.frames.head? = some ask1 ∧
     (∀ (x : QueueItem), x ∈ (queued [askItem] yard).link.queue → x.burst = none ∨ x.started = false ∧ x.onWire = false)) ∧
    ((queued [askItem] (linked LinkState.alone yard)).powered = true ∧
     (queued [askItem] (linked LinkState.alone yard)).link.state = LinkState.alone ∧
     (queued [askItem] (linked LinkState.alone yard)).link.wire = none ∧
     (queued [askItem] (linked LinkState.alone yard)).link.queue = [] ++ [askItem] ∧
     (∀ (x : QueueItem), x ∈ (queued [askItem] (linked LinkState.alone yard)).link.queue → x.burst = none ∨ x.started = false ∧ x.onWire = false)) ∧
    ((queued [askItem, startedBurst, releaseItem] yard2).powered = true ∧
     (queued [askItem, startedBurst, releaseItem] yard2).link.state = LinkState.up ∧
     (queued [askItem, startedBurst, releaseItem] yard2).link.wire = none ∧
     (queued [askItem, startedBurst, releaseItem] yard2).link.queue = [askItem] ++ [startedBurst, releaseItem] ∧
     startedBurst.frames.head? = some headFrame ∧
     (startedBurst.burst.isSome = true ∧ (startedBurst.started = true ∨ startedBurst.onWire = true) ∧ ∀ (x : QueueItem), x ∈ [askItem] → x.burst = none ∨ x.started = false ∧ x.onWire = false)) := by
  decide +kernel

theorem test_premises_OwnFramesOnTheWire_2 :
    ((wired (asked false 1 none) ask1 yard).powered = true ∧
     (wired (asked false 1 none) ask1 yard).link.state = LinkState.up ∧
     (wired (asked false 1 none) ask1 yard).link.wire = some (wireOf ask1) ∧ (wireOf ask1).probe = false ∧
     (wired (asked false 1 none) ask1 yard).link.queue = [] ++ [asked true 1 none] ∧
     (∀ (x : QueueItem), x ∈ [] → x.onWire = false) ∧ (asked true 1 none).onWire = true) ∧
    (asked true 1 none).timedOut = false ∧
    true = true ∧
    ((asked true 1 none).frames = [ask1] ∧ (asked true 1 none).slot = none ∧ (asked true 1 none).burst = none ∧
     ask1.kind ≠ FrameKind.announce) ∧
    (asked true 1 none).attempts < 2 ∧
    ((wired (asked false 1 none) ask1 (linked LinkState.alone yard)).powered = true ∧
     (wired (asked false 1 none) ask1 (linked LinkState.alone yard)).link.state = LinkState.alone ∧
     (wired (asked false 1 none) ask1 (linked LinkState.alone yard)).link.wire = some (wireOf ask1) ∧
     (wired (asked false 1 none) ask1 (linked LinkState.alone yard)).link.queue = [] ++ [asked true 1 none]) := by
  decide +kernel

theorem test_premises_OwnFramesOnTheWire_3 :
    ((wired (overdue askItem) ask1 yard).powered = true ∧
     (wired (overdue askItem) ask1 yard).link.state = LinkState.up ∧
     (wired (overdue askItem) ask1 yard).link.wire = some (wireOf ask1) ∧
     (wired (overdue askItem) ask1 yard).link.queue = [] ++ [overdue askItem] ∧ (overdue askItem).onWire = true) ∧
    ((overdue askItem).timedOut = true ∧ (wired (overdue askItem) ask1 yard).link.undelivered < 2 ∧
     (overdue askItem).slot = none ∧ (overdue askItem).burst = none) ∧
    ((wired (overdue askItem) ask1 (linked LinkState.alone yard)).powered = true ∧
     (wired (overdue askItem) ask1 (linked LinkState.alone yard)).link.state = LinkState.alone ∧
     (wired (overdue askItem) ask1 (linked LinkState.alone yard)).link.wire = some (wireOf ask1) ∧
     (wired (overdue askItem) ask1 (linked LinkState.alone yard)).link.queue = [] ++ [overdue askItem]) ∧
    ((wired announceItem (Frame.announce announceBoth) yard).powered = true ∧
     (wired announceItem (Frame.announce announceBoth) yard).link.state = LinkState.up ∧
     (wired announceItem (Frame.announce announceBoth) yard).link.wire = some (wireOf (Frame.announce announceBoth)) ∧
     (wireOf (Frame.announce announceBoth)).probe = false ∧
     (wired announceItem (Frame.announce announceBoth) yard).link.queue = [] ++ [announceOnWire] ∧
     announceOnWire.onWire = true) ∧
    (announceOnWire.frames = [Frame.announce announceBoth] ∧ announceOnWire.slot = none ∧ announceOnWire.burst = none) := by
  decide +kernel

theorem test_premises_OwnFramesOnTheWire_4 :
    ((wired claimItem1 claim1 claimingState).powered = true ∧
     (wired claimItem1 claim1 claimingState).link.state = LinkState.up ∧
     (wired claimItem1 claim1 claimingState).link.wire = some (wireOf claim1) ∧ (wireOf claim1).probe = false ∧
     (wired claimItem1 claim1 claimingState).link.queue = [] ++ [claimOnWire] ∧ claimOnWire.onWire = true) ∧
    (claimOnWire.frames = [claim1] ∧ claimOnWire.slot = some SlotId.weigh) ∧
    ((wired payItem (Frame.claim t21 Purpose.pay 1) claimingPay).powered = true ∧
     (wired payItem (Frame.claim t21 Purpose.pay 1) claimingPay).link.state = LinkState.up ∧
     (wired payItem (Frame.claim t21 Purpose.pay 1) claimingPay).link.wire = some (wireOf (Frame.claim t21 Purpose.pay 1)) ∧
     (wireOf (Frame.claim t21 Purpose.pay 1)).probe = false ∧
     (wired payItem (Frame.claim t21 Purpose.pay 1) claimingPay).link.queue = [] ++ [payOnWire] ∧
     payOnWire.onWire = true) ∧
    (payOnWire.frames = [Frame.claim t21 Purpose.pay 1] ∧ payOnWire.slot = some SlotId.pay) ∧
    ((wired headOnWire headFrame yard2).powered = true ∧
     (wired headOnWire headFrame yard2).link.state = LinkState.up ∧
     (wired headOnWire headFrame yard2).link.wire = some (wireOf headFrame) ∧ (wireOf headFrame).probe = false ∧
     (wired headOnWire headFrame yard2).link.queue = [] ++ [headOnWire] ∧ headOnWire.onWire = true) := by
  decide +kernel

theorem test_premises_OwnFramesOnTheWire_5 :
    headOnWire.frames = [headFrame, lineFrame, noteFrame] ∧
    ((wired lastOfBurst noteFrame (holding pendingRec reg1 yard)).powered = true ∧
     (wired lastOfBurst noteFrame (holding pendingRec reg1 yard)).link.state = LinkState.up ∧
     (wired lastOfBurst noteFrame (holding pendingRec reg1 yard)).link.wire = some (wireOf noteFrame) ∧
     (wireOf noteFrame).probe = false ∧
     (wired lastOfBurst noteFrame (holding pendingRec reg1 yard)).link.queue = [] ++ [noteOnWire] ∧
     noteOnWire.onWire = true) ∧
    (noteOnWire.frames = [noteFrame] ∧ noteOnWire.slot = none ∧ noteOnWire.burst = some t21) ∧
    ((wired (lastTry askItem) ask1 yard).powered = true ∧
     (wired (lastTry askItem) ask1 yard).link.state = LinkState.up ∧
     (wired (lastTry askItem) ask1 yard).link.wire = some (wireOf ask1) ∧
     (wired (lastTry askItem) ask1 yard).link.queue = [] ++ [lastTry askItem] ∧ (lastTry askItem).onWire = true) ∧
    ((lastTry askItem).attempts = 2 ∧ (wired (lastTry askItem) ask1 yard).link.undelivered < 2 ∧
     (lastTry askItem).slot = none ∧ (lastTry askItem).burst = none) := by
  decide +kernel

theorem test_premises_OwnFramesOnTheWire_6 :
    ((wired (lastTry lastOfBurst) noteFrame yard2).powered = true ∧
     (wired (lastTry lastOfBurst) noteFrame yard2).link.state = LinkState.up ∧
     (wired (lastTry lastOfBurst) noteFrame yard2).link.wire = some (wireOf noteFrame) ∧
     (wired (lastTry lastOfBurst) noteFrame yard2).link.queue = [] ++ [lastTry lastOfBurst] ∧
     (lastTry lastOfBurst).onWire = true) ∧
    ((lastTry lastOfBurst).attempts = 2 ∧ (wired (lastTry lastOfBurst) noteFrame yard2).link.undelivered < 2 ∧
     (lastTry lastOfBurst).slot = none ∧ (lastTry lastOfBurst).burst = some t21) ∧
    ((wired (lastTry claimItem1) claim1 claimingState).powered = true ∧
     (wired (lastTry claimItem1) claim1 claimingState).link.state = LinkState.up ∧
     (wired (lastTry claimItem1) claim1 claimingState).link.wire = some (wireOf claim1) ∧
     (wired (lastTry claimItem1) claim1 claimingState).link.queue = [] ++ [lastTry claimItem1] ∧
     (lastTry claimItem1).onWire = true) ∧
    ((lastTry claimItem1).attempts = 2 ∧ (wired (lastTry claimItem1) claim1 claimingState).link.undelivered < 2 ∧
     (lastTry claimItem1).slot = some SlotId.weigh ∧
     (wired (lastTry claimItem1) claim1 claimingState).weigh = some (claimOp false) ∧
     (claimOp false).target = some claimRec.number ∧
     State.findRecord claimRec.number (wired (lastTry claimItem1) claim1 claimingState) = some claimRec ∧
     claimRec.custody = Custody.claiming SlotId.weigh Purpose.weigh ∧
     (wired (lastTry claimItem1) claim1 claimingState).notices.queue.length < 16) := by
  decide +kernel

theorem test_premises_OwnFramesOnTheWire_7 :
    ((wired (lastTry payItem) (Frame.claim t21 Purpose.pay 1) claimingPay).powered = true ∧
     (wired (lastTry payItem) (Frame.claim t21 Purpose.pay 1) claimingPay).link.state = LinkState.up ∧
     (wired (lastTry payItem) (Frame.claim t21 Purpose.pay 1) claimingPay).link.wire = some (wireOf (Frame.claim t21 Purpose.pay 1)) ∧
     (wired (lastTry payItem) (Frame.claim t21 Purpose.pay 1) claimingPay).link.queue = [] ++ [lastTry payItem] ∧
     (lastTry payItem).onWire = true) ∧
    ((lastTry payItem).attempts = 2 ∧
     (wired (lastTry payItem) (Frame.claim t21 Purpose.pay 1) claimingPay).link.undelivered < 2 ∧
     (lastTry payItem).slot = some SlotId.pay ∧
     (wired (lastTry payItem) (Frame.claim t21 Purpose.pay 1) claimingPay).payOp = some payingWait ∧
     payingWait.target = claimPay.number ∧
     State.findRecord claimPay.number (wired (lastTry payItem) (Frame.claim t21 Purpose.pay 1) claimingPay) = some claimPay ∧
     claimPay.custody = Custody.claiming SlotId.pay Purpose.pay ∧
     (wired (lastTry payItem) (Frame.claim t21 Purpose.pay 1) claimingPay).notices.queue.length < 16) ∧
    ((queued [askItem, asked false 0 (some 5)] yard).powered = true ∧
     (queued [askItem, asked false 0 (some 5)] yard).link.state = LinkState.up ∧
     (queued [askItem, asked false 0 (some 5)] yard).link.queue[1]? = some (asked false 0 (some 5)) ∧
     (asked false 0 (some 5)).timeout = some 5) ∧
    ((asked false 0 (some 5)).onWire = false ∧ (queued [askItem, asked false 0 (some 5)] yard).link.undelivered < 2 ∧
     (asked false 0 (some 5)).slot = none ∧ (asked false 0 (some 5)).burst = none) := by
  decide +kernel

theorem test_premises_OwnFramesOnTheWire_8 :
    ((queued [burstDue] yard2).powered = true ∧ (queued [burstDue] yard2).link.state = LinkState.up ∧
     (queued [burstDue] yard2).link.queue[0]? = some burstDue ∧ burstDue.timeout = some 5) ∧
    (burstDue.onWire = false ∧ (queued [burstDue] yard2).link.undelivered < 2 ∧ burstDue.slot = none ∧
     burstDue.burst = some t21) ∧
    ((wired (asked false 0 (some 5)) ask1 yard).powered = true ∧
     (wired (asked false 0 (some 5)) ask1 yard).link.state = LinkState.up ∧
     (wired (asked false 0 (some 5)) ask1 yard).link.queue[0]? = some (asked true 0 (some 5)) ∧
     (asked true 0 (some 5)).timeout = some 5) ∧
    (asked true 0 (some 5)).onWire = true ∧
    (claimingState.powered = true ∧ claimingState.link.state = LinkState.up ∧
     claimingState.link.queue[0]? = some claimItem1 ∧ claimItem1.timeout = some 100) := by
  decide +kernel

theorem test_premises_OwnFramesOnTheWire_9 :
    (claimItem1.onWire = false ∧ claimingState.link.undelivered < 2 ∧ claimItem1.slot = some SlotId.weigh ∧
     claimingState.weigh = some (claimOp false) ∧ State.findRecord claimRec.number claimingState = some claimRec ∧
     claimingState.notices.queue.length < 16) ∧
    ((linked LinkState.alone (as 1 claimingState)).powered = true ∧
     (linked LinkState.alone (as 1 claimingState)).link.state = LinkState.alone ∧
     (linked LinkState.alone (as 1 claimingState)).link.queue[0]? = some claimItem1) ∧
    ((linked LinkState.alone (as 1 claimingState)).weigh = some (claimOp false) ∧
     State.findRecord claimRec.number (linked LinkState.alone (as 1 claimingState)) = some claimRec ∧
     (linked LinkState.alone (as 1 claimingState)).notices.queue.length < 16) ∧
    (claimingPay.powered = true ∧ claimingPay.link.state = LinkState.up ∧ claimingPay.link.queue[0]? = some payItem ∧
     payItem.timeout = some 100) ∧
    (payItem.onWire = false ∧ claimingPay.link.undelivered < 2 ∧ payItem.slot = some SlotId.pay ∧
     claimingPay.payOp = some payingWait ∧ State.findRecord claimPay.number claimingPay = some claimPay ∧
     claimingPay.notices.queue.length < 16) := by
  decide +kernel

theorem test_premises_OwnFramesOnTheWire_10 :
    ((dropping [releaseItem, unsentBurst, claimItem1, payItem] claimingBoth).powered = true ∧
     (dropping [releaseItem, unsentBurst, claimItem1, payItem] claimingBoth).link.state = LinkState.up ∧
     (dropping [releaseItem, unsentBurst, claimItem1, payItem] claimingBoth).link.wire = some (wireOf ask1) ∧
     (dropping [releaseItem, unsentBurst, claimItem1, payItem] claimingBoth).link.queue = [] ++ [asked true 2 none, releaseItem, unsentBurst, claimItem1, payItem] ∧
     (asked true 2 none).onWire = true) ∧
    ((asked true 2 none).attempts = 2 ∧
     (dropping [releaseItem, unsentBurst, claimItem1, payItem] claimingBoth).link.undelivered = 2) ∧
    (State.latched Flag.linkDown (dropping [releaseItem, unsentBurst, claimItem1, payItem] claimingBoth) = false ∧
     (asked true 2 none).slot = none ∧
     (dropping [releaseItem, unsentBurst, claimItem1, payItem] claimingBoth).notices.queue.length < 16) ∧
    ((unsentBurst ∈ [] ++ [releaseItem, unsentBurst, claimItem1, payItem] ∧ heldKind unsentBurst = false) ∧
     unsentBurst.slot = none ∧ unsentBurst.burst = some t21) ∧
    ((payItem ∈ [] ++ [releaseItem, unsentBurst, claimItem1, payItem] ∧ heldKind payItem = false) ∧
     (dropping [releaseItem, unsentBurst, claimItem1, payItem] claimingBoth).payOp = some payingWait ∧
     (dropping [releaseItem, unsentBurst, claimItem1, payItem] claimingBoth).notices.queue.length < 13) ∧
    ((claimItem1 ∈ [] ++ [releaseItem, unsentBurst, claimItem1, payItem] ∧ heldKind claimItem1 = false) ∧
     (dropping [releaseItem, unsentBurst, claimItem1, payItem] claimingBoth).weigh = some (claimOp false) ∧
     (claimOp false).target = some t21) := by
  decide +kernel

theorem test_premises_OwnFramesOnTheWire_11 :
    ((dropping [unsentBurst] yard2).powered = true ∧ (dropping [unsentBurst] yard2).link.state = LinkState.up ∧
     (dropping [unsentBurst] yard2).link.wire = some (wireOf ask1) ∧
     (dropping [unsentBurst] yard2).link.queue = [] ++ [asked true 2 none, unsentBurst]) ∧
    (dropping [unsentBurst] yard2).link.undelivered = 2 ∧
    (unsentBurst ∈ [] ++ [unsentBurst] ∧ heldKind unsentBurst = false) ∧
    ((undelivered2 (wired (lastTry claimItem1) claim1 claimingState)).powered = true ∧
     (undelivered2 (wired (lastTry claimItem1) claim1 claimingState)).link.state = LinkState.up ∧
     (undelivered2 (wired (lastTry claimItem1) claim1 claimingState)).link.wire = some (wireOf claim1) ∧
     (undelivered2 (wired (lastTry claimItem1) claim1 claimingState)).link.queue = [] ++ [lastTry claimItem1]) ∧
    (undelivered2 (wired (lastTry claimItem1) claim1 claimingState)).link.undelivered = 2 ∧
    (State.latched Flag.linkDown (undelivered2 (wired (lastTry claimItem1) claim1 claimingState)) = false ∧
     State.slotTicket SlotId.weigh (undelivered2 (wired (lastTry claimItem1) claim1 claimingState)) = some t21 ∧
     (undelivered2 (wired (lastTry claimItem1) claim1 claimingState)).notices.queue.length < 15) ∧
    (lastTry claimItem1 = lastTry claimItem1 ∧
     (undelivered2 (wired (lastTry claimItem1) claim1 claimingState)).weigh = some (claimOp false) ∧
     (undelivered2 (wired (lastTry claimItem1) claim1 claimingState)).notices.queue.length < 13) ∧
    ((undelivered2 (wired (overdue payItem) (Frame.claim t21 Purpose.pay 1) claimingPay)).powered = true ∧
     (undelivered2 (wired (overdue payItem) (Frame.claim t21 Purpose.pay 1) claimingPay)).link.state = LinkState.up ∧
     (undelivered2 (wired (overdue payItem) (Frame.claim t21 Purpose.pay 1) claimingPay)).link.wire = some (wireOf (Frame.claim t21 Purpose.pay 1)) ∧
     (undelivered2 (wired (overdue payItem) (Frame.claim t21 Purpose.pay 1) claimingPay)).link.queue = [] ++ [overdue payItem] ∧
     (overdue payItem).onWire = true) := by
  decide +kernel

theorem test_premises_OwnFramesOnTheWire_12 :
    ((overdue payItem).timedOut = true ∧
     (undelivered2 (wired (overdue payItem) (Frame.claim t21 Purpose.pay 1) claimingPay)).link.undelivered = 2) ∧
    (State.latched Flag.linkDown (undelivered2 (wired (overdue payItem) (Frame.claim t21 Purpose.pay 1) claimingPay)) = false ∧
     (overdue payItem).slot = some SlotId.pay ∧
     State.slotTicket SlotId.pay (undelivered2 (wired (overdue payItem) (Frame.claim t21 Purpose.pay 1) claimingPay)) = some t21 ∧
     (undelivered2 (wired (overdue payItem) (Frame.claim t21 Purpose.pay 1) claimingPay)).notices.queue.length < 15) ∧
    (overdue payItem = overdue payItem ∧
     (undelivered2 (wired (overdue payItem) (Frame.claim t21 Purpose.pay 1) claimingPay)).payOp = some payingWait ∧
     (undelivered2 (wired (overdue payItem) (Frame.claim t21 Purpose.pay 1) claimingPay)).notices.queue.length < 13) ∧
    ((undelivered2 (wired (overdue lastOfBurst) noteFrame yard2)).powered = true ∧
     (undelivered2 (wired (overdue lastOfBurst) noteFrame yard2)).link.state = LinkState.up ∧
     (undelivered2 (wired (overdue lastOfBurst) noteFrame yard2)).link.wire = some (wireOf noteFrame) ∧
     (undelivered2 (wired (overdue lastOfBurst) noteFrame yard2)).link.queue = [] ++ [overdue lastOfBurst] ∧
     (overdue lastOfBurst).onWire = true) ∧
    ((overdue lastOfBurst).timedOut = true ∧
     (undelivered2 (wired (overdue lastOfBurst) noteFrame yard2)).link.undelivered = 2) ∧
    (State.latched Flag.linkDown (undelivered2 (wired (overdue lastOfBurst) noteFrame yard2)) = false ∧
     (overdue lastOfBurst).slot = none ∧
     (undelivered2 (wired (overdue lastOfBurst) noteFrame yard2)).notices.queue.length < 16) ∧
    (overdue lastOfBurst = overdue lastOfBurst ∧ (overdue lastOfBurst).burst = some t21) := by
  decide +kernel

theorem test_premises_OwnFramesOnTheWire_13 :
    ((undelivered2 claimingState).powered = true ∧ (undelivered2 claimingState).link.state = LinkState.up ∧
     (undelivered2 claimingState).link.queue[0]? = some claimItem1) ∧
    (undelivered2 claimingState).link.undelivered = 2 ∧
    (State.latched Flag.linkDown (undelivered2 claimingState) = false ∧
     State.slotTicket SlotId.weigh (undelivered2 claimingState) = some t21 ∧
     (undelivered2 claimingState).notices.queue.length < 15) ∧
    (claimItem1 = claimItem1 ∧ (undelivered2 claimingState).weigh = some (claimOp false) ∧
     (undelivered2 claimingState).notices.queue.length < 13) ∧
    ((undelivered2 (queued [releaseItem, burstDue] yard2)).powered = true ∧
     (undelivered2 (queued [releaseItem, burstDue] yard2)).link.state = LinkState.up ∧
     (undelivered2 (queued [releaseItem, burstDue] yard2)).link.queue[1]? = some burstDue) ∧
    (undelivered2 (queued [releaseItem, burstDue] yard2)).link.undelivered = 2 ∧
    (State.latched Flag.linkDown (undelivered2 (queued [releaseItem, burstDue] yard2)) = false ∧
     (undelivered2 (queued [releaseItem, burstDue] yard2)).notices.queue.length < 16) ∧
    burstDue = burstDue := by
  decide +kernel

theorem test_premises_IdConflictAndDamagedFrames :
    (wired claimItem1 claim1 claimingState).powered = true ∧
    (wired claimItem1 claim1 claimingState).link.wire ≠ none ∧
    (claim1.inRange = true ∧ 1 ≤ (wired claimItem1 claim1 claimingState).myId ∧
     (wired claimItem1 claim1 claimingState).myId ≤ 15) ∧
    (joining yard2).powered = true ∧
    ((Frame.announce announceBoth).inRange = true ∧ 1 ≤ (joining yard2).myId ∧ (joining yard2).myId ≤ 15) ∧
    (queued [releaseItem, unsentBurst] yard2).powered = true ∧
    ((Frame.line t5Last (nline 8)).inRange = true ∧ 1 ≤ (queued [releaseItem, unsentBurst] yard2).myId ∧
     (queued [releaseItem, unsentBurst] yard2).myId ≤ 15) ∧
    (yard.powered = true ∧ yard.link.wire = none) ∧
    (State.reads 5 yard ∧ State.contextOf 5 yard = none) ∧
    yard.link.state = LinkState.up := by
  decide +kernel

theorem test_premises_ClaimReceived_1 :
    (State.reads 5 yard1 ∧ State.contextOf 5 yard1 = none ∧ 1 ≤ t21.home ∧ t21.home ≤ 15 ∧ 1 ≤ t21.serial ∧
     t21.serial ≤ 65535 ∧ State.isClosed t21 yard1 = false ∧ State.findRecord t21 yard1 = some rec1 ∧
     rec1.custody = Custody.free ∧ rec1.step = 0) ∧
    (State.reads 5 (taken 5) ∧ State.contextOf 5 (taken 5) = none ∧ State.isClosed t21 (taken 5) = false ∧
     State.findRecord t21 (taken 5) = some (takenRec 5) ∧ (takenRec 5).taker = some 5 ∧ (takenRec 5).step = 0) ∧
    (rec1.step < 8 ∧ rec1.stale = false ∧ yard1.payOp = none ∧ yard1.occupied < 24) := by
  decide +kernel

theorem test_premises_ClaimReceived_2 :
    (State.reads 5 (holding staleFree reg1 yard) ∧ State.contextOf 5 (holding staleFree reg1 yard) = none ∧
     State.isClosed t21 (holding staleFree reg1 yard) = false ∧
     State.findRecord t21 (holding staleFree reg1 yard) = some staleFree ∧ staleFree.custody = Custody.free ∧
     staleFree.step < 8 ∧ staleFree.stale = true) ∧
    (State.reads 5 yard2reg ∧ State.contextOf 5 yard2reg = none ∧ State.isClosed t21 yard2reg = false ∧
     State.findRecord t21 yard2reg = some rec2 ∧ rec2.custody = Custody.free ∧ 0 < rec2.step ∧ yard2reg.occupied < 24) ∧
    (State.reads 5 (taken 15) ∧ State.contextOf 5 (taken 15) = none ∧ State.isClosed t21 (taken 15) = false ∧
     State.findRecord t21 (taken 15) = some (takenRec 15) ∧ 0 ≤ (takenRec 15).step ∧ (takenRec 15).taker = some 15 ∧
     (taken 15).occupied < 24) := by
  decide +kernel

theorem test_premises_ClaimReceived_3 :
    (State.reads 5 stepHeld ∧ State.contextOf 5 stepHeld = none ∧ State.isClosed t21 stepHeld = false ∧
     State.findRecord t21 stepHeld = some heldRec ∧ 0 ≤ heldRec.step ∧
     heldRec.custody = Custody.held SlotId.weigh Purpose.weigh ∧ stepHeld.occupied < 24) ∧
    (State.reads 5 windowWeigh ∧ State.contextOf 5 windowWeigh = none ∧ State.isClosed t21 windowWeigh = false ∧
     State.findRecord t21 windowWeigh = some claimRec ∧ 0 ≤ claimRec.step ∧
     claimRec.custody = Custody.claiming SlotId.weigh Purpose.weigh ∧
     (State.claimTimer SlotId.weigh windowWeigh).phase ≠ Phase.queued ∧ windowWeigh.occupied < 24) := by
  decide +kernel

theorem test_premises_ClaimReceived_4 :
    (State.reads 5 claimingPay ∧ State.contextOf 5 claimingPay = none ∧ State.isClosed t21 claimingPay = false ∧
     State.findRecord t21 claimingPay = some claimPay ∧ 0 ≤ claimPay.step ∧
     claimPay.custody = Custody.claiming SlotId.pay Purpose.pay ∧
     (State.claimTimer SlotId.pay claimingPay).phase = Phase.queued ∧ 0 < claimPay.step ∧ claimingPay.occupied < 24) ∧
    (State.reads 5 (closedAt t15Last yard) ∧ State.contextOf 5 (closedAt t15Last yard) = none ∧ 1 ≤ t15Last.home ∧
     t15Last.home ≤ 15 ∧ 1 ≤ t15Last.serial ∧ t15Last.serial ≤ 65535 ∧
     State.isClosed t15Last (closedAt t15Last yard) = true ∧ State.findRecord t15Last (closedAt t15Last yard) = none ∧
     State.regEntry t15Last (closedAt t15Last yard) = none ∧ (closedAt t15Last yard).occupied < 24) := by
  decide +kernel

theorem test_premises_ClaimReceived_5 :
    (State.reads 5 yard ∧ State.contextOf 5 yard = none ∧ State.isClosed t15Last yard = false ∧
     State.findRecord t15Last yard = none ∧ State.regEntry t15Last yard = none) ∧
    (State.reads 5 paidYard ∧ State.contextOf 5 paidYard = none ∧ State.findRecord t21 paidYard = none ∧
     State.regEntry t21 paidYard = some paidEntry) ∧
    (paidEntry.life = RegLife.paid ∧ paidYard.occupied < 24) ∧
    (State.reads 5 aheadYard ∧ State.contextOf 5 aheadYard = none ∧ State.findRecord t21 aheadYard = none ∧
     State.regEntry t21 aheadYard = some aheadEntry) ∧
    (State.isClosed t21 aheadYard = false ∧ aheadEntry.holder = 5 ∧ 7 < aheadEntry.step ∧ aheadYard.occupied < 24) ∧
    aheadEntry.step ≤ 8 := by
  decide +kernel

theorem test_premises_ClaimReceived_6 :
    (State.reads 5 entryOnly ∧ State.contextOf 5 entryOnly = none ∧ State.findRecord t21 entryOnly = none ∧
     State.regEntry t21 entryOnly = some reg1) ∧
    (State.isClosed t21 entryOnly = false ∧ reg1.holder = 0 ∧ reg1.step ≤ 0) ∧
    (State.reads 5 (entryHeldBy 2) ∧ State.contextOf 5 (entryHeldBy 2) = none ∧
     State.findRecord t21 (entryHeldBy 2) = none ∧ State.regEntry t21 (entryHeldBy 2) = some (entryOf 2)) ∧
    (State.isClosed t21 (entryHeldBy 2) = false ∧ (entryOf 2).holder ≠ 0 ∧ (entryOf 2).holder ≠ 5 ∧
     (entryHeldBy 2).occupied < 24) ∧
    (State.reads 5 claimingState ∧ State.contextOf 5 claimingState = none ∧ State.isClosed t21 claimingState = false ∧
     State.findRecord t21 claimingState = some claimRec ∧ claimRec.step = 0 ∧ claimingState.notices.queue.length < 16) := by
  decide +kernel

theorem test_premises_ClaimReceived_7 :
    (claimingState.weighTimer.phase = Phase.queued ∧ claimingState.weigh = some (claimOp false) ∧
     (claimOp false).target = some t21) ∧
    (State.reads 5 leavingState ∧ State.contextOf 5 leavingState = none ∧ State.isClosed t21 leavingState = false ∧
     State.findRecord t21 leavingState = some leavingRec ∧ leavingRec.step = 0 ∧
     leavingState.notices.queue.length < 16) ∧
    (leavingRec.custody = Custody.claiming SlotId.weigh Purpose.weigh ∧ leavingState.weighTimer.phase = Phase.queued ∧
     leavingState.weigh = some (claimOp false)) ∧
    (claimPay.step = 1 ∧ claimingPay.notices.queue.length < 16) ∧
    (claimingPay.payTimer.phase = Phase.queued ∧ claimingPay.payOp = some payingWait ∧ payingWait.target = t21) ∧
    (State.hears 5 (linked LinkState.down yard1) ∧ State.contextOf 5 (linked LinkState.down yard1) = none ∧
     (∀ (q : PayOp), q ∈ (linked LinkState.down yard1).payOp → q.target = t21 → q.offer = none) ∧
     (linked LinkState.down yard1).link.state = LinkState.down ∧
     State.findRecord t21 (linked LinkState.down yard1) = some rec1) := by
  decide +kernel

theorem test_premises_ClaimReceived_8 :
    (State.isClosed t21 (linked LinkState.down yard1) = false ∧ rec1.step ≤ 0 ∧
     (¬(fun (r : Record) => r.step < 0 ∧ r.stale = false) rec1)) ∧
    (rec1.step ≤ 8 ∧ ((fun (r : Record) => r.step < 8 ∧ r.stale = false) rec1)) ∧
    (State.hears 5 (linked LinkState.down (taken 5)) ∧ State.contextOf 5 (linked LinkState.down (taken 5)) = none ∧
     (∀ (q : PayOp), q ∈ (linked LinkState.down (taken 5)).payOp → q.target = t21 → q.offer = none) ∧
     (linked LinkState.down (taken 5)).link.state = LinkState.down ∧
     State.findRecord t21 (linked LinkState.down (taken 5)) = some (takenRec 5)) ∧
    (State.isClosed t21 (linked LinkState.down (taken 5)) = false ∧ (takenRec 5).step ≤ 8 ∧
     ((fun (r : Record) => r.step < 8 ∧ r.stale = false) (takenRec 5))) ∧
    (State.hears 5 (linked LinkState.down (holding staleFree reg1 yard)) ∧
     State.contextOf 5 (linked LinkState.down (holding staleFree reg1 yard)) = none ∧
     (∀ (q : PayOp), q ∈ (linked LinkState.down (holding staleFree reg1 yard)).payOp → q.target = t21 → q.offer = none) ∧
     (linked LinkState.down (holding staleFree reg1 yard)).link.state = LinkState.down ∧
     State.findRecord t21 (linked LinkState.down (holding staleFree reg1 yard)) = some staleFree) ∧
    (State.isClosed t21 (linked LinkState.down (holding staleFree reg1 yard)) = false ∧ staleFree.step ≤ 8 ∧
     (¬(fun (r : Record) => r.step < 8 ∧ r.stale = false) staleFree)) := by
  decide +kernel

theorem test_premises_ClaimReceived_9 :
    (State.hears 5 (linked LinkState.down yard2reg) ∧ State.contextOf 5 (linked LinkState.down yard2reg) = none ∧
     (∀ (q : PayOp), q ∈ (linked LinkState.down yard2reg).payOp → q.target = t21 → q.offer = none) ∧
     (linked LinkState.down yard2reg).link.state = LinkState.down ∧
     State.findRecord t21 (linked LinkState.down yard2reg) = some rec2) ∧
    (State.isClosed t21 (linked LinkState.down yard2reg) = false ∧
     (¬(fun (r : Record) => r.step < 0 ∧ r.stale = false) rec2)) ∧
    (State.hears 5 (linked LinkState.down (closedAt t21 yard1)) ∧
     State.contextOf 5 (linked LinkState.down (closedAt t21 yard1)) = none ∧
     (∀ (q : PayOp), q ∈ (linked LinkState.down (closedAt t21 yard1)).payOp → q.target = t21 → q.offer = none) ∧
     (linked LinkState.down (closedAt t21 yard1)).link.state = LinkState.down ∧
     State.findRecord t21 (linked LinkState.down (closedAt t21 yard1)) = some rec1) ∧
    State.isClosed t21 (linked LinkState.down (closedAt t21 yard1)) = true ∧
    (State.hears 5 (linked LinkState.down (taken 15)) ∧ State.contextOf 5 (linked LinkState.down (taken 15)) = none ∧
     (∀ (q : PayOp), q ∈ (linked LinkState.down (taken 15)).payOp → q.target = t21 → q.offer = none) ∧
     (linked LinkState.down (taken 15)).link.state = LinkState.down ∧
     State.findRecord t21 (linked LinkState.down (taken 15)) = some (takenRec 15)) ∧
    ((fun (r : Record) => r.step < 8 ∧ r.stale = false) (takenRec 15)) ∧
    (¬(fun (r : Record) => r.step < 0 ∧ r.stale = false) (takenRec 15)) := by
  decide +kernel

theorem test_premises_ClaimReceived_10 :
    (State.hears 5 (linked LinkState.down stepHeld) ∧ State.contextOf 5 (linked LinkState.down stepHeld) = none ∧
     (∀ (q : PayOp), q ∈ (linked LinkState.down stepHeld).payOp → q.target = t21 → q.offer = none) ∧
     (linked LinkState.down stepHeld).link.state = LinkState.down ∧
     State.findRecord t21 (linked LinkState.down stepHeld) = some heldRec) ∧
    ((fun (r : Record) => r.step < 8 ∧ r.stale = false) heldRec) ∧
    (¬(fun (r : Record) => r.step < 0 ∧ r.stale = false) heldRec) ∧
    (State.hears 5 (linked LinkState.down windowWeigh) ∧
     State.contextOf 5 (linked LinkState.down windowWeigh) = none ∧
     (∀ (q : PayOp), q ∈ (linked LinkState.down windowWeigh).payOp → q.target = t21 → q.offer = none) ∧
     (linked LinkState.down windowWeigh).link.state = LinkState.down ∧
     State.findRecord t21 (linked LinkState.down windowWeigh) = some claimRec) ∧
    ((State.claimTimer SlotId.weigh (linked LinkState.down windowWeigh)).phase ≠ Phase.queued ∧
     ((fun (r : Record) => r.step < 8 ∧ r.stale = false) claimRec)) ∧
    (¬(fun (r : Record) => r.step < 0 ∧ r.stale = false) claimRec) ∧
    (State.hears 5 (linked LinkState.down claimingPay) ∧
     State.contextOf 5 (linked LinkState.down claimingPay) = none ∧
     (∀ (q : PayOp), q ∈ (linked LinkState.down claimingPay).payOp → q.target = t21 → q.offer = none) ∧
     (linked LinkState.down claimingPay).link.state = LinkState.down ∧
     State.findRecord t21 (linked LinkState.down claimingPay) = some claimPay) ∧
    (¬(fun (r : Record) => r.step < 0 ∧ r.stale = false) claimPay) := by
  decide +kernel

theorem test_premises_ClaimReceived_11 :
    (State.hears 5 (linked LinkState.down yard) ∧ State.contextOf 5 (linked LinkState.down yard) = none ∧
     (∀ (q : PayOp), q ∈ (linked LinkState.down yard).payOp → q.target = t15Last → q.offer = none) ∧
     (linked LinkState.down yard).link.state = LinkState.down ∧
     State.findRecord t15Last (linked LinkState.down yard) = none) ∧
    State.regEntry t15Last (linked LinkState.down yard) = none ∧
    (State.hears 5 (linked LinkState.down (closedAt t15Last yard)) ∧
     State.contextOf 5 (linked LinkState.down (closedAt t15Last yard)) = none ∧
     (∀ (q : PayOp), q ∈ (linked LinkState.down (closedAt t15Last yard)).payOp → q.target = t15Last → q.offer = none) ∧
     (linked LinkState.down (closedAt t15Last yard)).link.state = LinkState.down ∧
     State.findRecord t15Last (linked LinkState.down (closedAt t15Last yard)) = none) ∧
    State.isClosed t15Last (linked LinkState.down (closedAt t15Last yard)) = true ∧
    (State.hears 5 (linked LinkState.down paidYard) ∧ State.contextOf 5 (linked LinkState.down paidYard) = none ∧
     (∀ (q : PayOp), q ∈ (linked LinkState.down paidYard).payOp → q.target = t21 → q.offer = none) ∧
     (linked LinkState.down paidYard).link.state = LinkState.down ∧
     State.findRecord t21 (linked LinkState.down paidYard) = none) ∧
    State.isClosed t21 (linked LinkState.down paidYard) = true := by
  decide +kernel

theorem test_premises_ClaimReceived_12 :
    (State.hears 5 (linked LinkState.down aheadYard) ∧ State.contextOf 5 (linked LinkState.down aheadYard) = none ∧
     (∀ (q : PayOp), q ∈ (linked LinkState.down aheadYard).payOp → q.target = t21 → q.offer = none) ∧
     (linked LinkState.down aheadYard).link.state = LinkState.down ∧
     State.findRecord t21 (linked LinkState.down aheadYard) = none) ∧
    (State.isClosed t21 (linked LinkState.down aheadYard) = false ∧
     State.regEntry t21 (linked LinkState.down aheadYard) = some aheadEntry) ∧
    (State.hears 5 (linked LinkState.down entryOnly) ∧ State.contextOf 5 (linked LinkState.down entryOnly) = none ∧
     (∀ (q : PayOp), q ∈ (linked LinkState.down entryOnly).payOp → q.target = t21 → q.offer = none) ∧
     (linked LinkState.down entryOnly).link.state = LinkState.down ∧
     State.findRecord t21 (linked LinkState.down entryOnly) = none) ∧
    (State.isClosed t21 (linked LinkState.down entryOnly) = false ∧
     State.regEntry t21 (linked LinkState.down entryOnly) = some reg1) ∧
    (State.hears 5 (linked LinkState.down (entryHeldBy 2)) ∧
     State.contextOf 5 (linked LinkState.down (entryHeldBy 2)) = none ∧
     (∀ (q : PayOp), q ∈ (linked LinkState.down (entryHeldBy 2)).payOp → q.target = t21 → q.offer = none) ∧
     (linked LinkState.down (entryHeldBy 2)).link.state = LinkState.down ∧
     State.findRecord t21 (linked LinkState.down (entryHeldBy 2)) = none) ∧
    (State.isClosed t21 (linked LinkState.down (entryHeldBy 2)) = false ∧
     State.regEntry t21 (linked LinkState.down (entryHeldBy 2)) = some (entryOf 2) ∧
     (¬((entryOf 2).holder = 0 ∨ (entryOf 2).holder = 5))) := by
  decide +kernel

theorem test_premises_ClaimReceived_13 :
    (State.hears 5 (joining entryOnly) ∧ State.contextOf 5 (joining entryOnly) = none ∧
     (∀ (q : PayOp), q ∈ (joining entryOnly).payOp → q.target = t21 → q.offer = none) ∧
     (joining entryOnly).link.state = LinkState.joining) ∧
    State.findRecord t21 (joining entryOnly) = none ∧
    (State.hears 5 (joining yard1) ∧ State.contextOf 5 (joining yard1) = none ∧
     (∀ (q : PayOp), q ∈ (joining yard1).payOp → q.target = t21 → q.offer = none) ∧
     (joining yard1).link.state = LinkState.joining) ∧
    State.findRecord t21 (joining yard1) = some rec1 ∧
    (State.hears 5 (joining (holding staleFree reg1 yard)) ∧
     State.contextOf 5 (joining (holding staleFree reg1 yard)) = none ∧
     (∀ (q : PayOp), q ∈ (joining (holding staleFree reg1 yard)).payOp → q.target = t21 → q.offer = none) ∧
     (joining (holding staleFree reg1 yard)).link.state = LinkState.joining) ∧
    State.findRecord t21 (joining (holding staleFree reg1 yard)) = some staleFree ∧
    (State.hears 5 (linked LinkState.silent entryOnly) ∧
     State.contextOf 5 (linked LinkState.silent entryOnly) = none ∧
     (∀ (q : PayOp), q ∈ (linked LinkState.silent entryOnly).payOp → q.target = t21 → q.offer = none) ∧
     (linked LinkState.silent entryOnly).link.state = LinkState.silent) ∧
    State.findRecord t21 (linked LinkState.silent entryOnly) = none := by
  decide +kernel

theorem test_premises_ClaimReceived_14 :
    (State.hears 5 (linked LinkState.silent yard1) ∧ State.contextOf 5 (linked LinkState.silent yard1) = none ∧
     (∀ (q : PayOp), q ∈ (linked LinkState.silent yard1).payOp → q.target = t21 → q.offer = none) ∧
     (linked LinkState.silent yard1).link.state = LinkState.silent) ∧
    State.findRecord t21 (linked LinkState.silent yard1) = some rec1 ∧
    (State.hears 5 (linked LinkState.silent (holding staleFree reg1 yard)) ∧
     State.contextOf 5 (linked LinkState.silent (holding staleFree reg1 yard)) = none ∧
     (∀ (q : PayOp), q ∈ (linked LinkState.silent (holding staleFree reg1 yard)).payOp → q.target = t21 → q.offer = none) ∧
     (linked LinkState.silent (holding staleFree reg1 yard)).link.state = LinkState.silent) ∧
    State.findRecord t21 (linked LinkState.silent (holding staleFree reg1 yard)) = some staleFree ∧
    (State.hears 5 (joining (noPlace yard1)) ∧ State.contextOf 5 (joining (noPlace yard1)) = none ∧
     (∀ (q : PayOp), q ∈ (joining (noPlace yard1)).payOp → q.target = t21 → q.offer = none) ∧
     (joining (noPlace yard1)).link.state = LinkState.joining) ∧
    (State.findRecord t21 (joining (noPlace yard1)) = some rec1 ∧ 24 ≤ (joining (noPlace yard1)).occupied) ∧
    (State.hears 5 (joining stepHeld) ∧ State.contextOf 5 (joining stepHeld) = none ∧
     (∀ (q : PayOp), q ∈ (joining stepHeld).payOp → q.target = t21 → q.offer = none) ∧
     (joining stepHeld).link.state = LinkState.joining) := by
  decide +kernel

theorem test_premises_ClaimReceived_15 :
    State.findRecord t21 (joining stepHeld) = some heldRec ∧
    ((fun (r : Record) => r.step < 1 ∧ r.stale = false) heldRec) ∧ (joining stepHeld).occupied < 24 := by
  decide +kernel

theorem test_premises_ObjectReceived_1 :
    State.reads 5 committedAt ∧ State.contextOf 5 committedAt = none ∧ 1 ≤ t21.home ∧ t21.home ≤ 15 ∧ 1 ≤ t21.serial ∧
    t21.serial ≤ 65535 ∧ 2 = committedAt.myId ∧ 5 ≠ committedAt.myId ∧
    committedAt.weighTimer.phase = Phase.committed ∧ committedAt.weighTimer.subject = some sub1 ∧ sub1.ticket = t21 ∧
    committedAt.payTimer.subject = none ∧ State.findRecord t21 committedAt = none := by
  decide +kernel

theorem test_premises_ObjectReceived_2 :
    (State.reads 5 windowWeigh ∧ State.contextOf 5 windowWeigh = none ∧ 2 = windowWeigh.myId ∧
     windowWeigh.weighTimer.subject = some sub1 ∧
     (∀ (u : Subject), u ∈ windowWeigh.payTimer.subject → u.ticket = t21 → windowWeigh.payTimer.phase = Phase.committed ∨ windowWeigh.payTimer.phase = Phase.ended) ∧
     (∀ (q : PayOp), q ∈ windowWeigh.payOp → q.target ≠ t21) ∧ windowWeigh.weigh = some (claimOp true) ∧
     (claimOp true).target = some t21 ∧ State.findRecord t21 windowWeigh = some claimRec ∧ 0 ≤ claimRec.step ∧
     windowWeigh.notices.queue.length < 16) ∧
    (windowWeigh.weighTimer.phase = Phase.window ∧ claimRec.custody = Custody.claiming SlotId.weigh sub1.purpose) ∧
    (claimRec.stale = false ∧ State.roleKeeps claimRec windowWeigh ∧ windowWeigh.occupied < 24) ∧
    (State.closedEntry t21 windowWeigh = none ∧ windowWeigh.tickets.closed.length < 32) := by
  decide +kernel

theorem test_premises_ObjectReceived_3 :
    (State.reads 5 windowPay ∧ State.contextOf 5 windowPay = none ∧ 2 = windowPay.myId ∧
     windowPay.payTimer.subject = some subPay ∧ subPay.ticket = t21 ∧
     (∀ (u : Subject), u ∈ windowPay.weighTimer.subject → u.ticket = t21 → windowPay.weighTimer.phase = Phase.committed ∨ windowPay.weighTimer.phase = Phase.ended) ∧
     windowPay.payOp = some payingWait ∧ payingWait.target = t21 ∧ State.findRecord t21 windowPay = some claimPay ∧
     1 ≤ claimPay.step ∧ windowPay.notices.queue.length < 16) ∧
    (windowPay.payTimer.phase = Phase.window ∧ claimPay.custody = Custody.claiming SlotId.pay subPay.purpose) ∧
    (claimPay.stale = false ∧ State.roleKeeps claimPay windowPay ∧ windowPay.occupied < 24) ∧
    (State.closedEntry t21 windowPay = none ∧ windowPay.tickets.closed.length < 32) := by
  decide +kernel

theorem test_premises_ObjectReceived_4 :
    (State.reads 5 stepHeld ∧ State.contextOf 5 stepHeld = none ∧ 2 = stepHeld.myId ∧
     stepHeld.weighTimer.subject = some sub1 ∧
     (∀ (u : Subject), u ∈ stepHeld.payTimer.subject → u.ticket = t21 → stepHeld.payTimer.phase = Phase.committed ∨ stepHeld.payTimer.phase = Phase.ended) ∧
     (∀ (q : PayOp), q ∈ stepHeld.payOp → q.target ≠ t21) ∧ stepHeld.weigh = some (stepping true) ∧
     (stepping true).target = some t21 ∧ State.findRecord t21 stepHeld = some heldRec ∧ 0 ≤ heldRec.step ∧
     stepHeld.notices.queue.length < 16) ∧
    (stepHeld.weighTimer.phase = Phase.granted ∧ heldRec.custody = Custody.held SlotId.weigh sub1.purpose) ∧
    (heldRec.stale = false ∧ State.roleKeeps heldRec stepHeld ∧ stepHeld.occupied < 24) ∧
    (State.closedEntry t21 stepHeld = none ∧ stepHeld.tickets.closed.length < 32) := by
  decide +kernel

theorem test_premises_ObjectReceived_5 :
    (State.reads 5 (paidBefore offering) ∧ State.contextOf 5 (paidBefore offering) = none ∧
     2 = (paidBefore offering).myId ∧ (paidBefore offering).payTimer.subject = some subPay ∧
     (∀ (u : Subject), u ∈ (paidBefore offering).weighTimer.subject → u.ticket = t21 → (paidBefore offering).weighTimer.phase = Phase.committed ∨ (paidBefore offering).weighTimer.phase = Phase.ended) ∧
     (paidBefore offering).payOp = some paying ∧ paying.target = t21 ∧
     State.findRecord t21 (paidBefore offering) = some heldPay ∧ 1 ≤ heldPay.step ∧
     (paidBefore offering).notices.queue.length < 16) ∧
    ((paidBefore offering).payTimer.phase = Phase.granted ∧ heldPay.custody = Custody.held SlotId.pay subPay.purpose) ∧
    (heldPay.stale = false ∧ State.roleKeeps heldPay (paidBefore offering) ∧ (paidBefore offering).occupied < 24) ∧
    (State.closedEntry t21 (paidBefore offering) = none ∧ (paidBefore offering).tickets.closed.length < 32) := by
  decide +kernel

theorem test_premises_ObjectReceived_6 :
    (State.reads 5 (offeringAt false) ∧ State.contextOf 5 (offeringAt false) = none ∧ 2 = (offeringAt false).myId ∧
     (offeringAt false).payTimer.subject = some subPay ∧
     (∀ (u : Subject), u ∈ (offeringAt false).weighTimer.subject → u.ticket = t21 → (offeringAt false).weighTimer.phase = Phase.committed ∨ (offeringAt false).weighTimer.phase = Phase.ended) ∧
     (offeringAt false).payOp = some payingLocal ∧ payingLocal.target = t21 ∧
     State.findRecord t21 (offeringAt false) = some peerPay ∧ 0 ≤ peerPay.step ∧
     (offeringAt false).notices.queue.length < 16) ∧
    ((offeringAt false).payTimer.phase = Phase.granted ∧ peerPay.custody = Custody.held SlotId.pay subPay.purpose) ∧
    (State.reads 5 (taken 15) ∧ State.contextOf 5 (taken 15) = none ∧ 15 ≠ (taken 15).myId ∧
     State.findRecord t21 (taken 15) = some (takenRec 15) ∧ (takenRec 15).custody = Custody.taken 15 Purpose.weigh ∧
     0 ≤ (takenRec 15).step) := by
  decide +kernel

theorem test_premises_ReleaseAndClosedReceived :
    (State.reads 5 (taken 5) ∧ State.contextOf 5 (taken 5) = none ∧ 1 ≤ t21.home ∧ t21.home ≤ 15 ∧ 1 ≤ t21.serial ∧
     t21.serial ≤ 65535 ∧ State.findRecord t21 (taken 5) = some (takenRec 5) ∧
     (takenRec 5).custody = Custody.taken 5 Purpose.weigh) ∧
    (State.reads 5 (taken 6) ∧ State.contextOf 5 (taken 6) = none ∧
     State.findRecord t21 (taken 6) = some (takenRec 6) ∧ (takenRec 6).custody = Custody.taken 6 Purpose.weigh) ∧
    (State.reads 5 yard1 ∧ State.contextOf 5 yard1 = none ∧ State.findRecord t21 yard1 = some rec1 ∧
     yard1.weighTimer.subject = none ∧ yard1.payTimer.subject = none ∧ State.closedEntry t21 yard1 = none ∧
     yard1.tickets.closed.length < 32 ∧ yard1.notices.queue.length < 16) := by
  decide +kernel

theorem test_premises_BurstRebuildsTheRecord_1 :
    (State.reads 5 yard ∧ yard.role = some Role.both ∧ (Frame.head (head0 1 false)).inRange = true ∧
     State.isClosed (head0 1 false).ticket yard = false ∧ State.contextOf 5 yard = none ∧
     0 < (head0 1 false).lineCount) ∧
    ((Frame.head (head0 0 false)).inRange = true ∧ State.isClosed (head0 0 false).ticket yard = false ∧
     (head0 0 false).lineCount = 0 ∧ (head0 0 false).hasTag = false ∧ (head0 0 false).hasSeller = false ∧
     (head0 0 false).step = 0 ∧ (head0 0 false).life = Life.opened ∧
     (head0 0 false).grossIn = (head0 0 false).lastWeight ∧ State.findRecord (head0 0 false).ticket yard = none ∧
     yard.weigh = none ∧ yard.tickets.table.length < 48) := by
  decide +kernel

theorem test_premises_BurstRebuildsTheRecord_2 :
    State.reads 5 (collecting (head0 2 false) [] yard) ∧ (collecting (head0 2 false) [] yard).role = some Role.both ∧
    (Frame.head (head0 2 false)).inRange = true ∧
    State.isClosed (head0 2 false).ticket (collecting (head0 2 false) [] yard) = false ∧
    State.contextOf 5 (collecting (head0 2 false) [] yard) = some (burstOf (head0 2 false)) ∧
    (burstOf (head0 2 false)).peer = 5 ∧ (burstOf (head0 2 false)).head = head0 2 false ∧
    (Frame.line (head0 2 false).ticket (nline 1)).inRange = true ∧
    (nline 1).index = (burstOf (head0 2 false)).lines.length + 1 ∧ (nline 1).index < (head0 2 false).lineCount := by
  decide +kernel

theorem test_premises_BurstRebuildsTheRecord_3 :
    (State.reads 5 (collecting (head0 1 false) [] (holding old5 reg1 yard)) ∧
     (collecting (head0 1 false) [] (holding old5 reg1 yard)).role = some Role.both ∧
     State.isClosed (head0 1 false).ticket (collecting (head0 1 false) [] (holding old5 reg1 yard)) = false ∧
     State.contextOf 5 (collecting (head0 1 false) [] (holding old5 reg1 yard)) = some (burstOf (head0 1 false)) ∧
     (burstOf (head0 1 false)).peer = 5 ∧ (burstOf (head0 1 false)).head = head0 1 false ∧
     (burstOf (head0 1 false)).tag = none ∧ (burstOf (head0 1 false)).seller = none ∧
     (Frame.line (head0 1 false).ticket (nline 1)).inRange = true ∧
     (nline 1).index = (burstOf (head0 1 false)).lines.length + 1 ∧ (nline 1).index = (head0 1 false).lineCount ∧
     (head0 1 false).hasTag = false ∧ (head0 1 false).hasSeller = false ∧
     (head0 1 false).step = (head0 1 false).lineCount ∧ (head0 1 false).life = Life.opened ∧
     (List.map Line.net ((burstOf (head0 1 false)).lines ++ [nline 1])).sum = (head0 1 false).grossIn - (head0 1 false).lastWeight) ∧
    (State.findRecord (head0 1 false).ticket (collecting (head0 1 false) [] (holding old5 reg1 yard)) = some old5 ∧
     old5.step < (head0 1 false).step ∧ old5.custody = Custody.free ∧ old5.lines = [] ∧
     (collecting (head0 1 false) [] (holding old5 reg1 yard)).payOp = none) := by
  decide +kernel

theorem test_premises_BurstRebuildsTheRecord_4 :
    (State.reads 5 (collecting (head0 0 true) [] yard) ∧ (collecting (head0 0 true) [] yard).role = some Role.both ∧
     (Frame.head (head0 0 true)).inRange = true ∧
     State.isClosed (head0 0 true).ticket (collecting (head0 0 true) [] yard) = false ∧
     State.contextOf 5 (collecting (head0 0 true) [] yard) = some (burstOf (head0 0 true)) ∧
     (burstOf (head0 0 true)).peer = 5 ∧ (burstOf (head0 0 true)).head = head0 0 true ∧
     (burstOf (head0 0 true)).lines = [] ∧ (burstOf (head0 0 true)).tag = none ∧
     (burstOf (head0 0 true)).seller = none ∧ 1 ≤ List.length longTag ∧ List.length longTag ≤ 12 ∧
     (∀ (ch : Nat), ch ∈ longTag → 32 ≤ ch ∧ ch ≤ 126) ∧ (head0 0 true).lineCount = 0 ∧ (head0 0 true).hasTag = true ∧
     (head0 0 true).hasSeller = false) ∧
    ((head0 0 true).step = 0 ∧ (head0 0 true).life = Life.opened ∧
     (head0 0 true).grossIn = (head0 0 true).lastWeight ∧
     State.findRecord (head0 0 true).ticket (collecting (head0 0 true) [] yard) = none ∧
     (collecting (head0 0 true) [] yard).weigh = none ∧ (collecting (head0 0 true) [] yard).tickets.table.length < 48) := by
  decide +kernel

theorem test_premises_BurstRebuildsTheRecord_5 :
    (State.reads 5 (collecting ownHead [] yard1) ∧ (collecting ownHead [] yard1).role = some Role.both ∧
     (Frame.head ownHead).inRange = true ∧ State.isClosed ownHead.ticket (collecting ownHead [] yard1) = false ∧
     State.contextOf 5 (collecting ownHead [] yard1) = some (burstOf ownHead) ∧ (burstOf ownHead).peer = 5 ∧
     (burstOf ownHead).head = ownHead ∧ (burstOf ownHead).tag = none ∧ (burstOf ownHead).seller = none ∧
     (Frame.line ownHead.ticket (nline 1)).inRange = true ∧ (nline 1).index = (burstOf ownHead).lines.length + 1 ∧
     (nline 1).index = ownHead.lineCount ∧ ownHead.hasTag = false ∧ ownHead.hasSeller = false ∧
     ownHead.step = ownHead.lineCount ∧ ownHead.life = Life.opened) ∧
    ((List.map Line.net ((burstOf ownHead).lines ++ [nline 1])).sum = ownHead.grossIn - ownHead.lastWeight ∧
     State.findRecord ownHead.ticket (collecting ownHead [] yard1) = some rec1 ∧ rec1.step < ownHead.step ∧
     rec1.custody = Custody.free ∧ rec1.lines = [] ∧ (collecting ownHead [] yard1).payOp = none) := by
  decide +kernel

theorem test_premises_AskAndAnnounceReceived_1 :
    (yard.powered = true ∧ 15 ≠ yard.myId ∧ yard.waitId = false ∧ State.peer 15 yard = none ∧
     yard.link.state = LinkState.up ∧ State.contextOf 15 yard = none ∧ announceNew.dayNumber ≤ 65535 ∧
     announceNew.tableLoad ≤ 48 ∧ announceNew.restart = false ∧ yard.notices.queue.length < 14 ∧
     yard.notices.seq < 256) ∧
    (1 ≠ yard.myId ∧ State.peer 1 yard = none ∧ State.contextOf 1 yard = none) ∧
    (State.reads 5 yard2reg ∧ State.contextOf 5 yard2reg = none) ∧
    (1 ≤ t21.home ∧ t21.home ≤ 15 ∧ 1 ≤ t21.serial ∧ t21.serial ≤ 65535 ∧ State.findRecord t21 yard2reg = some rec2 ∧
     rec2.step < 2) := by
  decide +kernel

theorem test_premises_AskAndAnnounceReceived_2 :
    (rec2.stale = false ∧ 1 ≤ rec2.step ∧ rec2.lastWriter = yard2reg.myId ∧ yard2reg.occupied + rec2.burst.length ≤ 24) ∧
    ((announceOf false).dayNumber ≤ 65535 ∧ (announceOf false).tableLoad ≤ 48 ∧ State.peer 5 yard2reg = some peer5 ∧
     peer5.role = some (announceOf false).role ∧ peer5.dayOpen = some (announceOf false).dayOpen ∧
     (announceOf false).restart = false) ∧
    (yard2reg.notices.queue.length < 15 ∧ yard2reg.notices.seq < 256) ∧
    (State.reads 5 (taken 5) ∧ State.contextOf 5 (taken 5) = none) ∧
    ((announceOf true).dayNumber ≤ 65535 ∧ (announceOf true).tableLoad ≤ 48 ∧ State.peer 5 (taken 5) = some peer5 ∧
     peer5.role = some (announceOf true).role ∧ peer5.dayOpen = some (announceOf true).dayOpen ∧
     (announceOf true).restart = true ∧ (taken 5).notices.queue.length < 16) := by
  decide +kernel

theorem test_premises_LinkTimers_1 :
    ((joining yard).powered = true ∧ (joining yard).link.joinTimer = some 500 ∧ (joining yard).occupied < 24 ∧
     (∀ (i : QueueItem), i ∈ (joining yard).link.queue → Option.map Frame.kind i.frames.head? ≠ some FrameKind.announce)) ∧
    ((joining lonely).powered = true ∧ (joining lonely).link.joinTimer = some 500 ∧ (joining lonely).occupied < 24 ∧
     (∀ (i : QueueItem), i ∈ (joining lonely).link.queue → Option.map Frame.kind i.frames.head? ≠ some FrameKind.announce)) ∧
    ((linked LinkState.down yard).powered = true ∧ (linked LinkState.down yard).link.announceTimer = some 1000 ∧
     (linked LinkState.down yard).link.state = LinkState.down) ∧
    (probing.powered = true ∧ probing.link.wire = none ∧ probing.link.state = LinkState.down ∧
     probing.link.probe = some probeValues) ∧
    ((probed (queued [releaseItem] yard)).powered = true ∧
     (probed (queued [releaseItem] yard)).link.wire = some { frame := Frame.announce probeValues, probe := true, bits := probeWire.bits } ∧
     (probed (queued [releaseItem] yard)).link.state = LinkState.down) ∧
    (∀ (r : Record), r ∈ (probed (queued [releaseItem] yard)).tickets.table → r.pendingBroadcast = false) ∧
    (probedTwice.powered = true ∧
     probedTwice.link.wire = some { frame := Frame.announce probeValues, probe := true, bits := probeWire.bits } ∧
     probedTwice.link.state = LinkState.down) := by
  decide +kernel

theorem test_premises_LinkTimers_2 :
    (∀ (r : Record), r ∈ probedTwice.tickets.table → r.pendingBroadcast = false) ∧
    ((probed (holding pendingRec reg1 yard)).powered = true ∧
     (probed (holding pendingRec reg1 yard)).link.wire = some { frame := Frame.announce probeValues, probe := true, bits := probeWire.bits } ∧
     (probed (holding pendingRec reg1 yard)).link.state = LinkState.down) ∧
    ((probed (holding pendingRec reg1 yard)).tickets.table = [] ++ [pendingRec] ∧
     (∀ (q : Record), q ∈ [] → q.pendingBroadcast = false) ∧ pendingRec.pendingBroadcast = true ∧
     (∀ (i : QueueItem), i ∈ (probed (holding pendingRec reg1 yard)).link.queue → i.burst ≠ some pendingRec.number) ∧
     (probed (holding pendingRec reg1 yard)).occupied + pendingRec.burst.length ≤ 24) ∧
    ((probed (dry (queued [releaseItem] (holding pendingRec reg1 yard)))).powered = true ∧
     (probed (dry (queued [releaseItem] (holding pendingRec reg1 yard)))).link.wire = some { frame := Frame.announce probeValues, probe := true, bits := probeWire.bits } ∧
     (probed (dry (queued [releaseItem] (holding pendingRec reg1 yard)))).link.state = LinkState.down) ∧
    ((probed (dry (queued [releaseItem] (holding pendingRec reg1 yard)))).tickets.table = [] ++ [pendingRec] ∧
     (∀ (i : QueueItem), i ∈ (probed (dry (queued [releaseItem] (holding pendingRec reg1 yard)))).link.queue → i.burst ≠ some pendingRec.number) ∧
     (probed (dry (queued [releaseItem] (holding pendingRec reg1 yard)))).occupied + pendingRec.burst.length ≤ 24) ∧
    (yard.powered = true ∧ yard.link.announceTimer = some 1000 ∧ yard.link.state = LinkState.up ∧ yard.occupied < 24 ∧
     (∀ (i : QueueItem), i ∈ yard.link.queue → Option.map Frame.kind i.frames.head? ≠ some FrameKind.announce)) := by
  decide +kernel

theorem test_premises_LinkTimers_3 :
    (State.peer 5 yard = some peer5 ∧ peer5.present = true ∧ yard.notices.queue.length < 16) ∧
    (lonely.powered = true ∧ lonely.link.upAlone = some 3000) ∧
    ((collecting (head0 2 false) [] yard).powered = true ∧
     State.contextOf 5 (collecting (head0 2 false) [] yard) = some (burstOf (head0 2 false)) ∧
     State.findRecord (burstOf (head0 2 false)).head.ticket (collecting (head0 2 false) [] yard) = none) := by
  decide +kernel

theorem test_premises_ReprintPrintTextCancelJob_1 :
    (State.takes 4 yard ∧ t00.home ≤ 255 ∧ t00.serial ≤ 65535 ∧ t00.home = 0) ∧
    (t255.home ≤ 255 ∧ t255.serial ≤ 65535 ∧ 15 < t255.home) ∧
    (t20.home ≤ 255 ∧ t20.serial ≤ 65535 ∧ t20.serial = 0) ∧
    (t21.home ≤ 255 ∧ t21.serial ≤ 65535) ∧
    4 < BitVec.toNat (5 : Byte) ∧
    (State.takes 4 (closedAt t21 yard2) ∧ 1 ≤ t21.home ∧ t21.home ≤ 15 ∧ 1 ≤ t21.serial ∧
     (State.closedEntry t21 (closedAt t21 yard2)).isSome = true) := by
  decide +kernel

theorem test_premises_ReprintPrintTextCancelJob_2 :
    (State.takes 4 yard2 ∧ t15Last.home ≤ 255 ∧ t15Last.serial ≤ 65535 ∧ 1 ≤ t15Last.home ∧ t15Last.home ≤ 15 ∧
     1 ≤ t15Last.serial ∧ State.closedEntry t15Last yard2 = none ∧ State.findRecord t15Last yard2 = none) ∧
    (State.takes 4 (dry yard1) ∧ State.closedEntry t21 (dry yard1) = none ∧
     State.findRecord t21 (dry yard1) = some rec1 ∧ (dry yard1).printer.jobs.length < 8) ∧
    (State.closedEntry t21 yard2 = none ∧ State.findRecord t21 yard2 = some rec2 ∧ yard2.printer.jobs.length < 8) ∧
    (State.takes 4 (reprinted yard2) ∧ State.closedEntry t21 (reprinted yard2) = none ∧
     State.findRecord t21 (reprinted yard2) = some rec2 ∧ (reprinted yard2).printer.jobs.length < 8) := by
  decide +kernel

theorem test_premises_ReprintPrintTextCancelJob_3 :
    (State.takes 4 (printing PrinterState.ready eightJobs yard1) ∧
     State.closedEntry t21 (printing PrinterState.ready eightJobs yard1) = none ∧
     State.findRecord t21 (printing PrinterState.ready eightJobs yard1) = some rec1 ∧
     8 ≤ (printing PrinterState.ready eightJobs yard1).printer.jobs.length) ∧
    (State.takes 4 yard1 ∧ State.closedEntry t21 yard1 = none ∧ State.findRecord t21 yard1 = some rec1 ∧
     rec1.life = Life.opened) ∧
    rec2.life = Life.complete ∧
    (State.takes 4 (printing PrinterState.ready eightJobs yard2) ∧
     State.closedEntry t21 (printing PrinterState.ready eightJobs yard2) = none ∧
     State.findRecord t21 (printing PrinterState.ready eightJobs yard2) = some rec2 ∧
     8 ≤ (printing PrinterState.ready eightJobs yard2).printer.jobs.length) ∧
    (State.takes 4 (closedAt t21 yard) ∧ State.closedEntry t21 (closedAt t21 yard) = some elsewhere21) ∧
    elsewhere21.closure = Closure.elsewhere := by
  decide +kernel

theorem test_premises_ReprintPrintTextCancelJob_4 :
    (State.takes 4 (dry settledYard) ∧ t22.home ≤ 255 ∧ t22.serial ≤ 65535 ∧ 1 ≤ t22.home ∧ t22.home ≤ 15 ∧
     1 ≤ t22.serial ∧ State.closedEntry t22 (dry settledYard) = some paid22) ∧
    (paid22.closure = Closure.settled Settlement.paid 5000 (-3) 5 true ∧ (dry settledYard).printer.jobs.length < 8) ∧
    (State.takes 4 (printing PrinterState.ready eightJobs settledYard) ∧
     State.closedEntry t22 (printing PrinterState.ready eightJobs settledYard) = some paid22) ∧
    8 ≤ (printing PrinterState.ready eightJobs settledYard).printer.jobs.length ∧
    (State.takes 4 settledYard ∧ State.closedEntry t22 settledYard = some paid22) ∧
    (State.takes 4 voidedYard ∧ State.closedEntry t22 voidedYard = some voided22) ∧
    voided22.closure = Closure.settled Settlement.voided 0 0 5 true ∧
    (State.takes 4 (dry voidedYard) ∧ State.closedEntry t22 (dry voidedYard) = some voided22) ∧
    (dry voidedYard).printer.jobs.length < 8 ∧
    (State.takes 4 (printing PrinterState.ready eightJobs voidedYard) ∧
     State.closedEntry t22 (printing PrinterState.ready eightJobs voidedYard) = some voided22) := by
  decide +kernel

theorem test_premises_ReprintPrintTextCancelJob_5 :
    8 ≤ (printing PrinterState.ready eightJobs voidedYard).printer.jobs.length ∧
    (State.takes (List.length (codesOf "A") + 1) yard ∧ 1 ≤ List.length (codesOf "A") ∧
     List.length (codesOf "A") ≤ 40 ∧ (∀ (c : Nat), c ∈ codesOf "A" → 32 ≤ c ∧ c ≤ 126) ∧ yard.printer.jobs.length < 8) ∧
    (State.takes ((List.replicate 40 126).length + 1) yard ∧ 1 ≤ (List.replicate 40 126).length ∧
     (List.replicate 40 126).length ≤ 40 ∧ (∀ (c : Nat), c ∈ List.replicate 40 126 → 32 ≤ c ∧ c ≤ 126)) ∧
    (State.takes (List.length (codesOf "A") + 1) (printing PrinterState.ready eightJobs yard) ∧
     8 ≤ (printing PrinterState.ready eightJobs yard).printer.jobs.length) ∧
    (State.takes 1 yard ∧ (∀ (j : Job), j ∈ yard.printer.jobs → j.number ≠ BitVec.toNat (255 : Byte))) ∧
    (State.takes 1 offering ∧
     List.find? (fun (j : Job) => decide (j.number = BitVec.toNat (1 : Byte))) offering.printer.jobs = some voucherJob ∧
     voucherJob.state = JobState.waiting) ∧
    (State.takes 1 (dry (printing PrinterState.ready [job1] yard)) ∧
     List.find? (fun (j : Job) => decide (j.number = BitVec.toNat (1 : Byte))) (dry (printing PrinterState.ready [job1] yard)).printer.jobs = some job1 ∧
     job1.state = JobState.queued) := by
  decide +kernel

theorem test_premises_ReprintPrintTextCancelJob_6 :
    (State.takes 1 (handing 65) ∧
     List.find? (fun (j : Job) => decide (j.number = BitVec.toNat (1 : Byte))) (handing 65).printer.jobs = some jobOn ∧
     jobOn.state = JobState.printing) ∧
    (State.takes 1 (pending PrinterState.loanPending (handing 65)) ∧
     List.find? (fun (j : Job) => decide (j.number = BitVec.toNat (1 : Byte))) (pending PrinterState.loanPending (handing 65)).printer.jobs = some jobOn) ∧
    (State.takes 1 (dry (printing PrinterState.stopped [jobSusp 0] yard)) ∧
     List.find? (fun (j : Job) => decide (j.number = BitVec.toNat (1 : Byte))) (dry (printing PrinterState.stopped [jobSusp 0] yard)).printer.jobs = some (jobSusp 0) ∧
     (jobSusp 0).state = JobState.suspended) ∧
    (State.takes 1 (printing PrinterState.loaned [jobSusp 0] yard) ∧
     List.find? (fun (j : Job) => decide (j.number = BitVec.toNat (1 : Byte))) (printing PrinterState.loaned [jobSusp 0] yard).printer.jobs = some (jobSusp 0)) := by
  decide +kernel

theorem test_premises_LoanReclaimAndHeader_1 :
    (State.takes 0 yard ∧ yard.printer.port = PrinterState.ready) ∧
    (State.takes 0 (printing PrinterState.stopped [jobSusp 0] yard) ∧
     (printing PrinterState.stopped [jobSusp 0] yard).printer.port = PrinterState.stopped) ∧
    (State.takes 0 (handing 65) ∧ (handing 65).printer.port = PrinterState.printing) ∧
    (State.takes 0 (printing PrinterState.loaned [] yard) ∧
     (printing PrinterState.loaned [] yard).printer.port = PrinterState.loaned) ∧
    (State.takes 0 (printing PrinterState.loaned [jobSusp 0] yard) ∧
     (printing PrinterState.loaned [jobSusp 0] yard).printer.port = PrinterState.loaned ∧
     (printing PrinterState.loaned [jobSusp 0] yard).printer.fault = false ∧
     (printing PrinterState.loaned [jobSusp 0] yard).printer.stalled = false) ∧
    (State.takes 0 (faulty (printing PrinterState.loaned [jobSusp 0] yard)) ∧
     (faulty (printing PrinterState.loaned [jobSusp 0] yard)).printer.port = PrinterState.loaned ∧
     ((faulty (printing PrinterState.loaned [jobSusp 0] yard)).printer.fault = true ∨ (faulty (printing PrinterState.loaned [jobSusp 0] yard)).printer.stalled = true)) ∧
    (State.takes 0 (printing PrinterState.loanPending [jobOn] yard) ∧
     (printing PrinterState.loanPending [jobOn] yard).printer.port = PrinterState.loanPending) ∧
    (State.takes ((List.replicate 40 126).length + 2) (closedDay yard) ∧ (closedDay yard).day.isOpen = false ∧
     (List.replicate 40 126).length ≤ 40 ∧ (∀ (c : Nat), c ∈ List.replicate 40 126 → 32 ≤ c ∧ c ≤ 126)) ∧
    State.takes 1 (closedDay yard) := by
  decide +kernel

theorem test_premises_LoanReclaimAndHeader_2 :
    (State.takes (List.length noText + 2) (closedDay yard) ∧ List.length noText ≤ 40 ∧
     (∀ (c : Nat), c ∈ noText → 32 ≤ c ∧ c ≤ 126)) ∧
    (State.takes ((List.replicate 40 126).length + 1) (loading 1) ∧ (loading 1).printer.load = some (loadOf 1) ∧
     (loadOf 1).expected = 1) ∧
    (State.takes (List.length noText + 1) (loading 3) ∧ (loading 3).printer.load = some (loadOf 3) ∧
     1 < (loadOf 3).expected) ∧
    (State.takes (List.length noText + 1) yard ∧ yard.printer.load = none) := by
  decide +kernel

theorem test_premises_PrinterPortLines_1 :
    ((handing 65).powered = true ∧ (handing 65).printer.port = PrinterState.printing ∧
     (handing 65).printer.busy = false ∧ (handing 65).printer.stream = [65, 12]) ∧
    ((handing 10).powered = true ∧ (handing 10).printer.port = PrinterState.printing ∧
     (handing 10).printer.busy = false ∧ (handing 10).printer.stream = [10, 12] ∧
     (handing 10).printer.leadLine = false) ∧
    (leadingLine.powered = true ∧ leadingLine.printer.port = PrinterState.printing ∧
     leadingLine.printer.busy = false ∧ leadingLine.printer.stream = [10, 12] ∧ leadingLine.printer.leadLine = true) ∧
    ((handing 12).powered = true ∧ (handing 12).printer.port = PrinterState.printing ∧
     (handing 12).printer.busy = false ∧ (handing 12).printer.stream = [12, 12] ∧
     List.find? (fun (j : Job) => decide (j.state = JobState.printing)) (handing 12).printer.jobs = some jobOn ∧
     (handing 12).notices.queue.length < 16) := by
  decide +kernel

theorem test_premises_PrinterPortLines_2 :
    ((pending PrinterState.loanPending (handing 12)).powered = true ∧
     (pending PrinterState.loanPending (handing 12)).printer.port = PrinterState.loanPending ∧
     (pending PrinterState.loanPending (handing 12)).printer.busy = false ∧
     (pending PrinterState.loanPending (handing 12)).printer.stream = [12, 12] ∧
     List.find? (fun (j : Job) => decide (j.state = JobState.printing)) (pending PrinterState.loanPending (handing 12)).printer.jobs = some jobOn ∧
     (pending PrinterState.loanPending (handing 12)).notices.queue.length < 16) ∧
    (jobless.powered = true ∧ jobless.printer.port = PrinterState.printing ∧ jobless.printer.busy = false ∧
     jobless.printer.stream = [12, 12] ∧
     List.find? (fun (j : Job) => decide (j.state = JobState.printing)) jobless.printer.jobs = none) ∧
    ((pending PrinterState.loanPending jobless).powered = true ∧
     (pending PrinterState.loanPending jobless).printer.port = PrinterState.loanPending ∧
     (pending PrinterState.loanPending jobless).printer.busy = false ∧
     (pending PrinterState.loanPending jobless).printer.stream = [12, 12] ∧
     List.find? (fun (j : Job) => decide (j.state = JobState.printing)) (pending PrinterState.loanPending jobless).printer.jobs = none) ∧
    (stalling.powered = true ∧ stalling.printer.busy = true) ∧
    ((printing PrinterState.loaned [jobSusp 0] yard).powered = true ∧
     (¬((printing PrinterState.loaned [jobSusp 0] yard).printer.port = PrinterState.printing ∨ (printing PrinterState.loaned [jobSusp 0] yard).printer.port = PrinterState.loanPending))) ∧
    waitingJob.powered = true ∧
    (dry yard).powered = true := by
  decide +kernel

theorem test_premises_PrinterPortLines_3 :
    (faulty yard).powered = true ∧
    ((printing PrinterState.loaned [] yard).powered = true ∧
     (printing PrinterState.loaned [] yard).printer.paperOut = false ∧
     (¬((printing PrinterState.loaned [] yard).printer.port = PrinterState.printing ∨ (printing PrinterState.loaned [] yard).printer.port = PrinterState.loanPending))) ∧
    (printing PrinterState.loaned [] yard).printer.port = PrinterState.loaned ∧
    (yard.powered = true ∧ yard.printer.stall = none) ∧
    (State.latched Flag.printerFault yard = false ∧ yard.notices.queue.length < 16) ∧
    yard.printer.port = PrinterState.ready ∧
    ((printing PrinterState.stopped [jobSusp 0] yard).powered = true ∧
     State.latched Flag.printerFault (printing PrinterState.stopped [jobSusp 0] yard) = false ∧
     (printing PrinterState.stopped [jobSusp 0] yard).notices.queue.length < 16) ∧
    (printing PrinterState.stopped [jobSusp 0] yard).printer.port = PrinterState.stopped ∧
    (stalledJobless.powered = true ∧ State.latched Flag.printerFault stalledJobless = false ∧
     stalledJobless.notices.queue.length < 16) ∧
    (stalledJobless.printer.port = PrinterState.printing ∧
     List.find? (fun (j : Job) => decide (j.state = JobState.printing)) stalledJobless.printer.jobs = none) ∧
    (stalledJobless.printer.stall = some 5000 ∧ stalledJobless.printer.fault = false) := by
  decide +kernel

theorem test_premises_PrinterPortLines_4 :
    ((pending PrinterState.loanPending stalledJobless).powered = true ∧
     State.latched Flag.printerFault (pending PrinterState.loanPending stalledJobless) = false ∧
     (pending PrinterState.loanPending stalledJobless).notices.queue.length < 16) ∧
    ((pending PrinterState.loanPending stalledJobless).printer.port = PrinterState.loanPending ∧
     List.find? (fun (j : Job) => decide (j.state = JobState.printing)) (pending PrinterState.loanPending stalledJobless).printer.jobs = none) ∧
    ((pending PrinterState.loanPending stalledJobless).printer.stall = some 5000 ∧
     (pending PrinterState.loanPending stalledJobless).printer.fault = false) ∧
    (State.latched Flag.printerFault stalling = false ∧ stalling.notices.queue.length < 16) ∧
    (stalling.printer.port = PrinterState.printing ∧
     List.find? (fun (j : Job) => decide (j.state = JobState.printing)) stalling.printer.jobs = some jobOn) ∧
    (stalling.printer.stall = some 5000 ∧ stalling.printer.fault = false) ∧
    ((pending PrinterState.loanPending stalling).powered = true ∧
     State.latched Flag.printerFault (pending PrinterState.loanPending stalling) = false ∧
     (pending PrinterState.loanPending stalling).notices.queue.length < 16) ∧
    ((pending PrinterState.loanPending stalling).printer.port = PrinterState.loanPending ∧
     List.find? (fun (j : Job) => decide (j.state = JobState.printing)) (pending PrinterState.loanPending stalling).printer.jobs = some jobOn) ∧
    ((pending PrinterState.loanPending stalling).printer.stall = some 5000 ∧
     (pending PrinterState.loanPending stalling).printer.fault = false) ∧
    jobless.printer.paperOut = false ∧
    (pending PrinterState.loanPending jobless).printer.paperOut = false := by
  decide +kernel

theorem test_premises_PrinterPortLines_5 :
    stalling.printer.paperOut = false ∧
    (pending PrinterState.loanPending stalling).printer.paperOut = false := by
  decide +kernel

theorem test_premises_EveryFrameIsReadBack :
    (Frame.head (head0 2 true)).inRange = true ∧
    (Frame.line t5Last (nline 8)).inRange = true ∧
    (Frame.closed t5Last Settlement.voided 300900000 (-300900000) true).inRange = true ∧
    (Frame.announce announceBoth).inRange = true := by
  decide +kernel

end Sys2Proof.Tests
end

section
/-! Grades and prices (R54, R73 to R77): what rounding, the version's tiers and the pricing unit answer, and from these
the tier and the amount of a line. -/

namespace Sys2Proof.Machine

/-! ### Rounding -/

/-- Nearest, halves up: the rounded value `q` is the only one with `q - 1/2 ≤ n / d < q + 1/2`. -/
theorem roundHalfUp_bounds (n : Nat) {d : Nat} (hd : 0 < d) :
    2 * (d * roundHalfUp n d) ≤ 2 * n + d ∧ 2 * n + d < 2 * (d * (roundHalfUp n d + 1)) := by
  have hle : 2 * d * roundHalfUp n d ≤ 2 * n + d := Nat.mul_div_le _ _
  have hlt : 2 * n + d < 2 * d * (roundHalfUp n d + 1) := Nat.lt_mul_div_succ _ (by omega)
  rw [Nat.mul_assoc] at hle hlt
  exact ⟨hle, hlt⟩

theorem roundHalfUp_le_of_le_mul {n d m : Nat} (hd : 0 < d) (h : n ≤ d * m) : roundHalfUp n d ≤ m := by
  have hq := (roundHalfUp_bounds n hd).1
  refine Nat.le_of_not_lt fun hm => ?_
  have hstep : d * (m + 1) ≤ d * roundHalfUp n d := Nat.mul_le_mul_left d hm
  rw [Nat.mul_succ] at hstep
  omega

/-- With D at most 700 ‰ something of the net stays to be paid (R54, R75). -/
theorem deductionWeight_lt {net d : Nat} (hnet : 2 ≤ net) (hd : d ≤ 700) : deductionWeight net d < net := by
  have hq : 2 * (1000 * deductionWeight net d) ≤ 2 * (net * d) + 1000 := (roundHalfUp_bounds _ (by decide)).1
  have hprod : net * d ≤ net * 700 := Nat.mul_le_mul_left net hd
  omega

/-! ### The signed amount (R76) -/

theorem lineAmount_eq (k : GradeKind) (paid price : Nat) :
    lineAmount k paid price =
      if k = .buy then (roundHalfUp (paid * price) 1000 : Int) else -(roundHalfUp (paid * price) 1000 : Int) := by
  cases k <;> rfl

@[simp] theorem lineAmount_natAbs (k : GradeKind) (paid price : Nat) :
    (lineAmount k paid price).natAbs = roundHalfUp (paid * price) 1000 := by
  cases k
  case buy => exact Int.natAbs_natCast _
  case charge => exact (Int.natAbs_neg _).trans (Int.natAbs_natCast _)

/-! ### The tiers of a version (R68, R75) -/

theorem boundsRise_cons_cons (a b : Tier) (rest : List Tier) :
    boundsRise (a :: b :: rest) = true ↔ a.bound < b.bound ∧ boundsRise (b :: rest) = true := by
  rw [boundsRise, Bool.and_eq_true, decide_eq_true_eq]

theorem boundsRise_pairwise : ∀ {ts : List Tier}, boundsRise ts = true → ts.Pairwise (fun a b => a.bound < b.bound)
  | [], _ => List.Pairwise.nil
  | [_], _ => List.pairwise_singleton _ _
  | a :: b :: rest, h => by
    obtain ⟨hab, hrest⟩ := (boundsRise_cons_cons a b rest).1 h
    have ih := boundsRise_pairwise hrest
    refine List.pairwise_cons.2 ⟨fun u hu => ?_, ih⟩
    obtain rfl | hu := List.mem_cons.1 hu
    · exact hab
    · exact Nat.lt_trans hab (List.rel_of_pairwise_cons ih hu)

theorem tiersOk_pairwise {ts : List Tier} (h : tiersOk ts = true) : ts.Pairwise (fun a b => a.bound < b.bound) := by
  simp only [tiersOk, Bool.and_eq_true] at h
  exact boundsRise_pairwise h.2

/-- The first bound is 0, so every paid weight reaches a tier. -/
theorem tiersOk_exists_bound_zero {ts : List Tier} (h : tiersOk ts = true) : ∃ t ∈ ts, t.bound = 0 := by
  cases ts with
  | nil => exact absurd h (by decide)
  | cons t rest =>
    simp only [tiersOk, Bool.and_eq_true, decide_eq_true_eq] at h
    obtain ⟨⟨⟨-, hzero⟩, -⟩, -⟩ := h
    exact ⟨t, List.mem_cons_self, hzero⟩

/-- The tiers whose bound the paid weight reaches, each with its number, counted from 1. -/
def reachedTiers (paid : Nat) (ts : List Tier) : List (Tier × Nat) :=
  (ts.zipIdx 1).filter (fun p => decide (p.1.bound ≤ paid))

theorem chooseTier_eq (paid : Nat) (ts : List Tier) :
    chooseTier paid ts = (reachedTiers paid ts).getLast?.map (fun p => (p.2, p.1)) := rfl

theorem mem_reachedTiers {paid i : Nat} {ts : List Tier} {t : Tier} :
    (t, i + 1) ∈ reachedTiers paid ts ↔ ts[i]? = some t ∧ t.bound ≤ paid := by
  simp only [reachedTiers, List.mem_filter, List.mk_mem_zipIdx_iff_le_and_getElem?_sub, Nat.le_add_left,
    Nat.add_sub_cancel, decide_eq_true_eq, true_and]

theorem exists_mem_reachedTiers {paid : Nat} {ts : List Tier} {u : Tier} (hu : u ∈ ts) (hle : u.bound ≤ paid) :
    ∃ i, (u, i + 1) ∈ reachedTiers paid ts := by
  obtain ⟨i, hi⟩ := List.getElem?_of_mem hu
  exact ⟨i, mem_reachedTiers.2 ⟨hi, hle⟩⟩

theorem number_pos_of_mem_reachedTiers {paid : Nat} {ts : List Tier} {p : Tier × Nat}
    (hp : p ∈ reachedTiers paid ts) : 1 ≤ p.2 :=
  List.le_snd_of_mem_zipIdx (List.mem_filter.1 hp).1

theorem reachedTiers_pairwise (paid : Nat) {ts : List Tier} (hrise : ts.Pairwise (fun a b => a.bound < b.bound)) :
    (reachedTiers paid ts).Pairwise (fun p q => p.1.bound ≤ q.1.bound) := by
  have hall : ((ts.zipIdx 1).map Prod.fst).Pairwise (fun a b => a.bound < b.bound) := by
    rwa [List.zipIdx_map_fst]
  exact ((List.pairwise_map.1 hall).imp Nat.le_of_lt).filter _

/-- Among rising bounds the last tier reached is the one with the largest bound reached. -/
theorem chooseTier_largest_bound {paid : Nat} {ts : List Tier} (hrise : ts.Pairwise (fun a b => a.bound < b.bound))
    (hreach : ∃ t ∈ ts, t.bound ≤ paid) :
    ∃ (i : Nat) (t : Tier), chooseTier paid ts = some (i + 1, t) ∧ ts[i]? = some t ∧ t.bound ≤ paid ∧
      ∀ u ∈ ts, u.bound ≤ paid → u.bound ≤ t.bound := by
  have hne : reachedTiers paid ts ≠ [] := by
    obtain ⟨t, ht, hle⟩ := hreach
    obtain ⟨i, hi⟩ := exists_mem_reachedTiers ht hle
    exact List.ne_nil_of_mem hi
  obtain ⟨init, ⟨t, k⟩, hsplit⟩ := List.eq_nil_or_concat (reachedTiers paid ts) |>.resolve_left hne
  rw [List.concat_eq_append] at hsplit
  have hlast : (t, k) ∈ reachedTiers paid ts := hsplit ▸ List.mem_concat_self
  obtain ⟨i, rfl⟩ := Nat.exists_eq_add_of_le' (number_pos_of_mem_reachedTiers hlast)
  obtain ⟨hget, hle⟩ := mem_reachedTiers.1 hlast
  refine ⟨i, t, ?_, hget, hle, fun u hu hule => ?_⟩
  · rw [chooseTier_eq, hsplit, List.getLast?_concat, Option.map_some]
  · obtain ⟨j, hj⟩ := exists_mem_reachedTiers hu hule
    have hsorted := reachedTiers_pairwise paid hrise
    rw [hsplit] at hj hsorted
    obtain hinit | hsame := List.mem_append.1 hj
    · exact (List.pairwise_append.1 hsorted).2.2 _ hinit _ (List.mem_singleton_self _)
    · exact Nat.le_of_eq (congrArg (fun p => p.1.bound) (List.mem_singleton.1 hsame))

theorem chooseTier_of_tiersOk (paid : Nat) {ts : List Tier} (h : tiersOk ts = true) :
    ∃ (i : Nat) (t : Tier), chooseTier paid ts = some (i + 1, t) ∧ ts[i]? = some t ∧ t.bound ≤ paid ∧
      ∀ u ∈ ts, u.bound ≤ paid → u.bound ≤ t.bound := by
  obtain ⟨t, ht, hzero⟩ := tiersOk_exists_bound_zero h
  exact chooseTier_largest_bound (tiersOk_pairwise h) ⟨t, ht, by omega⟩

/-! ### The pricing unit's answer (R77) -/

theorem State.gradeDeduction_of_grade {n : Nat} {g : Grade} {s : State} (hg : s.grade n = some g) :
    s.gradeDeduction n = g.deduction := by
  simp only [State.gradeDeduction, hg]

theorem priceLine_kind_of_grade (paid time weighIn day : Nat) {n : Nat} {g : Grade} {s : State}
    (hg : s.grade n = some g) : (priceLine n paid time weighIn day s).kind = g.kind := by
  simp only [priceLine, hg]

theorem priceLine_regulated_of_grade (paid time weighIn day : Nat) {n : Nat} {g : Grade} {s : State}
    (hg : s.grade n = some g) : (priceLine n paid time weighIn day s).regulated = g.regulated := by
  simp only [priceLine, hg]

/-- The answer when the grade is present and the choices of R74 and R75 both find something. -/
theorem priceLine_of_chosen {n paid time weighIn day k : Nat} {g : Grade} {v : Version} {t : Tier} {early : Bool}
    {s : State} (hg : s.grade n = some g)
    (hv : chooseVersion (s.lockTime time weighIn day) g.versions = (some v, early))
    (ht : chooseTier paid v.tiers = some (k, t)) :
    priceLine n paid time weighIn day s =
      { kind := g.kind, regulated := g.regulated, price := t.price, tier := k,
        amount := lineAmount g.kind paid t.price, priceEarly := early } := by
  simp only [priceLine, hg, Option.elim_some, hv, Option.bind_some, ht]

/-! ### The line a weigh step builds (R53 to R55) -/

section
variable (r : Record) (n d w : Nat) (off : Bool) (s : State)

theorem buildLine_paid : (buildLine r n d w off s).paid =
    (r.lastWeight - w) - deductionWeight (r.lastWeight - w) (d + s.gradeDeduction n) := rfl

theorem buildLine_amount : (buildLine r n d w off s).amount =
    lineAmount (buildLine r n d w off s).kind (buildLine r n d w off s).paid (buildLine r n d w off s).price := rfl

theorem buildLine_paid_le : (buildLine r n d w off s).paid ≤ r.lastWeight := by
  rw [buildLine_paid]
  omega

variable {r n d w off s}

theorem buildLine_kind_of_grade {g : Grade} (hg : s.grade n = some g) : (buildLine r n d w off s).kind = g.kind :=
  priceLine_kind_of_grade (buildLine r n d w off s).paid s.day.clock r.weighInTime r.issueDay hg

theorem buildLine_regulated_of_grade {g : Grade} (hg : s.grade n = some g) :
    (buildLine r n d w off s).regulated = g.regulated :=
  priceLine_regulated_of_grade (buildLine r n d w off s).paid s.day.clock r.weighInTime r.issueDay hg

/-- The version and the tier that the choices find go into the line. -/
theorem buildLine_of_chosen {k : Nat} {g : Grade} {v : Version} {t : Tier} {early : Bool} (hg : s.grade n = some g)
    (hv : chooseVersion (s.lockTime s.day.clock r.weighInTime r.issueDay) g.versions = (some v, early))
    (ht : chooseTier (buildLine r n d w off s).paid v.tiers = some (k, t)) :
    (buildLine r n d w off s).price = t.price ∧ (buildLine r n d w off s).priceEarly = early ∧
      (buildLine r n d w off s).localPart.map LocalPart.tier = some k := by
  have hp := priceLine_of_chosen hg hv ht
  exact ⟨congrArg Priced.price hp, congrArg Priced.priceEarly hp, congrArg (fun p : Priced => some p.tier) hp⟩

theorem buildLine_paid_pos {g : Grade} (hg : s.grade n = some g) (hd : d ≤ 500) (hgd : g.deduction ≤ 200)
    (hnet : w + 2 ≤ r.lastWeight) : 0 < (buildLine r n d w off s).paid := by
  rw [buildLine_paid, State.gradeDeduction_of_grade hg]
  have hlt : deductionWeight (r.lastWeight - w) (d + g.deduction) < r.lastWeight - w :=
    deductionWeight_lt (by omega) (by omega)
  omega

/-- The size of an amount at the greatest weight and price: 150,450 × 2,000,000 / 1000 (R76). -/
theorem buildLine_amount_natAbs_le (hw : r.lastWeight ≤ 150450) (hprice : (buildLine r n d w off s).price ≤ 2000000) :
    (buildLine r n d w off s).amount.natAbs ≤ 300900000 := by
  rw [buildLine_amount, lineAmount_natAbs]
  refine roundHalfUp_le_of_le_mul (by decide) ?_
  calc (buildLine r n d w off s).paid * (buildLine r n d w off s).price
      ≤ 150450 * 2000000 := Nat.mul_le_mul (Nat.le_trans (buildLine_paid_le r n d w off s) hw) hprice
    _ = 1000 * 300900000 := rfl

end

/-! ### The obligations -/

/-- Settles O32: the version's first bound is 0 and its bounds rise, so the choice finds a tier, the last one reached. -/
theorem tierByPaidWeight : Obligations.TierByPaidWeight := by
  intro r n d w off g v early s hg htiers hv l
  obtain ⟨i, t, hchosen, hget, hle, hmax⟩ := chooseTier_of_tiersOk l.paid htiers
  obtain ⟨hprice, hearly, htier⟩ := buildLine_of_chosen hg hv hchosen
  refine ⟨⟨i, t, hget, hle, hmax, hprice, ?_, htier⟩, hearly, fun hd hgd hdiv hnet => ?_⟩
  · rw [← hprice]
    exact lineAmount_natAbs _ _ _
  · exact buildLine_paid_pos hg hd hgd (by omega)

/-- Settles O33: the amount is the rounded product with the kind's sign, and rounding keeps the product's bound. -/
theorem amountOfALine : Obligations.AmountOfALine := by
  intro r n d w off g s hg l
  have hkind : l.kind = g.kind := buildLine_kind_of_grade hg
  have hamount : l.amount = lineAmount g.kind l.paid l.price := hkind ▸ buildLine_amount r n d w off s
  exact ⟨hkind, buildLine_regulated_of_grade hg,
    ⟨roundHalfUp (l.paid * l.price) 1000, hamount.trans (lineAmount_eq _ _ _), roundHalfUp_bounds _ (by decide)⟩,
    buildLine_amount_natAbs_le⟩

end Sys2Proof.Machine
end


section
/-! Facts about lists, sums and conditionals that the core library does not hold: the package builds without Mathlib. -/

namespace Sys2Proof.Machine

section
variable {α : Type}

theorem sum_map_le {f g : α → Nat} {l : List α} (h : ∀ x ∈ l, f x ≤ g x) : (l.map f).sum ≤ (l.map g).sum := by
  induction l with
  | nil => exact Nat.le_refl 0
  | cons a l ih =>
    have hhead := h a List.mem_cons_self
    have htail := ih fun x hx => h x (List.mem_cons_of_mem a hx)
    simp only [List.map_cons, List.sum_cons]
    omega

theorem le_sum_of_mem {n : Nat} {l : List Nat} (h : n ∈ l) : n ≤ l.sum := by
  induction l with
  | nil => cases h
  | cons a l ih =>
    rw [List.sum_cons]
    rcases List.mem_cons.1 h with rfl | h
    · exact Nat.le_add_right _ _
    · exact Nat.le_trans (ih h) (Nat.le_add_left _ _)

theorem sum_le_of_sublist {l l' : List Nat} (h : l.Sublist l') : l.sum ≤ l'.sum := by
  induction h with
  | slnil => exact Nat.le_refl 0
  | cons a _ ih => rw [List.sum_cons]; omega
  | cons_cons a _ ih => rw [List.sum_cons, List.sum_cons]; omega

/-- The sum of the casts is the cast of the sum. -/
theorem cast_sum_map (f : α → Nat) (l : List α) : ((l.map f).sum : Int) = (l.map (fun x => (f x : Int))).sum := by
  induction l with
  | nil => rfl
  | cons a l ih => rw [List.map_cons, List.map_cons, List.sum_cons, List.sum_cons, ← ih, Int.natCast_add]

/-- A list without repetition is no longer than one that holds all it holds. -/
theorem length_le_of_nodup_subset [DecidableEq α] {l l' : List α} (hn : l.Nodup) (hs : l ⊆ l') : l.length ≤ l'.length := by
  induction l generalizing l' with
  | nil => exact Nat.zero_le _
  | cons a l ih =>
    obtain ⟨ha, hn⟩ := List.nodup_cons.1 hn
    have hmem : a ∈ l' := hs List.mem_cons_self
    have hsub : l ⊆ l'.erase a := fun x hx =>
      (List.mem_erase_of_ne (fun he : x = a => ha (by rwa [← he]))).2 (hs (List.mem_cons_of_mem a hx))
    have hle := ih hn hsub
    have hlen := List.length_erase_of_mem hmem
    have hpos := List.length_pos_of_mem hmem
    rw [List.length_cons]
    omega

theorem nodup_map_of_injOn {β : Type} {f : α → β} {l : List α} (hf : ∀ a ∈ l, ∀ b ∈ l, f a = f b → a = b) (hn : l.Nodup) :
    (l.map f).Nodup := by
  induction l with
  | nil => exact List.nodup_nil
  | cons a l ih =>
    obtain ⟨ha, hn⟩ := List.nodup_cons.1 hn
    refine List.nodup_cons.2 ⟨fun hm => ?_, ih (fun x hx y hy => hf x (List.mem_cons_of_mem a hx) y (List.mem_cons_of_mem a hy)) hn⟩
    obtain ⟨b, hb, he⟩ := List.mem_map.1 hm
    exact ha (hf b (List.mem_cons_of_mem a hb) a List.mem_cons_self he ▸ hb)

theorem eq_of_nodup_map {β : Type} {f : α → β} {l : List α} (h : (l.map f).Nodup) {a b : α} (ha : a ∈ l) (hb : b ∈ l)
    (he : f a = f b) : a = b := by
  induction l with
  | nil => cases ha
  | cons c l ih =>
    obtain ⟨hc, hn⟩ := List.nodup_cons.1 h
    rcases List.mem_cons.1 ha with hac | ha <;> rcases List.mem_cons.1 hb with hbc | hb
    · rw [hac, hbc]
    · exact absurd (List.mem_map.2 ⟨b, hb, by rw [← he, hac]⟩) hc
    · exact absurd (List.mem_map.2 ⟨a, ha, by rw [he, hbc]⟩) hc
    · exact ih hn ha hb

end

theorem of_mem_takeWhile {α : Type} {p : α → Bool} {l : List α} {a : α} (h : a ∈ l.takeWhile p) : p a = true :=
  List.all_eq_true.1 List.all_takeWhile a h

theorem foldl_congr_mem {α β : Type} {f g : α → β → α} {l : List β} (h : ∀ a, ∀ b ∈ l, f a b = g a b) (a : α) :
    l.foldl f a = l.foldl g a := by
  induction l generalizing a with
  | nil => rfl
  | cons b l ih =>
    rw [List.foldl_cons, List.foldl_cons, h a b List.mem_cons_self]
    exact ih (fun a b hb => h a b (List.mem_cons_of_mem _ hb)) _

theorem ite_and_split {α : Sort _} {p q : Prop} [Decidable p] [Decidable q] (a b : α) :
    (if p ∧ q then a else b) = if p then (if q then a else b) else b := by
  by_cases hp : p <;> by_cases hq : q <;> simp [hp, hq]

end Sys2Proof.Machine

end

section
/-! What every operation of the model keeps: the queue of commands as it is, and the bounds of the notice queue, of the
closed list, of the transmit queue and of the ticket store. `Keeps s t` says it of two states; each operation is shown once to
be such a change, composed of the operations it calls. -/

namespace Sys2Proof.Machine

/-- From `s` to `t` no waiting command is touched and no invariant of the machine is lost. -/
structure Keeps (s t : State) : Prop where
  pending : t.pending = s.pending
  notices : s.noticesOk → t.noticesOk
  closed : s.closedOk → t.closedOk
  queue : s.queueOk → t.queueOk
  tickets : s.ticketsOk → t.ticketsOk

theorem Keeps.refl (s : State) : Keeps s s := ⟨rfl, id, id, id, id⟩

theorem Keeps.trans {s t u : State} (h : Keeps s t) (h' : Keeps t u) : Keeps s u :=
  ⟨h'.pending.trans h.pending, h'.notices ∘ h.notices, h'.closed ∘ h.closed, h'.queue ∘ h.queue, h'.tickets ∘ h.tickets⟩

theorem Keeps.of_eq {s t : State} (h : t = s) : Keeps s t := h ▸ Keeps.refl s

theorem keeps_foldl {α : Type} {f : State → α → State} (h : ∀ s a, Keeps s (f s a)) (l : List α) (s : State) :
    Keeps s (l.foldl f s) := by
  induction l generalizing s with
  | nil => exact Keeps.refl s
  | cons a l ih => exact (h s a).trans (ih _)

theorem keeps_ite {c : Prop} [Decidable c] {s a b : State} (ha : c → Keeps s a) (hb : ¬ c → Keeps s b) :
    Keeps s (if c then a else b) := by
  split
  · exact ha ‹_›
  · exact hb ‹_›

/-! ### What the invariants read -/

/-- The ticket store's part of the invariant reads the slot's operation, the store and the contexts. -/
theorem ticketsOk_congr {s t : State} (hk : t.tickets = s.tickets) (hw : t.weigh = s.weigh)
    (hc : t.link.contexts = s.link.contexts) : t.ticketsOk ↔ s.ticketsOk := by
  simp only [State.ticketsOk, State.reservations, State.closedEntry, hk, hw, hc]

theorem closedOk_congr {s t : State} (hk : t.tickets.closed = s.tickets.closed) : t.closedOk ↔ s.closedOk := by
  simp only [State.closedOk, hk]

theorem queueOk_congr {s t : State} (hq : t.link.queue = s.link.queue) (hc : t.closingPlaces = s.closingPlaces) :
    t.queueOk ↔ s.queueOk := by
  simp only [State.queueOk, State.occupied, Link.framesQueued, hq, hc]

theorem closingPlaces_congr {s t : State} (hw : t.weigh = s.weigh) (ho : t.payOp = s.payOp) :
    t.closingPlaces = s.closingPlaces := by
  simp only [State.closingPlaces, hw, ho]

/-- A change of blocks that no invariant reads. -/
theorem Keeps.of_same {s t : State} (hp : t.pending = s.pending) (hn : t.notices = s.notices) (hk : t.tickets = s.tickets)
    (hw : t.weigh = s.weigh) (ho : t.payOp = s.payOp) (hl : t.link = s.link) : Keeps s t where
  pending := hp
  notices := by simp only [State.noticesOk, hn, imp_self]
  closed := (closedOk_congr (by rw [hk])).2
  queue := (queueOk_congr (by rw [hl]) (closingPlaces_congr hw ho)).2
  tickets := (ticketsOk_congr hk hw (by rw [hl])).2

theorem Keeps.of_notices {s t : State} (h : s.noticesOk → t.noticesOk) (hp : t.pending = s.pending)
    (hk : t.tickets = s.tickets) (hw : t.weigh = s.weigh) (ho : t.payOp = s.payOp) (hl : t.link = s.link) : Keeps s t where
  pending := hp
  notices := h
  closed := (closedOk_congr (by rw [hk])).2
  queue := (queueOk_congr (by rw [hl]) (closingPlaces_congr hw ho)).2
  tickets := (ticketsOk_congr hk hw (by rw [hl])).2

/-- A change of the transmit queue and of the closing places. -/
theorem Keeps.of_queue {s t : State} (h : s.queueOk → t.queueOk) (hp : t.pending = s.pending) (hn : t.notices = s.notices)
    (hk : t.tickets = s.tickets) (hs : s.ticketsOk → t.ticketsOk) : Keeps s t where
  pending := hp
  notices := by simp only [State.noticesOk, hn, imp_self]
  closed := (closedOk_congr (by rw [hk])).2
  queue := h
  tickets := hs

/-- The lines collected so far carry the indices from 1 on in their order. -/
abbrev Reassembly.inOrder (c : Reassembly) : Prop := c.lines.map Line.index = (List.range c.lines.length).map (· + 1)

theorem keeps_onLink (s : State) (f : Link → Link)
    (hc : (∀ c ∈ s.link.contexts, c.inOrder) → ∀ c ∈ (f s.link).contexts, c.inOrder)
    (h : s.queueOk → (s.onLink f).queueOk) : Keeps s (s.onLink f) :=
  .of_queue h rfl rfl rfl
    fun ⟨htab, hreg, hclosed, hlo, hhi, hnodup, hrec, hweigh, hctx⟩ =>
      ⟨htab, hreg, hclosed, hlo, hhi, hnodup, hrec, hweigh, hc hctx⟩

/-- The transmit queue is left with a list of no more frames, none of its items empty. -/
theorem keeps_fewer (s : State) (f : Link → Link)
    (hc : (∀ c ∈ s.link.contexts, c.inOrder) → ∀ c ∈ (f s.link).contexts, c.inOrder)
    (h : (∀ i ∈ s.link.queue, i.frames ≠ []) → (f s.link).framesQueued ≤ s.link.framesQueued ∧
      ∀ i ∈ (f s.link).queue, i.frames ≠ []) : Keeps s (s.onLink f) :=
  keeps_onLink s f hc fun ⟨ho, hne⟩ => by
    obtain ⟨hle, hne'⟩ := h hne
    have hcl : (s.onLink f).closingPlaces = s.closingPlaces := rfl
    refine ⟨?_, hne'⟩
    simp only [State.occupied, hcl, State.onLink_link] at ho ⊢
    omega

/-- The link changes beside its queue and its contexts. -/
theorem keeps_link_same (s : State) (f : Link → Link) (hc : (f s.link).contexts = s.link.contexts)
    (hq : (f s.link).queue = s.link.queue) : Keeps s (s.onLink f) :=
  keeps_onLink s f (by rw [hc]; exact id) (queueOk_congr (s := s) (t := s.onLink f) hq rfl).2

theorem linesOk_of_ticketsOk {s : State} (h : s.ticketsOk) {r : Record} (hr : r ∈ s.tickets.table) : r.linesOk :=
  (h.2.2.2.2.2.2.1 r hr).2

theorem sublist_of_eq {α : Type} {l l' : List α} (h : l = l') : l.Sublist l' := h ▸ List.Sublist.refl l

/-- A change of the records in place or of their number downwards, and of no closed list entry. -/
theorem keeps_store (s : State) (f : Tickets → Tickets) (hc : (f s.tickets).closed = s.tickets.closed)
    (hs : (f s.tickets).nextSerial = s.tickets.nextSerial ∨ (f s.tickets).nextSerial = 1)
    (hr : (f s.tickets).register.length ≤ s.tickets.register.length)
    (ht : ((f s.tickets).table.map Record.number).Sublist (s.tickets.table.map Record.number))
    (hl : s.ticketsOk → ∀ r ∈ (f s.tickets).table, r.linesOk) : Keeps s (s.onTickets f) where
  pending := rfl
  notices := id
  closed := (closedOk_congr hc).2
  queue := id
  tickets := fun hs => by
    obtain ⟨htab, hreg, hclosed, hlo, hhi, hnodup, hrec, hweigh, hctx⟩ := id hs
    have hlen := ht.length_le
    simp only [List.length_map] at hlen
    have hres : (s.onTickets f).reservations = s.reservations := rfl
    have hentry (t : TicketNo) : (s.onTickets f).closedEntry t = s.closedEntry t := by simp [State.closedEntry, hc]
    refine ⟨?_, ?_, ?_, ?_, ?_, hnodup.sublist ht, fun r hr => ⟨?_, hl hs r hr⟩, hweigh, hctx⟩
    · simp only [hres, State.onTickets_tickets]; omega
    · simp only [hres, State.onTickets_tickets]; omega
    · simpa [hc] using hclosed
    · simp only [State.onTickets_tickets]; omega
    · simp only [State.onTickets_tickets]; omega
    · obtain ⟨q, hq, hn⟩ := List.mem_map.1 (ht.subset (List.mem_map_of_mem hr))
      rw [hentry, ← hn]
      exact (hrec q hq).1

/-! ### Notices and flags -/

theorem postNotice_keeps (n : Notice) (s : State) : Keeps s (postNotice n s) := by
  refine .of_notices (fun ⟨hlen, hseq, hall⟩ => ?_) (by simp) (by simp) (by simp) (by simp) (by simp)
  unfold postNotice
  split
  · rename_i hroom
    have : s.notices.queue.length < 16 := hroom
    refine ⟨(List.length_append (as := s.notices.queue)).symm ▸ this, Nat.mod_lt _ (by decide), fun p hp => ?_⟩
    rcases List.mem_append.1 hp with hp | hp
    · exact hall p hp
    · rw [List.mem_singleton.1 hp]; exact hseq
  · exact ⟨by simpa using hlen, by simpa using Nat.mod_lt _ (by decide), by simpa using hall⟩

theorem setFlag_keeps (f : Flag) (r : FlagRecord) (s : State) : Keeps s (s.setFlag f r) :=
  .of_same (by simp) (by simp) (by simp) (by simp) (by simp) (by simp)

theorem latchEvent_keeps (f : Flag) (d : Detail) (s : State) : Keeps s (latchEvent f d s) :=
  keeps_ite (fun _ => (setFlag_keeps f _ s).trans (postNotice_keeps _ _)) (fun _ => setFlag_keeps f _ s)

theorem latchCondition_keeps (f : Flag) (d : Detail) (s : State) : Keeps s (latchCondition f d s) :=
  keeps_ite (fun _ => .refl s) (fun _ => (setFlag_keeps f _ s).trans (postNotice_keeps _ _))

theorem judge_keeps (f : Flag) (s : State) : Keeps s (judge f s) :=
  keeps_ite (fun _ => latchCondition_keeps f _ s) (fun _ => .refl s)

theorem judgeDrawer_keeps (s : State) : Keeps s (judgeDrawer s) :=
  ((judge_keeps _ s).trans (judge_keeps _ _)).trans (judge_keeps _ _)

theorem clearNamed_keeps (names : Flag → Bool) (b : Bool) (s : State) : Keeps s (clearNamed names b s) :=
  .of_same (by simp) (by simp) (by simp) (by simp) (by simp) (by simp)

/-! ### The ticket store -/

theorem mem_table_of_findRecord {t : TicketNo} {r : Record} {s : State} (h : s.findRecord t = some r) :
    r ∈ s.tickets.table ∧ r.number = t :=
  ⟨List.mem_of_find?_eq_some h, by simpa using List.find?_some h⟩

/-- A record that keeps its number and the conditions on its lines takes the place of each record of the ticket. -/
theorem modifyRecord_keeps {t : TicketNo} {f : Record → Record} (s : State)
    (hn : ∀ r ∈ s.tickets.table, r.number = t → (f r).number = t)
    (hl : s.ticketsOk → ∀ r ∈ s.tickets.table, r.number = t → (f r).linesOk) :
    Keeps s (modifyRecord t f s) := by
  refine keeps_store s _ rfl (.inl rfl) Nat.le.refl (sublist_of_eq ?_) fun hs r hr => ?_
  · simp only [List.map_map]
    refine List.map_congr_left fun r hr => ?_
    by_cases e : r.number = t
    · simp [e, hn r hr e]
    · simp [e]
  · obtain ⟨q, hq, rfl⟩ := List.mem_map.1 hr
    split
    · exact hl hs q hq ‹_›
    · exact linesOk_of_ticketsOk hs hq

/-- Only marks of the record change. -/
theorem modifyMarks_keeps {t : TicketNo} {f : Record → Record} (s : State) (hn : ∀ r, (f r).number = r.number)
    (hl : ∀ r, r.linesOk → (f r).linesOk) : Keeps s (modifyRecord t f s) :=
  modifyRecord_keeps s (fun r _ h => (hn r).trans h) (fun hs r hr _ => hl r (linesOk_of_ticketsOk hs hr))

theorem removeRecord_keeps (t : TicketNo) (s : State) : Keeps s (removeRecord t s) :=
  keeps_store s _ rfl (.inl rfl) Nat.le.refl (List.filter_sublist.map _) fun hs _ hr => linesOk_of_ticketsOk hs (List.mem_filter.1 hr).1

theorem applyFilter_keeps (t : TicketNo) (s : State) : Keeps s (applyFilter t s) := by
  unfold applyFilter
  split
  · exact keeps_ite (fun _ => .refl s) (fun _ => removeRecord_keeps t s)
  · exact .refl s

theorem filterAll_keeps (s : State) : Keeps s (filterAll s) := keeps_foldl (fun s t => applyFilter_keeps t s) _ s

theorem setCustody_keeps (t : TicketNo) (c : Custody) (s : State) : Keeps s (setCustody t c s) := by
  unfold setCustody
  split
  · exact .refl s
  · have hm : Keeps s (modifyRecord t (fun r => { r with custody := c }) s) :=
      modifyMarks_keeps s (fun _ => rfl) (fun _ => id)
    exact keeps_ite (fun _ => hm.trans (applyFilter_keeps t _)) (fun _ => hm)

theorem freeTakenBy_keeps (x : Nat) (t : TicketNo) (s : State) : Keeps s (freeTakenBy x t s) := by
  unfold freeTakenBy
  split
  · split
    · exact keeps_ite (fun _ => setCustody_keeps t _ s) (fun _ => .refl s)
    · exact .refl s
  · exact .refl s

theorem modifyEntry_keeps (t : TicketNo) (f : RegEntry → RegEntry) (s : State) : Keeps s (modifyEntry t f s) :=
  keeps_ite
    (fun _ => keeps_store s _ rfl (.inl rfl) (by simp) (List.Sublist.refl _) fun hs _ hr => linesOk_of_ticketsOk hs hr) (fun _ => .refl s)

theorem setHolder_keeps (t : TicketNo) (h : Nat) (s : State) : Keeps s (setHolder t h s) := modifyEntry_keeps t _ s

theorem moveHolder_keeps (t : TicketNo) (x h : Nat) (s : State) : Keeps s (moveHolder t x h s) := modifyEntry_keeps t _ s

theorem claimRegister_keeps (s : State) : Keeps s (claimRegister s) :=
  keeps_ite (fun _ => .refl s)
    (fun _ => keeps_store s _ rfl (.inr rfl) (by simp) (List.Sublist.refl _) fun hs _ hr => linesOk_of_ticketsOk hs hr)

theorem freeTaken_keeps (t : TicketNo) (s : State) : Keeps s (freeTaken t s) := by
  unfold freeTaken
  split
  · split
    · exact setCustody_keeps t _ s
    · exact .refl s
  · exact .refl s

theorem freeHolds_keeps (x : Nat) (s : State) : Keeps s (freeHolds x s) := by
  refine keeps_store s _ rfl (.inl rfl) (by simp) (sublist_of_eq ?_) fun hs r hr => ?_
  · simp only [List.map_map]
    refine List.map_congr_left fun r _ => ?_
    simp only [Function.comp_apply]
    repeat' split
    all_goals rfl
  · obtain ⟨q, hq, rfl⟩ := List.mem_map.1 hr
    have := linesOk_of_ticketsOk hs hq
    repeat' split
    all_goals exact this

/-! ### The closed list -/

/-- The closed list, put in the terms of its invariant: within its bound, naming no ticket twice. -/
theorem closedWith_ok {t : TicketNo} {c : Closure} {l : List ClosedEntry} (h : l.length ≤ 32)
    (hn : (l.map ClosedEntry.number).Nodup) :
    (closedWith t c l).length ≤ 32 ∧ ((closedWith t c l).map ClosedEntry.number).Nodup := by
  unfold closedWith
  split
  · refine ⟨by simpa using h, ?_⟩
    rw [List.map_map, show ClosedEntry.number ∘ (fun e : ClosedEntry =>
      if e.number = t ∧ e.closure = .elsewhere then { e with closure := c } else e) = ClosedEntry.number by
        funext e; simp only [Function.comp_apply]; split <;> rfl]
    exact hn
  · rename_i habsent
    have hnew : ∀ l' : List ClosedEntry, l'.Sublist l →
        ((l' ++ [({ number := t, closure := c } : ClosedEntry)]).map ClosedEntry.number).Nodup := by
      intro l' hs
      rw [List.map_append, List.nodup_append]
      refine ⟨hn.sublist (hs.map _), by simp, ?_⟩
      intro a ha b hb hab
      obtain ⟨e, he, rfl⟩ := List.mem_map.1 ha
      simp only [List.map_cons, List.map_nil, List.mem_singleton] at hb
      exact habsent (List.any_eq_true.2 ⟨e, hs.subset he, by simp [hab, hb]⟩)
    split
    · exact ⟨by simp; omega, hnew _ (List.drop_sublist 1 l)⟩
    · rename_i hroom
      simp only [Config.closedCapacity, Nat.not_le] at hroom
      exact ⟨by simp; omega, hnew _ (List.Sublist.refl l)⟩

theorem closedWith_length_le {t : TicketNo} {c : Closure} {l : List ClosedEntry} (h : l.length ≤ 32) :
    (closedWith t c l).length ≤ 32 := by
  unfold closedWith
  repeat' split
  · simpa using h
  · simp; omega
  · rename_i hroom
    simp only [Config.closedCapacity, Nat.not_le] at hroom
    rw [List.length_append, List.length_singleton]
    exact hroom

/-- A ticket other than the closed one has an entry after the closure only if it had one before. -/
theorem closedWith_find_none {t u : TicketNo} {c : Closure} {l : List ClosedEntry} (hu : u ≠ t)
    (h : l.find? (fun e => decide (e.number = u)) = none) :
    (closedWith t c l).find? (fun e => decide (e.number = u)) = none := by
  simp only [List.find?_eq_none, decide_eq_true_eq] at h ⊢
  unfold closedWith
  intro e he
  split at he
  · obtain ⟨q, hq, rfl⟩ := List.mem_map.1 he
    have := h q hq
    split <;> exact this
  · rcases List.mem_append.1 he with he | he
    · split at he
      · exact h e (List.mem_of_mem_drop he)
      · exact h e he
    · rw [List.mem_singleton.1 he]; exact Ne.symm hu

/-- The ticket enters the closed list as its record leaves the table. -/
theorem enterClosed_keeps (t : TicketNo) (c : Closure) (s : State) :
    Keeps s (removeRecord t (s.onTickets (fun k => { k with closed := closedWith t c k.closed }))) where
  pending := rfl
  notices := id
  closed := fun ⟨hlen, hnodup⟩ => closedWith_ok hlen hnodup
  queue := id
  tickets := fun ⟨htab, hreg, hclosed, hlo, hhi, hnodup, hrec, hweigh, hctx⟩ => by
    refine ⟨?_, hreg, closedWith_length_le hclosed, hlo, hhi, hnodup.sublist (List.filter_sublist.map _), ?_, hweigh, hctx⟩
    · exact Nat.le_trans (Nat.add_le_add_right (List.length_filter_le _ _) _) htab
    · intro r hr
      obtain ⟨hmem, hne⟩ := List.mem_filter.1 hr
      exact ⟨closedWith_find_none (by simpa using hne) (hrec r hmem).1, (hrec r hmem).2⟩

theorem closeTicket_keeps (t : TicketNo) (c : Closure) (s : State) : Keeps s (closeTicket t c s) :=
  (enterClosed_keeps t c s).trans (modifyEntry_keeps t _ _)

end Sys2Proof.Machine
end

section
/-! What the operations on the transmit queue keep: the 24 places hold the frames and the closing places, and no item is empty. -/

namespace Sys2Proof.Machine

/-! ### Places -/

theorem framesQueued_eq (l : Link) : l.framesQueued = ((l.queue.map QueueItem.frames).map List.length).sum := by
  simp [Link.framesQueued, Function.comp_def]

theorem sum_map_le_of_sublist {α : Type} {f : α → Nat} {l l' : List α} (h : l.Sublist l') : (l.map f).sum ≤ (l'.map f).sum := by
  induction h with
  | slnil => exact Nat.le_refl _
  | cons a _ ih => simp only [List.map_cons, List.sum_cons]; omega
  | cons_cons a _ ih => simp only [List.map_cons, List.sum_cons]; omega

/-- The queue keeps some of its frames, item by item. -/
theorem keeps_sublist (s : State) (f : Link → Link)
    (hc : (∀ c ∈ s.link.contexts, c.inOrder) → ∀ c ∈ (f s.link).contexts, c.inOrder)
    (hq : ((f s.link).queue.map QueueItem.frames).Sublist (s.link.queue.map QueueItem.frames)) : Keeps s (s.onLink f) :=
  keeps_fewer s f hc fun hne => by
    refine ⟨?_, fun i hi => ?_⟩
    · rw [framesQueued_eq, framesQueued_eq]; exact sum_map_le_of_sublist hq
    · obtain ⟨j, hj, he⟩ := List.mem_map.1 (hq.subset (List.mem_map_of_mem hi))
      rw [← he]; exact hne j hj

/-- Items are changed in place, and not in their frames. -/
theorem keeps_same_frames (s : State) (f : Link → Link)
    (hc : (∀ c ∈ s.link.contexts, c.inOrder) → ∀ c ∈ (f s.link).contexts, c.inOrder)
    (hq : (f s.link).queue.map QueueItem.frames = s.link.queue.map QueueItem.frames) : Keeps s (s.onLink f) :=
  keeps_sublist s f hc (sublist_of_eq hq)

theorem filter_queue_keeps (p : QueueItem → Bool) (s : State) :
    Keeps s (s.onLink (fun l => { l with queue := l.queue.filter p })) :=
  keeps_sublist s _ id (List.filter_sublist.map _)

theorem map_frames_map {g : QueueItem → QueueItem} (hg : ∀ i, (g i).frames = i.frames) (q : List QueueItem) :
    (q.map g).map QueueItem.frames = q.map QueueItem.frames := by
  simp [Function.comp_def, hg]

theorem map_frames_modifyFirst {p : QueueItem → Bool} {g : QueueItem → QueueItem} (hg : ∀ i, (g i).frames = i.frames) :
    ∀ q : List QueueItem, (modifyFirst p g q).map QueueItem.frames = q.map QueueItem.frames
  | [] => rfl
  | i :: rest => by
    rw [modifyFirst]
    split
    · simp [hg]
    · simp [map_frames_modifyFirst hg rest]

theorem map_frames_modifyAt {g : QueueItem → QueueItem} (hg : ∀ i, (g i).frames = i.frames) :
    ∀ (n : Nat) (q : List QueueItem), (modifyAt g n q).map QueueItem.frames = q.map QueueItem.frames
  | _, [] => by simp [modifyAt]
  | 0, i :: rest => by simp [modifyAt, hg]
  | n + 1, i :: rest => by simp [modifyAt, map_frames_modifyAt hg n rest]

theorem map_frames_onHead {g : QueueItem → QueueItem} (hg : ∀ i, (g i).frames = i.frames) (l : Link) :
    (l.onHead g).map QueueItem.frames = l.queue.map QueueItem.frames := by
  unfold Link.onHead
  split <;> exact map_frames_modifyFirst hg _

/-! ### Queueing -/

theorem placed_perm (i : QueueItem) (q : List QueueItem) : (placed i q).Perm (i :: q) := by
  have h := List.perm_middle (a := i) (l₁ := q.takeWhile (fun x => decide (x.cls ≤ i.cls)))
    (l₂ := q.dropWhile (fun x => decide (x.cls ≤ i.cls)))
  rw [List.takeWhile_append_dropWhile] at h
  rwa [placed, List.append_assoc]

theorem enqueue_framesQueued (i : QueueItem) (s : State) :
    (enqueue i s).link.framesQueued = s.link.framesQueued + i.frames.length := by
  have := ((placed_perm i s.link.queue).map (fun i : QueueItem => i.frames.length)).sum_nat
  simp only [Link.framesQueued, enqueue, State.onLink_link, this, List.map_cons, List.sum_cons]
  omega

theorem enqueue_closingPlaces (i : QueueItem) (s : State) : (enqueue i s).closingPlaces = s.closingPlaces :=
  closingPlaces_congr rfl rfl

theorem enqueue_queueOk {i : QueueItem} {s : State} (hne : i.frames ≠ []) (hroom : s.occupied + i.frames.length ≤ 24)
    (hall : ∀ j ∈ s.link.queue, j.frames ≠ []) : (enqueue i s).queueOk := by
  refine ⟨?_, fun j hj => ?_⟩
  · rw [State.occupied, enqueue_framesQueued, enqueue_closingPlaces]
    simp only [State.occupied] at hroom
    omega
  · rcases List.mem_cons.1 ((placed_perm i s.link.queue).mem_iff.1 hj) with rfl | hj
    · exact hne
    · exact hall j hj

theorem enqueue_keeps {i : QueueItem} {s : State} (hne : i.frames ≠ []) (hroom : s.occupied + i.frames.length ≤ 24) :
    Keeps s (enqueue i s) :=
  keeps_onLink s _ id fun ⟨_, hall⟩ => enqueue_queueOk hne hroom hall

/-- One frame takes an empty place. -/
theorem enqueue_single_keeps {f : Frame} {s : State} (hfree : 0 < s.freePlaces) : Keeps s (enqueue (.single f) s) :=
  enqueue_keeps (by simp [QueueItem.single]) (by simp [State.freePlaces, Config.queuePlaces, QueueItem.single] at hfree ⊢; omega)

/-! ### Closing places -/

/-- The weigh slot's operation changes in its marks, not in what it holds toward the ticket store. -/
theorem onWeigh_ticketsOk {f : WeighOp → WeighOp} {s : State} (hk : ∀ o, (f o).kind = o.kind)
    (hr : ∀ o, (f o).reserved = o.reserved) (hs : ∀ o, (f o).claimedStep = o.claimedStep) (h : s.ticketsOk) :
    (s.onWeigh (Option.map f)).ticketsOk := by
  have hres : (s.onWeigh (Option.map f)).reservations = s.reservations := by
    simp only [State.reservations, State.onWeigh_weigh]
    cases s.weigh <;> simp [hr]
  obtain ⟨htab, hreg, hclosed, hlo, hhi, hnodup, hrec, hweigh, hctx⟩ := h
  refine ⟨by rw [hres]; exact htab, by rw [hres]; exact hreg, hclosed, hlo, hhi, hnodup, hrec, ?_, hctx⟩
  intro o ho
  simp only [State.onWeigh_weigh, Option.mem_def, Option.map_eq_some_iff] at ho
  obtain ⟨q, hq, rfl⟩ := ho
  have := hweigh q hq
  simpa only [WeighOp.storeOk, hk, hr, hs] using this

theorem setClosing_ticketsOk (slot : SlotId) (b : Bool) {s : State} (h : s.ticketsOk) : (setClosing slot b s).ticketsOk := by
  cases slot with
  | weigh => exact onWeigh_ticketsOk (fun _ => rfl) (fun _ => rfl) (fun _ => rfl) h
  | pay => exact h

theorem setClosing_false_closingPlaces (slot : SlotId) (s : State) :
    (setClosing slot false s).closingPlaces + (s.closingHeld slot).toNat = s.closingPlaces := by
  cases slot with
  | weigh =>
    simp only [setClosing, State.closingPlaces, State.closingHeld, State.onWeigh_weigh, State.onWeigh_payOp]
    cases s.weigh
    · simp
    · simp; omega
  | pay =>
    simp only [setClosing, State.closingPlaces, State.closingHeld, State.onPay_weigh, State.onPay_payOp]
    cases s.payOp
    · simp
    · simp

theorem setClosing_closingPlaces_le (slot : SlotId) (b : Bool) (s : State) :
    (setClosing slot b s).closingPlaces ≤ s.closingPlaces + 1 := by
  cases slot with
  | weigh =>
    simp only [setClosing, State.closingPlaces, State.onWeigh_weigh, State.onWeigh_payOp]
    cases s.weigh <;> cases b <;> simp <;> omega
  | pay =>
    simp only [setClosing, State.closingPlaces, State.onPay_weigh, State.onPay_payOp]
    cases s.payOp with
    | none => simp
    | some o => cases b <;> simp; omega

theorem setClosing_false_keeps (slot : SlotId) (s : State) : Keeps s (setClosing slot false s) := by
  refine .of_queue (fun ⟨ho, hne⟩ => ⟨?_, by simpa using hne⟩) (by simp) (by simp) (by simp) (setClosing_ticketsOk slot false)
  have := setClosing_false_closingPlaces slot s
  simp only [State.occupied] at ho ⊢
  rw [show (setClosing slot false s).link = s.link by simp]
  omega

/-- A place is given to the slot as its closing place. -/
theorem setClosing_true_queueOk {slot : SlotId} {s : State} (hroom : s.occupied + 1 ≤ 24)
    (hall : ∀ j ∈ s.link.queue, j.frames ≠ []) : (setClosing slot true s).queueOk := by
  have := setClosing_closingPlaces_le slot true s
  refine ⟨?_, by simpa using hall⟩
  simp only [State.occupied] at hroom ⊢
  rw [show (setClosing slot true s).link = s.link by simp]
  omega

/-- The frame that ends a hold stands on the closing place it gave up. -/
theorem sendOnClosing_keeps (slot : SlotId) (f : Frame) (s : State) : Keeps s (sendOnClosing slot f s) := by
  unfold sendOnClosing
  split
  · rename_i hheld
    refine .of_queue (fun ⟨ho, hne⟩ => enqueue_queueOk (by simp [QueueItem.single]) ?_ (by simpa using hne)) (by simp) (by simp)
      (by simp) (fun h => (ticketsOk_congr (s := setClosing slot false s) rfl rfl rfl).2 (setClosing_ticketsOk slot false h))
    have := setClosing_false_closingPlaces slot s
    simp only [hheld, Bool.toNat_true] at this
    simp only [State.occupied, QueueItem.single, List.length_singleton] at ho ⊢
    rw [show (setClosing slot false s).link = s.link by simp]
    omega
  · exact .refl s

/-! ### Bursts -/

theorem markPending_keeps (t : TicketNo) (s : State) : Keeps s (markPending t s) :=
  modifyMarks_keeps s (fun r => by split <;> rfl) (fun r h => by split <;> exact h)

theorem queueBurst_keeps {r : Record} {s s' : State} (h : queueBurst r s = some s') : Keeps s s' := by
  unfold queueBurst at h
  split at h
  · cases h
  · dsimp only at h
    split at h
    · rename_i hfit
      cases h
      have hlen : 0 < r.burst.length := by simp [Record.burst]
      exact (filter_queue_keeps _ s).trans (enqueue_keeps (List.ne_nil_of_length_pos hlen) (by
        simp only [State.freePlaces, Config.queuePlaces] at hfit
        simp only; omega))
    · cases h

theorem feed_keeps : ∀ (l : List Record) (s : State), Keeps s (feed l s)
  | [], s => .refl s
  | r :: rest, s => by
    rw [feed]
    split
    · split
      · exact (queueBurst_keeps ‹_›).trans (feed_keeps rest _)
      · exact .refl s
    · exact feed_keeps rest s

theorem feedPending_keeps (s : State) : Keeps s (feedPending s) :=
  keeps_ite (fun _ => feed_keeps _ s) (fun _ => .refl s)

/-! ### Admission and eviction -/

/-- The evicted burst leaves with its places; the other items stay in their order. -/
theorem withoutYoungest_perm {t : TicketNo} : ∀ {q q' : List QueueItem}, withoutYoungest q = some (q', t) →
    ∃ i, q'.Sublist q ∧ q.Perm (i :: q')
  | [], _, h => by cases h
  | i :: rest, q', h => by
    rw [withoutYoungest] at h
    split at h
    · rename_i l u hl
      cases h
      obtain ⟨j, hsub, hperm⟩ := withoutYoungest_perm hl
      exact ⟨j, hsub.cons_cons i, (hperm.cons i).trans (List.Perm.swap j i l)⟩
    · split at h
      · split at h
        · cases h
        · cases h
          exact ⟨i, List.sublist_cons_self i rest, List.Perm.refl _⟩
      · cases h

theorem sum_map_perm_cons {f : QueueItem → Nat} {i : QueueItem} {q q' : List QueueItem} (h : q.Perm (i :: q')) :
    (q.map f).sum = f i + (q'.map f).sum := by
  rw [(h.map f).sum_nat]; simp

/-- An item that leaves takes its places with it. -/
theorem sum_filter_lt {p : QueueItem → Bool} {q : List QueueItem} {i : QueueItem} (hi : i ∈ q) (hp : p i = true)
    (hpos : 0 < i.frames.length) :
    ((q.filter (fun i => !p i)).map (fun i => i.frames.length)).sum < (q.map (fun i => i.frames.length)).sum := by
  have hsum := (((List.filter_append_perm p q).map (fun i : QueueItem => i.frames.length)).sum_nat).symm
  rw [List.map_append, List.sum_append] at hsum
  have hle : i.frames.length ≤ ((q.filter p).map (fun i => i.frames.length)).sum :=
    le_sum_of_mem (List.mem_map_of_mem (List.mem_filter.2 ⟨hi, hp⟩))
  omega

/-- An eviction frees at least one place. -/
theorem evict_keeps {s s' : State} (h : evict s = some s') :
    Keeps s s' ∧ (s.queueOk → s'.occupied + 1 ≤ 24) := by
  unfold evict at h
  split at h
  · rename_i hany
    cases h
    refine ⟨filter_queue_keeps _ s, fun ⟨ho, hne⟩ => ?_⟩
    obtain ⟨i, hi, hidle⟩ := List.any_eq_true.1 hany
    have hlt := sum_filter_lt hi hidle (List.length_pos_iff.2 (hne i hi))
    simp only [State.occupied, Link.framesQueued] at ho ⊢
    rw [show (s.onLink (fun l => { l with queue := l.queue.filter (fun i => !i.isIdleAnnounce) })).closingPlaces
      = s.closingPlaces from rfl]
    simp only [State.onLink_link]
    omega
  · split at h
    · rename_i q t hq
      cases h
      obtain ⟨i, hsub, hperm⟩ := withoutYoungest_perm hq
      refine ⟨(keeps_sublist s _ id (hsub.map _)).trans (markPending_keeps t _), fun ⟨ho, hne⟩ => ?_⟩
      have hsum := sum_map_perm_cons (f := fun i : QueueItem => i.frames.length) hperm
      have := List.length_pos_iff.2 (hne i (hperm.mem_iff.2 (List.mem_cons_self)))
      have hcl : (markPending t (s.onLink (fun l => { l with queue := q }))).closingPlaces = s.closingPlaces := rfl
      simp only [State.occupied, Link.framesQueued, hcl, markPending_frame, State.onLink_link] at ho ⊢
      omega
    · cases h

theorem sendAsking_keeps (f : Frame) (s : State) : Keeps s (sendAsking f s) := by
  unfold sendAsking
  split
  · exact .refl s
  · split
    · exact enqueue_single_keeps ‹_›
    · split
      · rename_i s' he
        obtain ⟨hk, hroom⟩ := evict_keeps he
        have hq : s.queueOk → (enqueue (.single f) s').queueOk := fun ho =>
          enqueue_queueOk (by simp [QueueItem.single]) (hroom ho) (hk.queue ho).2
        exact ⟨hk.pending, hk.notices, hk.closed, hq, hk.tickets⟩
      · exact .refl s

theorem sendAsk_keeps (t : TicketNo) (step : Nat) (s : State) : Keeps s (sendAsk t step s) :=
  keeps_ite (fun _ => .refl s) (fun _ => keeps_ite (fun h => enqueue_single_keeps h) (fun _ => .refl s))

theorem askAgain_keeps (t : TicketNo) (s : State) : Keeps s (askAgain t s) := by
  unfold askAgain
  split
  · exact .refl s
  · exact keeps_ite (fun _ => .refl s) (fun _ => sendAsk_keeps t _ s)

/-! ### ANNOUNCE and the head -/

/-- The ANNOUNCE in the queue takes new values: one frame in place of at least one. -/
theorem renewAnnounce_keeps (s : State) :
    Keeps s (s.onLink (fun l =>
      { l with
        queue := l.queue.map (fun i =>
          if i.kind? == some .announce then { i with frames := [.announce s.announceValues] } else i) })) := by
  refine keeps_fewer s _ id fun hne => ⟨?_, fun i hi => ?_⟩
  · simp only [Link.framesQueued, List.map_map]
    refine sum_map_le fun i hi => ?_
    have := List.length_pos_iff.2 (hne i hi)
    simp only [Function.comp_apply]
    split
    · exact this
    · exact Nat.le_refl _
  · obtain ⟨j, hj, rfl⟩ := List.mem_map.1 hi
    split
    · simp
    · exact hne j hj

theorem sendAnnounce_keeps (s : State) : Keeps s (sendAnnounce s) :=
  keeps_ite (fun _ => renewAnnounce_keeps s)
    (fun _ => keeps_ite (fun h => enqueue_single_keeps h) (fun _ => .refl s))

theorem touchHead_keeps (s : State) : Keeps s (touchHead s) :=
  keeps_ite
    (fun _ => keeps_same_frames s _ id (map_frames_onHead (fun i => by split <;> rfl) s.link)) (fun _ => .refl s)

end Sys2Proof.Machine
end

section
/-! What the print queue's and the slots' operations keep: the receipts, the ends of operations, the creation of a ticket and the
commit of a weigh step. -/

namespace Sys2Proof.Machine

/-! ### Blocks that no invariant reads -/

theorem onDay_keeps (f : YardDay → YardDay) (s : State) : Keeps s (s.onDay f) := .of_same rfl rfl rfl rfl rfl rfl
theorem onScale_keeps (f : ScaleUnit → ScaleUnit) (s : State) : Keeps s (s.onScale f) := .of_same rfl rfl rfl rfl rfl rfl
theorem onPricing_keeps (f : Pricing → Pricing) (s : State) : Keeps s (s.onPricing f) := .of_same rfl rfl rfl rfl rfl rfl
theorem onDrawer_keeps (f : Drawer → Drawer) (s : State) : Keeps s (s.onDrawer f) := .of_same rfl rfl rfl rfl rfl rfl
theorem onPrinter_keeps (f : Printer → Printer) (s : State) : Keeps s (s.onPrinter f) := .of_same rfl rfl rfl rfl rfl rfl
theorem onPort_keeps (f : Port → Port) (s : State) : Keeps s (s.onPort f) := .of_same rfl rfl rfl rfl rfl rfl

theorem onTimer_keeps (slot : SlotId) (f : ClaimTimer → ClaimTimer) (s : State) : Keeps s (s.onTimer slot f) :=
  .of_same (by simp) (by simp) (by simp) (by simp) (by simp) (by simp)

/-! ### The print queue -/

theorem makeJob_keeps (k : ReceiptKind) (t : Option TicketNo) (c : Nat) (st : JobState) (ls : List Text) (s : State) :
    Keeps s (makeJob k t c st ls s) := onPrinter_keeps _ s

theorem makeReceipt_keeps (k : ReceiptKind) (t : Option TicketNo) (ls : List Text) (s : State) :
    Keeps s (makeReceipt k t ls s) :=
  keeps_ite (fun _ => makeJob_keeps k t 0 .queued ls s) (fun _ => latchEvent_keeps _ _ s)

theorem removeJob_keeps (n : Nat) (s : State) : Keeps s (removeJob n s) := onPrinter_keeps _ s

theorem fillPlaceholder_keeps (n : Nat) (ls : List Text) (s : State) : Keeps s (fillPlaceholder n ls s) := onPrinter_keeps _ s

theorem takeJobs_keeps (s : State) : Keeps s (takeJobs s) :=
  .of_same (by simp) (by simp) (by simp) (by simp) (by simp) (by simp)

theorem settleStall_keeps (s : State) : Keeps s (settleStall s) := onPrinter_keeps _ s

theorem suspendJob_keeps (b : Bool) (s : State) : Keeps s (suspendJob b s) := onPrinter_keeps _ s

theorem finishReceipt_keeps (s : State) : Keeps s (finishReceipt s) := by
  unfold finishReceipt
  split
  · exact ((removeJob_keeps _ s).trans (onPrinter_keeps _ _)).trans (postNotice_keeps _ _)
  · exact onPrinter_keeps _ s

/-! ### The ends of an operation -/

theorem stopTimer_keeps (slot : SlotId) (p : Phase) (s : State) : Keeps s (stopTimer slot p s) := onTimer_keeps slot _ s

/-- The weigh slot becomes IDLE: a closing place and a reservation are given back. -/
theorem idleWeigh_keeps (s : State) : Keeps s (s.onWeigh (fun _ => none)) := by
  refine .of_queue (fun ⟨ho, hne⟩ => ⟨?_, hne⟩) rfl rfl rfl
    (fun ⟨htab, hreg, hclosed, hlo, hhi, hnodup, hrec, _, hctx⟩ =>
      ⟨?_, ?_, hclosed, hlo, hhi, hnodup, hrec, fun _ ho => absurd ho (by simp), hctx⟩)
  · simp only [State.occupied, State.closingPlaces, State.onWeigh_weigh, State.onWeigh_payOp, State.onWeigh_link] at ho ⊢
    omega
  · exact Nat.le_trans (Nat.add_le_add_left (Nat.zero_le _) _) htab
  · exact Nat.le_trans (Nat.add_le_add_left (Nat.zero_le _) _) hreg

/-- The pay slot becomes IDLE. -/
theorem idlePay_keeps (s : State) : Keeps s (s.onPay (fun _ => none)) := by
  refine .of_queue (fun ⟨ho, hne⟩ => ⟨?_, hne⟩) rfl rfl rfl id
  simp only [State.occupied, State.closingPlaces, State.onPay_weigh, State.onPay_payOp, State.onPay_link] at ho ⊢
  omega

theorem closeSlot_keeps (slot : SlotId) (p : Phase) (s : State) : Keeps s (closeSlot slot p s) := by
  unfold closeSlot
  split
  · split
    · exact .refl s
    · have hidle := (idleWeigh_keeps s).trans (onScale_keeps (fun u => { u with context := none }) _)
      exact keeps_ite (fun _ => hidle.trans (stopTimer_keeps _ _ _)) (fun _ => hidle)
  · split
    · exact .refl s
    · have hidle := (idlePay_keeps s).trans (stopTimer_keeps .pay p _)
      split
      · exact hidle.trans (removeJob_keeps _ _)
      · exact hidle

theorem endOp_keeps (slot : SlotId) (o : Result) (l : Option LossReason) (h : Nat) (s : State) :
    Keeps s (endOp slot o l h s) := (closeSlot_keeps slot _ s).trans (postNotice_keeps _ _)

theorem releaseHold_keeps (slot : SlotId) (t : TicketNo) (s : State) : Keeps s (releaseHold slot t s) :=
  ((sendOnClosing_keeps slot _ s).trans (setCustody_keeps t _ _)).trans (setHolder_keeps t _ _)

theorem endHold_keeps (slot : SlotId) (t : TicketNo) (o : Result) (l : Option LossReason) (h : Nat) (s : State) :
    Keeps s (endHold slot t o l h s) := (releaseHold_keeps slot t s).trans (endOp_keeps slot o l h _)

theorem endCommitted_keeps (slot : SlotId) (t : TicketNo) (s : State) : Keeps s (endCommitted slot t s) :=
  (closeSlot_keeps slot _ s).trans (postNotice_keeps _ _)

theorem failCapture_keeps (o : Result) (s : State) : Keeps s (failCapture o s) := by
  unfold failCapture
  split
  · exact endHold_keeps _ _ _ _ _ s
  · exact endOp_keeps _ _ _ _ s

theorem countDay_keeps (f : DayTotals → DayTotals) (s : State) : Keeps s (countDay f s) := onDay_keeps _ s

theorem postPayable_keeps (t : TicketNo) (b : Bool) (s : State) : Keeps s (postPayable t b s) :=
  keeps_ite (fun _ => postNotice_keeps _ s) (fun _ => .refl s)

/-! ### The allocation of a serial (R2) -/

/-- The serial `k` places after `n`, 65,535 followed by 1. -/
def serialAfter (n k : Nat) : Nat := (n - 1 + k) % 65535 + 1

theorem serialAfter_zero {n : Nat} (h1 : 1 ≤ n) (h2 : n ≤ 65535) : serialAfter n 0 = n := by
  simp only [serialAfter]; omega

theorem nextSerialAfter_range {n : Nat} (h2 : n ≤ 65535) : 1 ≤ nextSerialAfter n ∧ nextSerialAfter n ≤ 65535 := by
  unfold nextSerialAfter; split <;> omega

theorem serialAfter_next {n : Nat} (h1 : 1 ≤ n) (h2 : n ≤ 65535) (k : Nat) :
    serialAfter (nextSerialAfter n) k = serialAfter n (k + 1) := by
  unfold nextSerialAfter serialAfter
  split
  · have : n = 65535 := by omega
    subst this
    omega
  · omega

theorem allocateFrom_range {s : State} : ∀ {fuel n : Nat}, 1 ≤ n → n ≤ 65535 →
    1 ≤ allocateFrom s fuel n ∧ allocateFrom s fuel n ≤ 65535
  | 0, n, h1, h2 => ⟨h1, h2⟩
  | fuel + 1, n, h1, h2 => by
    rw [allocateFrom]
    split
    · exact allocateFrom_range (nextSerialAfter_range h2).1 (nextSerialAfter_range h2).2
    · exact ⟨h1, h2⟩

/-- Where the search ends on a live serial, every serial it has tested is live. -/
theorem serialLive_of_allocateFrom {s : State} : ∀ {fuel n : Nat}, 1 ≤ n → n ≤ 65535 →
    s.serialLive (allocateFrom s fuel n) = true → ∀ k ≤ fuel, s.serialLive (serialAfter n k) = true
  | 0, n, h1, h2, h, k, hk => by
    rw [Nat.le_zero.1 hk, serialAfter_zero h1 h2]; exact h
  | fuel + 1, n, h1, h2, h, k, hk => by
    rw [allocateFrom] at h
    split at h
    · rename_i hlive
      cases k with
      | zero => rw [serialAfter_zero h1 h2]; exact hlive
      | succ k =>
        obtain ⟨h1', h2'⟩ := nextSerialAfter_range h2
        rw [← serialAfter_next h1 h2]
        exact serialLive_of_allocateFrom h1' h2' h k (by omega)
    · rename_i hdead
      exact absurd h hdead

/-- The serials that are live, with repetitions: those of the three collections. -/
def State.serialsHeld (s : State) : List Nat :=
  s.tickets.register.map RegEntry.serial ++ s.tickets.table.map (fun r => r.number.serial)
    ++ s.tickets.closed.map (fun e => e.number.serial)

theorem serialLive_mem {s : State} {n : Nat} (h : s.serialLive n = true) : n ∈ s.serialsHeld := by
  simp only [State.serialLive, Bool.or_eq_true, List.any_eq_true, decide_eq_true_eq, State.findRecord, State.closedEntry,
    List.find?_isSome] at h
  simp only [State.serialsHeld, List.mem_append, List.mem_map]
  rcases h with (⟨e, he, hn⟩ | ⟨r, hr, hn⟩) | ⟨e, he, hn⟩
  · exact .inl (.inl ⟨e, he, hn⟩)
  · exact .inl (.inr ⟨r, hr, by rw [hn]⟩)
  · exact .inr ⟨e, he, by rw [hn]⟩

/-- Fewer serials are live than the search tests, so it ends on one that is not. -/
theorem allocated_not_live {s : State} (h1 : 1 ≤ s.tickets.nextSerial) (h2 : s.tickets.nextSerial ≤ 65535)
    (hfew : s.serialsHeld.length ≤ Config.serialTests) : s.serialLive s.allocated = false := by
  refine Bool.eq_false_iff.2 fun hlive => ?_
  have hall := serialLive_of_allocateFrom h1 h2 hlive
  have hnodup : ((List.range (Config.serialTests + 1)).map (serialAfter s.tickets.nextSerial)).Nodup := by
    refine nodup_map_of_injOn (fun a ha b hb hab => ?_) List.nodup_range
    simp only [List.mem_range, Config.serialTests] at ha hb
    simp only [serialAfter] at hab
    omega
  have hsub : (List.range (Config.serialTests + 1)).map (serialAfter s.tickets.nextSerial) ⊆ s.serialsHeld := by
    intro n hn
    obtain ⟨k, hk, rfl⟩ := List.mem_map.1 hn
    exact serialLive_mem (hall k (by have := List.mem_range.1 hk; omega))
  have hle := length_le_of_nodup_subset hnodup hsub
  simp only [List.length_map, List.length_range] at hle
  omega

/-! ### The creation of a ticket -/

theorem insertEntry_length (e : RegEntry) (l : List RegEntry) : (insertEntry e l).length = l.length + 1 := by
  have := congrArg List.length (List.takeWhile_append_dropWhile (p := fun x : RegEntry => decide (x.serial < e.serial)) (l := l))
  simp only [List.length_append] at this
  simp only [insertEntry, List.length_append, List.length_singleton]
  omega

theorem closeSlot_weigh_weigh (p : Phase) (s : State) : (closeSlot .weigh p s).weigh = none := by
  cases hw : s.weigh with
  | none => simp [closeSlot, hw]
  | some o => simp only [closeSlot, hw]; split <;> simp

theorem findRecord_eq_none {t : TicketNo} {s : State} : s.findRecord t = none ↔ t ∉ s.tickets.table.map Record.number := by
  simp [State.findRecord]

/-- The place a NEW TICKET reserved takes its record, under a serial that is not live. -/
theorem storeNew_keeps {s : State} {o : WeighOp} {tag seller : Option Text} {r : Record} (hw : s.weigh = some o)
    (hk : o.kind = .newTicket tag seller) (hn : r.number = { home := s.myId, serial := s.allocated }) (hl : r.linesOk) :
    Keeps s (storeNew r (closeSlot .weigh .ended s)) := by
  have hclose := closeSlot_keeps .weigh .ended s
  refine ⟨hclose.pending, hclose.notices, hclose.closed, hclose.queue, fun hs => ?_⟩
  obtain ⟨htab, hreg, hclosed, hlo, hhi, hnodup, hrec, hweigh, hctx⟩ := hs
  have hres : s.reservations = 1 := by
    have := hweigh o hw
    simp only [WeighOp.storeOk, hk] at this
    simp [State.reservations, hw, this]
  rw [hres] at htab hreg
  have hdead : s.serialLive s.allocated = false :=
    allocated_not_live hlo hhi (by simp only [State.serialsHeld, List.length_append, List.length_map, Config.serialTests]; omega)
  simp only [State.serialLive, Bool.or_eq_false_iff, Option.isSome_eq_false_iff, Option.isNone_iff_eq_none, ← hn] at hdead
  obtain ⟨⟨_, hfind⟩, hentry⟩ := hdead
  obtain ⟨hlo', hhi'⟩ := allocateFrom_range (s := s) (fuel := Config.serialTests) hlo hhi
  have hserial : r.number.serial = s.allocated := by rw [hn]
  have hnone : (closeSlot .weigh .ended s).weigh = none := closeSlot_weigh_weigh _ s
  have hidle : (storeNew r (closeSlot .weigh .ended s)).reservations = 0 := by
    simp only [State.reservations, storeNew_frame, hnone]
  refine ⟨?_, ?_, ?_, ?_, ?_, ?_, ?_, ?_, ?_⟩
  · rw [hidle]; simp only [storeNew, State.onTickets_tickets, closeSlot_frame, List.length_append, List.length_singleton]; omega
  · rw [hidle]; simp only [storeNew, State.onTickets_tickets, closeSlot_frame, insertEntry_length]; omega
  · simpa only [storeNew, State.onTickets_tickets, closeSlot_frame] using hclosed
  · simp only [storeNew, State.onTickets_tickets, hserial]; exact (nextSerialAfter_range hhi').1
  · simp only [storeNew, State.onTickets_tickets, hserial]; exact (nextSerialAfter_range hhi').2
  · simp only [storeNew, State.onTickets_tickets, closeSlot_frame, List.map_append, List.map_cons, List.map_nil,
      List.nodup_append, List.mem_singleton]
    refine ⟨hnodup, by simp, fun a ha b hb hab => ?_⟩
    subst hb hab
    exact findRecord_eq_none.1 hfind ha
  · simp only [storeNew, State.onTickets_tickets, closeSlot_frame, List.mem_append, List.mem_singleton, State.closedEntry]
    rintro q (hq | rfl)
    · exact hrec q hq
    · exact ⟨hentry, hl⟩
  · simp [storeNew_frame, hnone]
  · simpa only [storeNew_frame, closeSlot_frame] using hctx

theorem broadcast_keeps (r : Record) (s : State) : Keeps s (broadcast r s) := by
  unfold broadcast
  split
  · exact queueBurst_keeps ‹_›
  · exact modifyMarks_keeps s (fun _ => rfl) (fun _ => id)

theorem commitNew_keeps {s : State} {o : WeighOp} {tag seller : Option Text} (w : Nat) (hw : s.weigh = some o)
    (hk : o.kind = .newTicket tag seller) : Keeps s (commitNew tag seller w s) := by
  refine keeps_ite (fun _ => endOp_keeps _ _ _ _ s) (fun _ => keeps_ite (fun _ => endOp_keeps _ _ _ _ s) (fun _ => ?_))
  have hstore : Keeps s (storeNew (newRecord s w tag seller) (closeSlot .weigh .ended s)) :=
    storeNew_keeps hw hk rfl (by simp [Record.linesOk, newRecord])
  exact ((((hstore.trans (onScale_keeps _ _)).trans (countDay_keeps _ _)).trans (broadcast_keeps _ _)).trans
    (makeReceipt_keeps _ _ _ _)).trans (postNotice_keeps _ _)

/-! ### The commit of a weigh step -/

/-- One line more, of the weight dropped since the last step, and the conditions of R6 hold on. -/
theorem withLine_linesOk {r : Record} {l : Line} {w time writer : Nat} {final : Bool} (h : r.linesOk) (hstep : r.step ≤ 7)
    (hi : l.index = r.step + 1) (hn : l.net = r.lastWeight - w) (hw : w ≤ r.lastWeight) :
    (r.withLine l w time writer final).linesOk := by
  obtain ⟨hlen, _, hidx, hsum⟩ := h
  simp only [Record.linesOk, Record.withLine, List.length_append, List.length_singleton, List.map_append, List.map_cons,
    List.map_nil, List.sum_append, List.sum_singleton, List.range_succ, hidx, hi, hn, hlen] at hsum ⊢
  refine ⟨trivial, by omega, trivial, ?_⟩
  rw [Int.natCast_add, Int.ofNat_sub hw]
  omega

theorem burstOnClosing_keeps (r : Record) (s : State) : Keeps s (burstOnClosing r s) := by
  unfold burstOnClosing
  split
  · exact (setClosing_false_keeps .weigh s).trans (queueBurst_keeps ‹_›)
  · exact (sendOnClosing_keeps .weigh _ s).trans (modifyMarks_keeps _ (fun _ => rfl) (fun _ => id))

theorem commitLine_keeps {r : Record} {l : Line} {w : Nat} {final down : Bool} {s : State}
    (h : s.ticketsOk → (r.withLine l w s.day.clock s.myId final).linesOk) : Keeps s (commitLine r l w final down s) := by
  unfold commitLine
  have hrec : Keeps s (modifyRecord r.number (fun _ =>
      { r.withLine l w s.day.clock s.myId final with pendingBroadcast := r.pendingBroadcast || down }) s) :=
    modifyRecord_keeps s (fun _ _ _ => rfl) (fun hs _ _ _ => h hs)
  have hline := (hrec.trans (modifyEntry_keeps r.number (RegEntry.onCommit (r.step + 1) final) _)).trans
    (onPricing_keeps _ _ : Keeps _ (countLineOfGrade l.grade l.paid l.amount _))
  have hcount := hline.trans (keeps_ite (c := final = true) (fun _ => countDay_keeps DayTotals.oneCompleted _) (fun _ => .refl _))
  have hburst := ((hcount.trans (postPayable_keeps r.number final _)).trans (applyFilter_keeps r.number _)).trans
    (burstOnClosing_keeps (r.withLine l w s.day.clock s.myId final) _)
  exact (hburst.trans (keeps_ite (fun _ => makeReceipt_keeps _ _ _ _) (fun _ => makeReceipt_keeps _ _ _ _))).trans
    (endCommitted_keeps _ _ _)

theorem commitLoss_eq_none {r : Record} {step : Nat} : commitLoss r step = none ↔ r.step = step ∧ r.stale = false := by
  unfold commitLoss
  by_cases h : r.step = step <;> cases hs : r.stale <;> simp [h]

theorem commitStep_keeps {s : State} {o : WeighOp} {t : TicketNo} {g d : Nat} {final : Bool} (w : Nat)
    (hw : s.weigh = some o) (hk : o.kind = .weighStep g d final) : Keeps s (commitStep o t g d final w s) := by
  unfold commitStep
  split
  · exact endOp_keeps _ _ _ _ s
  · rename_i r hr
    refine keeps_ite (fun _ => endOp_keeps _ _ _ _ s) (fun _ => keeps_ite (fun _ => endHold_keeps _ _ _ _ _ s) (fun hnet => ?_))
    split
    · exact endHold_keeps _ _ _ _ _ s
    · rename_i hloss
      obtain ⟨hstep, _⟩ := commitLoss_eq_none.1 hloss
      refine keeps_ite (fun _ => endHold_keeps _ _ _ _ _ s) (fun _ => commitLine_keeps fun hs => ?_)
      have hle : o.claimedStep ≤ 7 := by
        have := hs.2.2.2.2.2.2.2.1 o hw
        simpa [WeighOp.storeOk, hk] using this
      exact withLine_linesOk (linesOk_of_ticketsOk hs (mem_table_of_findRecord hr).1) (hstep ▸ hle) rfl rfl (by omega)

theorem deliverWeight_keeps (w : Nat) (s : State) : Keeps s (deliverWeight w s) := by
  unfold deliverWeight
  split
  · exact .refl s
  · rename_i o hw
    split
    · exact commitNew_keeps w hw ‹_›
    · exact commitStep_keeps w hw ‹_›
    · exact .refl s

/-! ### The commits of a void and of a payout -/

theorem commitVoid_keeps (slot : SlotId) (t : TicketNo) (step : Nat) (g : Grant) (s : State) :
    Keeps s (commitVoid slot t step g s) := by
  unfold commitVoid
  split
  · exact endOp_keeps _ _ _ _ s
  · split
    · exact endHold_keeps _ _ _ _ _ s
    · refine keeps_ite (fun _ => endHold_keeps _ _ _ _ _ s) (fun _ => ?_)
      refine .trans ?_ (endCommitted_keeps _ _ _)
      refine .trans ?_ (countDay_keeps _ _)
      refine .trans ?_ (closeTicket_keeps _ _ _)
      refine .trans ?_ (makeReceipt_keeps _ _ _ _)
      exact keeps_ite (fun _ => sendOnClosing_keeps slot _ s) (fun _ => sendAsking_keeps _ s)

/-- The pay slot's operation changes, and not in its closing place. -/
theorem onPay_keeps {o o' : PayOp} {s : State} (ho : s.payOp = some o) (hc : o'.closing = o.closing) :
    Keeps s (s.onPay (fun _ => some o')) := by
  refine .of_queue (fun ⟨hocc, hne⟩ => ⟨?_, hne⟩) rfl rfl rfl id
  simp only [State.occupied, State.closingPlaces, State.onPay_weigh, State.onPay_payOp, State.onPay_link, ho, hc] at hocc ⊢
  exact hocc

theorem withOffer_keeps {o : PayOp} {s : State} (f : Offer) (ms : Nat) (ho : s.payOp = some o) :
    Keeps s (s.onPay (fun _ => some (o.withOffer f ms))) := onPay_keeps ho rfl

theorem grantPay_keeps {o : PayOp} {s : State} (ho : s.payOp = some o) : Keeps s (grantPay o s) := by
  unfold grantPay
  split
  · exact endOp_keeps _ _ _ _ s
  · split
    · exact endHold_keeps _ _ _ _ _ s
    · refine keeps_ite (fun _ => endHold_keeps _ _ _ _ _ s) (fun _ => ?_)
      refine .trans ?_ (postNotice_keeps _ _)
      exact keeps_ite (fun _ => (withOffer_keeps _ _ ho).trans (onDrawer_keeps _ _)) (fun _ => withOffer_keeps _ _ ho)

theorem settleVoucher_keeps (o : PayOp) (r : Record) (f : Offer) (s : State) : Keeps s (settleVoucher o r f s) := by
  cases h : o.placeholder with
  | some n => simpa only [settleVoucher, h] using fillPlaceholder_keeps n _ s
  | none => simpa only [settleVoucher, h] using makeReceipt_keeps .voucher (some r.number) _ s

theorem commitPay_keeps (o : PayOp) (r : Record) (f : Offer) (s : State) : Keeps s (commitPay o r f s) := by
  unfold commitPay
  refine .trans ?_ (judgeDrawer_keeps _)
  refine .trans ?_ (stopTimer_keeps _ _ _)
  refine .trans ?_ (idlePay_keeps _)
  refine .trans ?_ (closeTicket_keeps _ _ _)
  refine .trans ?_ (keeps_ite (fun _ => sendOnClosing_keeps .pay _ _) (fun _ => sendAsking_keeps _ _))
  exact (settleVoucher_keeps o r f s).trans (onDrawer_keeps _ _)

theorem endOffer_keeps (t : TicketNo) (l : LossReason) (s : State) : Keeps s (endOffer t l s) := by
  unfold endOffer
  split
  · exact keeps_ite (fun _ => endHold_keeps _ _ _ _ _ s) (fun _ => .refl s)
  · exact .refl s

end Sys2Proof.Machine
end

section
/-! What the claim engine, the link states, the reception and the sending of frames keep. -/

namespace Sys2Proof.Machine

/-! ### Claims and grants -/

/-- The grant is noted in the slot's operation, which stays as it is toward the queue and the store. -/
theorem noteGrant_keeps (slot : SlotId) (g : Grant) (s : State) : Keeps s (noteGrant slot g s) := by
  have hcl : (noteGrant slot g s).closingPlaces = s.closingPlaces := by
    cases slot with
    | weigh =>
      simp only [noteGrant, State.closingPlaces, State.onWeigh_weigh, State.onWeigh_payOp]
      cases s.weigh <;> rfl
    | pay =>
      simp only [noteGrant, State.closingPlaces, State.onPay_weigh, State.onPay_payOp]
      cases s.payOp <;> rfl
  refine .of_queue (queueOk_congr (by simp) hcl).2 (by simp) (by simp) (by simp) fun h => ?_
  cases slot with
  | weigh => exact onWeigh_ticketsOk (fun _ => rfl) (fun _ => rfl) (fun _ => rfl) h
  | pay => exact h

theorem openCapture_keeps (k : CaptureKind) (s : State) : Keeps s (openCapture k s) := onScale_keeps _ s

theorem proceed_keeps (slot : SlotId) (sub : Subject) (s : State) : Keeps s (proceed slot sub s) := by
  unfold proceed
  split
  · split
    · exact .refl s
    · split
      · exact openCapture_keeps _ s
      · exact commitVoid_keeps _ _ _ _ s
      · exact .refl s
  · split
    · exact .refl s
    · exact keeps_ite (fun _ => commitVoid_keeps _ _ _ _ s) (fun _ => grantPay_keeps ‹_›)

theorem granted_keeps (slot : SlotId) (sub : Subject) (g : Grant) (s : State) : Keeps s (granted slot sub g s) := by
  refine .trans ?_ (proceed_keeps _ _ _)
  refine .trans ?_ (noteGrant_keeps _ _ _)
  refine .trans ?_ (setHolder_keeps _ _ _)
  refine .trans ?_ (setCustody_keeps _ _ _)
  exact onTimer_keeps _ _ s

theorem claimRoute_byFrame {t : TicketNo} {s : State} (h : s.claimRoute t = .byFrame) : 0 < s.freePlaces := by
  unfold State.claimRoute at h
  dsimp only at h
  split at h
  · split at h
    · split at h
      · assumption
      · cases h
    · cases h
  · split at h <;> cases h
  · split at h <;> cases h
  · cases h
  · cases h

/-- The operation that the claim is made for holds no closing place yet, so the CLAIM finds the place the route saw. -/
theorem requestClaim_keeps {slot : SlotId} {sub : Subject} {open_ : State → State} {s : State} (h : Keeps s (open_ s))
    (hocc : (open_ s).occupied = s.occupied) : Keeps s (requestClaim slot sub open_ s).2 := by
  unfold requestClaim
  split
  · exact .refl s
  · rename_i hroute
    have hfree := claimRoute_byFrame hroute
    refine .trans ?_ (enqueue_keeps (by simp [claimItem, QueueItem.single]) ?_)
    · exact (h.trans (setCustody_keeps _ _ _)).trans (onTimer_keeps _ _ _)
    · have hsame : ((setCustody sub.ticket (.claiming slot sub.purpose) (open_ s)).onTimer slot
          (fun _ => { phase := .queued, subject := some sub, count := none })).occupied = s.occupied := by
        rw [← hocc]
        simp only [State.occupied, State.closingPlaces, State.onTimer_link, State.onTimer_weigh, State.onTimer_payOp,
          setCustody_frame]
      rw [hsame]
      simp only [State.freePlaces, Config.queuePlaces] at hfree
      simp only [claimItem, QueueItem.single, List.length_singleton]
      omega
  · exact h.trans (granted_keeps _ _ _ _)

/-! ### The claim's frame -/

theorem withdrawClaim_keeps (slot : SlotId) (s : State) : Keeps s (withdrawClaim slot s) := filter_queue_keeps _ s

/-- The place of the delivered CLAIM becomes the closing place. -/
theorem claimDelivered_keeps {s t : State} (slot : SlotId) (h : Keeps s t) (hroom : s.queueOk → t.occupied + 1 ≤ 24) :
    Keeps s (claimDelivered slot t) := by
  refine .trans ⟨?_, ?_, ?_, ?_, ?_⟩ (onTimer_keeps slot _ (setClosing slot true t))
  · simpa using h.pending
  · simpa [State.noticesOk] using h.notices
  · simpa [State.closedOk] using h.closed
  · exact fun hs => setClosing_true_queueOk (hroom hs) (h.queue hs).2
  · exact fun hs => setClosing_ticketsOk slot true (h.tickets hs)

theorem claimDropped_keeps (slot : SlotId) (s : State) : Keeps s (claimDropped slot s) := by
  unfold claimDropped
  split
  · exact (setCustody_keeps _ _ s).trans (endOp_keeps _ _ _ _ _)
  · exact .refl s

theorem windowExpired_keeps (slot : SlotId) (s : State) : Keeps s (windowExpired slot s) := by
  unfold windowExpired
  split
  · exact granted_keeps _ _ _ s
  · exact .refl s

/-- The RELEASE of a cancelled claim stands where its CLAIM stood. -/
theorem releaseForClaim_keeps {slot : SlotId} {s : State} (t : TicketNo)
    (h : s.link.queue.any (fun i => decide (i.slot = some slot)) = true) :
    Keeps s (enqueue (.single (.release t)) (withdrawClaim slot s)) := by
  have hw := withdrawClaim_keeps slot s
  refine ⟨hw.pending, hw.notices, hw.closed, fun hs => ?_, hw.tickets⟩
  obtain ⟨i, hi, hslot⟩ := List.any_eq_true.1 h
  have hlt := sum_filter_lt (p := fun i => decide (i.slot = some slot)) hi hslot (List.length_pos_iff.2 (hs.2 i hi))
  have hqueue : (withdrawClaim slot s).link.queue = s.link.queue.filter (fun i => !decide (i.slot = some slot)) := by
    simp [withdrawClaim]
  have hcl : (withdrawClaim slot s).closingPlaces = s.closingPlaces := rfl
  refine enqueue_queueOk (by simp [QueueItem.single]) ?_ (hw.queue hs).2
  have ho := hs.1
  simp only [State.occupied, Link.framesQueued, hqueue, hcl, QueueItem.single, List.length_singleton] at ho ⊢
  omega

theorem cancelClaim_keeps (slot : SlotId) (t : TicketNo) (s : State) : Keeps s (cancelClaim slot t s) := by
  unfold cancelClaim
  refine .trans ?_ (endOp_keeps _ _ _ _ _)
  have hfree : ∀ u, Keeps s u → ∀ c : Bool,
      Keeps s (if c then setCustody t .free u else setHolder t 0 (setCustody t .free u)) := fun u hu c =>
    keeps_ite (fun _ => hu.trans (setCustody_keeps _ _ _))
      (fun _ => (hu.trans (setCustody_keeps _ _ _)).trans (setHolder_keeps _ _ _))
  refine hfree _ ?_ _
  refine keeps_ite (fun _ => withdrawClaim_keeps slot s) (fun _ => keeps_ite (fun hsent => ?_) (fun _ => ?_))
  · refine releaseForClaim_keeps t ?_
    obtain ⟨i, hi, hslot⟩ := List.any_eq_true.1 hsent
    exact List.any_eq_true.2 ⟨i, hi, (Bool.and_eq_true_iff.1 hslot).1⟩
  · exact (withdrawClaim_keeps slot s).trans (sendOnClosing_keeps slot _ _)

/-! ### The stale mark and closures -/

theorem markStale_keeps (t : TicketNo) (s : State) : Keeps s (markStale t s) := by
  unfold markStale
  split
  · exact .refl s
  · refine keeps_ite (fun _ => .refl s) (fun _ => ?_)
    refine .trans ?_ (endOffer_keeps t _ _)
    refine .trans ?_ (sendAsk_keeps t _ _)
    exact modifyMarks_keeps s (fun _ => rfl) (fun _ => id)

theorem markIfBehind_keeps (t : TicketNo) (step : Nat) (s : State) : Keeps s (markIfBehind t step s) := by
  unfold markIfBehind
  split
  · exact .refl s
  · exact keeps_ite (fun _ => markStale_keeps t s) (fun _ => .refl s)

theorem endByClosure_keeps (slot : SlotId) (t : TicketNo) (s : State) : Keeps s (endByClosure slot t s) :=
  keeps_ite (fun _ => (withdrawClaim_keeps slot s).trans (endOp_keeps _ _ _ _ _)) (fun _ => .refl s)

theorem endAllByClosure_keeps (t : TicketNo) (s : State) : Keeps s (endAllByClosure t s) :=
  (endByClosure_keeps .weigh t s).trans (endByClosure_keeps .pay t _)

theorem observeClosure_keeps (t : TicketNo) (c : Closure) (s : State) : Keeps s (observeClosure t c s) :=
  (closeTicket_keeps t c s).trans
    (.trans (keeps_ite (fun _ => postNotice_keeps _ _) (fun _ => .refl _)) (endAllByClosure_keeps t _))

/-! ### Judging peers' frames -/

theorem object_keeps (t : TicketNo) (x h : Nat) (reason : ObjectReason) (s : State) : Keeps s (object t x h reason s) :=
  keeps_ite (fun _ => sendAsking_keeps _ s) (fun _ => .refl s)

theorem takenBy_keeps (x : Nat) (t : TicketNo) (p : Purpose) (s : State) : Keeps s (takenBy x t p s) :=
  (setCustody_keeps _ _ s).trans (setHolder_keeps _ _ _)

theorem judgeAgainstRecord_keeps (x : Nat) (t : TicketNo) (p : Purpose) (step : Nat) (r : Record) (s : State) :
    Keeps s (judgeAgainstRecord x t p step r s) := by
  have hobject (h : Nat) (reason : ObjectReason) := object_keeps t x h reason s
  unfold judgeAgainstRecord
  split
  · exact keeps_ite (fun _ => hobject _ _) (fun _ => takenBy_keeps x t p s)
  · exact keeps_ite (fun _ => hobject _ _) (fun _ => keeps_ite (fun _ => hobject _ _) (fun _ => takenBy_keeps x t p s))
  · exact keeps_ite
      (fun _ => keeps_ite (fun _ => hobject _ _)
        (fun _ => ((withdrawClaim_keeps _ s).trans (takenBy_keeps x t p _)).trans (endOp_keeps _ _ _ _ _)))
      (fun _ => hobject _ _)
  · exact hobject _ _

theorem judgeAgainstEntry_keeps (x : Nat) (t : TicketNo) (step : Nat) (e : RegEntry) (s : State) :
    Keeps s (judgeAgainstEntry x t step e s) :=
  keeps_ite (fun _ => object_keeps _ _ _ _ s) (fun _ => keeps_ite (fun _ => object_keeps _ _ _ _ s) (fun _ => setHolder_keeps t x s))

theorem judgeClaim_keeps (x : Nat) (t : TicketNo) (p : Purpose) (step : Nat) (s : State) :
    Keeps s (judgeClaim x t p step s) := by
  refine .trans (keeps_ite (fun _ => .refl s) (fun _ => keeps_ite (fun _ => object_keeps _ _ _ _ s) (fun _ => ?_)))
    (markIfBehind_keeps t step _)
  split
  · exact judgeAgainstRecord_keeps _ _ _ _ _ s
  · exact judgeAgainstEntry_keeps _ _ _ _ s
  · exact .refl s

theorem yieldTo_keeps (t : TicketNo) (h : Nat) (p : Purpose) (s : State) : Keeps s (yieldTo t h p s) :=
  keeps_ite (fun _ => takenBy_keeps h t p s) (fun _ => (setCustody_keeps _ _ s).trans (setHolder_keeps _ _ _))

theorem obeyInWindow_keeps (slot : SlotId) (t : TicketNo) (p : Purpose) (h : Nat) (reason : ObjectReason) (s : State) :
    Keeps s (obeyInWindow slot t p h reason s) := by
  cases reason with
  | held => exact (yieldTo_keeps t h p s).trans (endOp_keeps _ _ _ _ _)
  | stale => exact ((setCustody_keeps t _ s).trans (endOp_keeps _ _ _ _ _)).trans (markStale_keeps t _)
  | closed => exact ((closeTicket_keeps t _ s).trans (endOp_keeps _ _ _ _ _)).trans (endAllByClosure_keeps t _)

theorem obeyInHold_keeps (slot : SlotId) (t : TicketNo) (h : Nat) (reason : ObjectReason) (s : State) :
    Keeps s (obeyInHold slot t h reason s) := by
  cases reason with
  | held => exact endHold_keeps _ _ _ _ _ s
  | stale => exact (endHold_keeps _ _ _ _ _ s).trans (markStale_keeps t _)
  | closed => exact ((closeTicket_keeps t _ s).trans (endOp_keeps _ _ _ _ _)).trans (endAllByClosure_keeps t _)

theorem closeUnknown_keeps (t : TicketNo) (s : State) : Keeps s (closeUnknown t s) :=
  keeps_ite (fun _ => closeTicket_keeps t _ s) (fun _ => modifyEntry_keeps t _ s)

theorem meetCommitted_keeps (t : TicketNo) (o : Nat) (reason : ObjectReason) (s : State) :
    Keeps s (meetCommitted t o reason s) := by
  have hlatch := latchEvent_keeps .conflict (.conflict t o reason) s
  cases reason with
  | held => exact hlatch
  | stale => exact hlatch.trans (markStale_keeps t _)
  | closed => exact (hlatch.trans (closeUnknown_keeps t _)).trans (endAllByClosure_keeps t _)

/-- An OBJECT HELD moves the custody that the claimant's hold has in this station's copy. -/
theorem observeObject_keeps (t : TicketNo) (c h : Nat) (reason : ObjectReason) (s : State) :
    Keeps s (observeObject t c h reason s) := by
  cases reason with
  | closed => exact keeps_ite (fun _ => observeClosure_keeps t _ s) (fun _ => modifyEntry_keeps t _ s)
  | stale => exact (freeTakenBy_keeps c t s).trans (moveHolder_keeps t c 0 _)
  | held =>
    refine .trans ?_ (moveHolder_keeps t c _ _)
    split
    · split
      · exact keeps_ite (fun _ => keeps_ite (fun _ => setCustody_keeps t _ s) (fun _ => setCustody_keeps t _ s)) (fun _ => .refl s)
      · exact .refl s
    · exact .refl s

theorem disownHold_keeps (t : TicketNo) (s : State) : Keeps s (disownHold t s) := by
  have hfreed := (freeTaken_keeps t s).trans (setHolder_keeps t 0 _)
  exact keeps_ite (fun _ => hfreed.trans (sendAsking_keeps _ _)) (fun _ => hfreed)

theorem judgeObject_keeps (o : Nat) (t : TicketNo) (c h : Nat) (reason : ObjectReason) (step : Nat) (s : State) :
    Keeps s (judgeObject o t c h reason step s) := by
  unfold judgeObject
  refine .trans ?_ (markIfBehind_keeps t step _)
  have hdisown : ∀ u, Keeps s u → Keeps s (if reason = .held ∧ h = s.myId ∧ s.holdsNone t = true then disownHold t u else u) :=
    fun u hu => keeps_ite (fun _ => hu.trans (disownHold_keeps t u)) (fun _ => hu)
  refine hdisown _ (keeps_ite (fun _ => ?_) (fun _ => observeObject_keeps t c h reason s))
  split
  · exact obeyInWindow_keeps _ _ _ _ _ s
  · exact obeyInHold_keeps _ _ _ _ s
  · exact meetCommitted_keeps t o reason s
  · exact observeObject_keeps t c h reason s

theorem judgeRelease_keeps (x : Nat) (t : TicketNo) (s : State) : Keeps s (judgeRelease x t s) :=
  (freeTakenBy_keeps x t s).trans (moveHolder_keeps t x 0 _)

/-! ### The link states -/

theorem enterSending_keeps (st : LinkState) (s : State) : Keeps s (enterSending st s) :=
  (keeps_link_same s _ rfl rfl).trans (feedPending_keeps _)

theorem removed_keeps (i : QueueItem) (s : State) : Keeps s (removed i s) := by
  unfold removed
  split
  · exact claimDropped_keeps _ s
  · exact markPending_keeps _ s
  · exact .refl s

theorem sortQueue_keeps (s : State) : Keeps s (sortQueue s) := by
  refine .trans (keeps_sublist s _ id ?_) (keeps_foldl (fun s i => removed_keeps i s) _ _)
  dsimp only
  rw [map_frames_map (g := QueueItem.held) (fun _ => rfl)]
  exact List.filter_sublist.map _

theorem enterDown_keeps (s : State) : Keeps s (enterDown s) :=
  ((keeps_link_same s _ rfl rfl).trans (judge_keeps _ _)).trans (sortQueue_keeps _)

theorem enterSilent_keeps (how : IdConflictHow) (s : State) : Keeps s (enterSilent how s) :=
  ((keeps_same_frames s _ id (map_frames_map (g := fun i => { i with onWire := false }) (fun _ => rfl) _)).trans (latchCondition_keeps _ _ _)).trans (sortQueue_keeps _)

theorem rejoin_keeps (s : State) : Keeps s (rejoin s) := by
  refine .trans (keeps_sublist s _ (fun _ _ hc => absurd hc (by simp)) ?_) (keeps_foldl (fun s i => removed_keeps i s) _ _)
  dsimp only
  rw [map_frames_map (g := fun i => { i.held with onWire := false }) (fun _ => rfl)]
  exact List.filter_sublist.map _

/-! ### Reception -/

theorem postPeer_keeps (x : Nat) (c : PeerChange) (s : State) : Keeps s (postPeer x c s) := by
  unfold postPeer
  split
  · exact postNotice_keeps _ s
  · exact .refl s

theorem modifyPeer_keeps (x : Nat) (f : Peer → Peer) (s : State) : Keeps s (modifyPeer x f s) := keeps_link_same s _ rfl rfl

theorem hearPeer_keeps (x : Nat) (s : State) : Keeps s (hearPeer x s) := by
  unfold hearPeer
  split
  · exact modifyPeer_keeps x _ s
  · exact keeps_link_same s _ rfl rfl

theorem refreshPeer_keeps (x : Nat) (s : State) : Keeps s (refreshPeer x s) := by
  have hposted := (hearPeer_keeps x s).trans (postPeer_keeps x .present _)
  exact keeps_ite (fun _ => hearPeer_keeps x s) (fun _ => keeps_ite (fun _ => hposted.trans (enterSending_keeps .up _))
    (fun _ => hposted.trans (keeps_link_same _ _ rfl rfl)))

theorem dropContext_keeps (x : Nat) (s : State) : Keeps s (dropContext x s) :=
  keeps_sublist s _ (fun h c hc => h c ((List.mem_filter.1 hc).1)) (List.Sublist.refl _)

theorem setContext_keeps {c : Reassembly} (s : State) (hc : s.ticketsOk → c.inOrder) : Keeps s (setContext c s) := by
  refine .of_queue id rfl rfl rfl fun hs => ?_
  obtain ⟨htab, hreg, hclosed, hlo, hhi, hnodup, hrec, hweigh, hctx⟩ := id hs
  refine ⟨htab, hreg, hclosed, hlo, hhi, hnodup, hrec, hweigh, fun d hd => ?_⟩
  rcases List.mem_append.1 hd with hd | hd
  · exact hctx d (List.mem_filter.1 hd).1
  · rw [List.mem_singleton.1 hd]; exact hc hs

theorem loseBurst_keeps (x : Nat) (t : TicketNo) (s : State) : Keeps s (loseBurst x t s) := by
  have hlatch := latchEvent_keeps .reassemblyLost (.reassembly x t) s
  exact keeps_ite (fun _ => hlatch) (fun _ => (hlatch.trans (markStale_keeps t _)).trans (freeTakenBy_keeps x t _))

theorem breakContext_keeps (x : Nat) (s : State) : Keeps s (breakContext x s) := by
  unfold breakContext
  split
  · exact (dropContext_keeps x s).trans (loseBurst_keeps x _ _)
  · exact .refl s

/-- The record of a whole burst that satisfies R6 has its lines in order. -/
theorem toRecord_linesOk {c : Reassembly} (hc : c.inOrder) (h : c.consistent = true) (old : List Line) (k : Custody) :
    (c.toRecord old k).linesOk := by
  simp only [Reassembly.consistent, Bool.and_eq_true, decide_eq_true_eq, Config.lineCapacity] at h
  obtain ⟨⟨⟨hlen, hcap⟩, hsum⟩, _⟩ := h
  simp only [Record.linesOk, Reassembly.toRecord, List.length_map, List.map_map, Function.comp_def]
  refine ⟨hlen, hlen ▸ of_decide_eq_true hcap, hc, ?_⟩
  rw [← hsum]
  exact cast_sum_map Line.net c.lines

/-- A record of a ticket that no collection knows takes a free place of the table. -/
theorem appendRecord_keeps {r : Record} {s : State} (hroom : s.tableRoom = true) (hf : s.findRecord r.number = none)
    (hclosed : s.closedEntry r.number = none) (hl : s.ticketsOk → r.linesOk) : Keeps s (appendRecord r s) := by
  refine ⟨rfl, id, id, id, fun hs => ?_⟩
  obtain ⟨htab, hreg, hcl, hlo, hhi, hnodup, hrec, hweigh, hctx⟩ := id hs
  have hroom := of_decide_eq_true hroom
  simp only [Config.tableCapacity] at hroom
  have hres : (appendRecord r s).reservations = s.reservations := rfl
  refine ⟨?_, hreg, hcl, hlo, hhi, ?_, ?_, hweigh, hctx⟩
  · rw [hres]; simp only [appendRecord, State.onTickets_tickets, List.length_append, List.length_singleton]; omega
  · simp only [appendRecord, State.onTickets_tickets, List.map_append, List.map_cons, List.map_nil, List.nodup_append,
      List.mem_singleton]
    refine ⟨hnodup, by simp, fun a ha b hb hab => ?_⟩
    subst hb hab
    exact findRecord_eq_none.1 hf ha
  · intro q hq
    rcases List.mem_append.1 hq with hq | hq
    · exact hrec q hq
    · rw [List.mem_singleton.1 hq]; exact ⟨hclosed, hl hs⟩

/-- A change of the ticket store after `s₀`, of no closed list entry, with what `s₀` alone says. -/
theorem Keeps.onTickets {s₀ s : State} (h : Keeps s₀ s) (f : Tickets → Tickets) (hc : (f s.tickets).closed = s.tickets.closed)
    (ht : s₀.ticketsOk → (s.onTickets f).ticketsOk) : Keeps s₀ (s.onTickets f) where
  pending := h.pending
  notices := h.notices
  closed := (closedOk_congr (s := s) (t := s.onTickets f) hc).2 ∘ h.closed
  queue := h.queue
  tickets := ht

theorem insertBurst_keeps {c : Reassembly} {s₀ s : State} (h₀ : Keeps s₀ s) (hc : s₀.ticketsOk → c.inOrder)
    (h : c.consistent = true) (hf : s.findRecord c.head.ticket = none) (hclosed : s.closedEntry c.head.ticket = none) :
    Keeps s₀ (insertBurst c s) := by
  refine keeps_ite (fun _ => keeps_ite (fun hroom => ?_) (fun _ => h₀.trans (latchEvent_keeps _ _ s))) (fun _ => h₀)
  refine .trans (h₀.onTickets _ rfl fun hs => ?_) (postPayable_keeps _ _ _)
  exact (appendRecord_keeps hroom hf hclosed (fun _ => toRecord_linesOk (hc hs) h [] .free)).tickets (h₀.tickets hs)

theorem replaceRecord_keeps {c : Reassembly} {old : Record} {s₀ s : State} (h₀ : Keeps s₀ s) (hc : s₀.ticketsOk → c.inOrder)
    (h : c.consistent = true) : Keeps s₀ (replaceRecord c old s) := by
  unfold replaceRecord
  refine .trans ?_ (postPayable_keeps _ _ _)
  have hmod : Keeps s₀ (modifyRecord c.head.ticket (fun _ => c.toRecord old.lines old.custody) s) :=
    h₀.onTickets _ rfl fun hs =>
      (modifyRecord_keeps s (fun _ _ _ => rfl) (fun _ _ _ _ => toRecord_linesOk (hc hs) h _ _)).tickets (h₀.tickets hs)
  have hput := hmod.trans (applyFilter_keeps c.head.ticket _)
  exact keeps_ite (fun _ => hput) (fun _ => hput.trans (endOffer_keeps _ _ _))

theorem closedEntry_of_isClosed {t : TicketNo} {s : State} (h : ¬ s.isClosed t = true) : s.closedEntry t = none := by
  simp only [State.isClosed, Bool.or_eq_true, not_or] at h
  simpa using h.1

theorem storeBurst_keeps {c : Reassembly} {s₀ s : State} (h₀ : Keeps s₀ s) (hc : s₀.ticketsOk → c.inOrder)
    (h : c.consistent = true) : Keeps s₀ (storeBurst c s) := by
  unfold storeBurst
  have hentry := (h₀.trans (freeTakenBy_keeps c.peer c.head.ticket s)).trans
    (modifyEntry_keeps c.head.ticket (RegEntry.onBurst c.head.step c.head.life) _)
  refine keeps_ite (fun _ => hentry) (fun hopen => ?_)
  split
  · exact insertBurst_keeps hentry hc h ‹_› (closedEntry_of_isClosed hopen)
  · exact keeps_ite (fun _ => replaceRecord_keeps hentry hc h) (fun _ => hentry)

theorem acceptBurst_keeps {c : Reassembly} {s₀ s : State} (h₀ : Keeps s₀ s) (hc : s₀.ticketsOk → c.inOrder) :
    Keeps s₀ (acceptBurst c s) :=
  keeps_ite (fun h => keeps_ite (fun _ => h₀) (fun _ => storeBurst_keeps h₀ hc h)) (fun _ => h₀.trans (loseBurst_keeps _ _ s))

theorem collect_keeps {c : Reassembly} {s₀ s : State} (h₀ : Keeps s₀ s) (hc : s₀.ticketsOk → c.inOrder) :
    Keeps s₀ (collect c s) :=
  keeps_ite (fun _ => acceptBurst_keeps (h₀.trans (dropContext_keeps _ s)) hc) (fun _ =>
    ⟨h₀.pending, h₀.notices, h₀.closed, h₀.queue, fun hs => (setContext_keeps s (fun _ => hc hs)).tickets (h₀.tickets hs)⟩)

/-- The next expected frame keeps the lines in order. -/
theorem add_inOrder {c c' : Reassembly} {f : Frame} (hc : c.inOrder) (h : c.add f = some c') : c'.inOrder := by
  cases f with
  | line t l =>
    simp only [Reassembly.add] at h
    split at h
    · rename_i hnext
      cases h
      simp only [Reassembly.inOrder, List.map_append, List.length_append, List.length_singleton, List.range_succ, hc,
        List.map_cons, List.map_nil, hnext.2.1]
    · cases h
  | note t k text =>
    simp only [Reassembly.add] at h
    split at h
    · cases k <;> cases h <;> exact hc
    · cases h
  | _ => cases h

theorem contextOf_inOrder {x : Nat} {c : Reassembly} {s : State} (hs : s.ticketsOk) (h : s.contextOf x = some c) :
    c.inOrder := hs.2.2.2.2.2.2.2.2 c (List.mem_of_find?_eq_some h)

theorem reassemble_keeps (x : Nat) (f : Frame) (s : State) : Keeps s (reassemble x f s) := by
  have hother : Keeps s (match s.contextOf x with
      | none => s
      | some c =>
        match c.add f with
        | some c' => collect c' s
        | none => breakContext x s) := by
    split
    · exact .refl s
    · rename_i c hctx
      split
      · rename_i c' hadd
        exact collect_keeps (.refl s) (fun hs => add_inOrder (contextOf_inOrder hs hctx) hadd)
      · exact breakContext_keeps x s
  cases f with
  | head h => exact collect_keeps (breakContext_keeps x s) (fun _ => rfl)
  | _ => exact hother

/-! ### ASK and ANNOUNCE -/

theorem answerAsk_keeps (t : TicketNo) (step : Nat) (s : State) : Keeps s (answerAsk t step s) := by
  unfold answerAsk
  split
  · refine keeps_ite (fun _ => ?_) (fun _ => .refl s)
    split
    · exact queueBurst_keeps ‹_›
    · exact .refl s
  · exact .refl s

theorem hearAnnounce_keeps (x : Nat) (a : AnnounceValues) (s : State) : Keeps s (hearAnnounce x a s) := by
  unfold hearAnnounce
  split
  · exact .refl s
  · refine .trans ?_ (keeps_ite (fun _ => postPeer_keeps x .restart _) (fun _ => .refl _))
    refine .trans ?_ (keeps_ite (fun _ => .refl _) (fun _ => postPeer_keeps x .dayState _))
    refine .trans ?_ (keeps_ite (fun _ => .refl _) (fun _ => postPeer_keeps x .role _))
    exact modifyPeer_keeps x _ s

/-! ### The whole reception -/

theorem deliver_keeps (x : Nat) (f : Frame) (s : State) : Keeps s (deliver x f s) := by
  cases f with
  | announce a =>
    exact keeps_ite (fun _ => (hearAnnounce_keeps x a s).trans (freeHolds_keeps x _)) (fun _ => hearAnnounce_keeps x a s)
  | claim t p step => exact keeps_ite (fun _ => .refl s) (fun _ => judgeClaim_keeps x t p step s)
  | object t c h reason step => exact keeps_ite (fun _ => .refl s) (fun _ => judgeObject_keeps x t c h reason step s)
  | release t => exact keeps_ite (fun _ => .refl s) (fun _ => judgeRelease_keeps x t s)
  | closed t how cash transfer seller => exact keeps_ite (fun _ => .refl s) (fun _ => observeClosure_keeps t _ s)
  | ask t step => exact keeps_ite (fun _ => .refl s) (fun _ => answerAsk_keeps t step s)
  | head h => exact .refl s
  | line t l => exact .refl s
  | note t k text => exact .refl s

theorem driveAck_keeps (good : Bool) (s : State) : Keeps s (driveAck good s) := keeps_link_same s _ rfl rfl

theorem receive_keeps (k : FrameKind) (x : Nat) (bs : List Byte) (s : State) : Keeps s (receive k x bs s) := by
  unfold receive
  refine .trans (driveAck_keeps true s) (keeps_ite (fun _ => .refl _) (fun _ => keeps_ite (fun _ => ?_) (fun _ => ?_)))
  · split
    · exact enterSilent_keeps _ _
    · exact .refl _
  · split
    · exact ((refreshPeer_keeps x _).trans (reassemble_keeps x _ _)).trans (deliver_keeps x _ _)
    · exact (refreshPeer_keeps x _).trans (breakContext_keeps x _)

end Sys2Proof.Machine
end

section
/-! What the sending of frames, the controller port and the commands keep, and with them every step: the statements on the
invariants and the queue of commands. -/

namespace Sys2Proof.Machine

/-! ### Own frames -/

theorem modifyFirst_perm {p : QueueItem → Bool} (f : QueueItem → QueueItem) {i : QueueItem} :
    ∀ {q : List QueueItem}, q.find? p = some i → ∃ rest, q.Perm (i :: rest) ∧ (modifyFirst p f q).Perm (f i :: rest)
  | j :: q, h => by
    rw [modifyFirst]
    by_cases hp : p j = true
    · rw [List.find?_cons_of_pos hp] at h
      cases h
      rw [if_pos hp]
      exact ⟨q, .refl _, .refl _⟩
    · rw [List.find?_cons_of_neg hp] at h
      obtain ⟨rest, hq, hm⟩ := modifyFirst_perm f h
      rw [if_neg hp]
      exact ⟨j :: rest, (hq.cons j).trans (.swap i j rest), (hm.cons j).trans (.swap (f i) j rest)⟩

theorem eraseP_perm {p : QueueItem → Bool} {i : QueueItem} :
    ∀ {q : List QueueItem}, q.find? p = some i → q.Perm (i :: q.eraseP p)
  | j :: q, h => by
    by_cases hp : p j = true
    · rw [List.find?_cons_of_pos hp] at h
      cases h
      rw [List.eraseP_cons_of_pos hp]
    · rw [List.find?_cons_of_neg hp] at h
      rw [List.eraseP_cons_of_neg hp]
      exact ((eraseP_perm h).cons j).trans (.swap i j _)

theorem startFrame_keeps (s : State) : Keeps s (startFrame s) := by
  have hhead : Keeps s (match s.link.head?.bind QueueItem.front? with
      | some f =>
        s.onLink (fun l =>
          { l with
            queue := l.onHead (fun i => { i with onWire := true })
            wire := some { frame := f, probe := false, bits := frameBits s.myId f } })
      | none => s) := by
    split
    · exact keeps_same_frames s _ id (map_frames_onHead (fun _ => by rfl) s.link)
    · exact .refl s
  unfold startFrame
  split
  · exact hhead
  · exact hhead
  · split
    · exact keeps_link_same s _ rfl rfl
    · exact .refl s
  · exact .refl s

theorem mapOnWire_keeps {f : QueueItem → QueueItem} (hf : ∀ i, (f i).frames = i.frames) (s : State) :
    Keeps s (mapOnWire f s) := keeps_same_frames s _ id (map_frames_modifyFirst hf _)

theorem dropOnWire_keeps (s : State) : Keeps s (dropOnWire s) :=
  keeps_sublist s _ id (List.eraseP_sublist.map _)

theorem countDrop_keeps (s : State) : Keeps s (countDrop s) :=
  keeps_ite (fun _ => keeps_ite (fun _ => enterDown_keeps s) (fun _ => keeps_link_same s _ rfl rfl)) (fun _ => .refl s)

theorem droppedItem_keeps (i : QueueItem) (s : State) : Keeps s (droppedItem i s) :=
  (removed_keeps i s).trans (countDrop_keeps _)

theorem announced_keeps (a : AnnounceValues) (s : State) : Keeps s (announced a s) :=
  keeps_ite (fun _ => keeps_link_same s _ rfl rfl) (fun _ => .refl s)

theorem burstDelivered_keeps (t : TicketNo) (s : State) : Keeps s (burstDelivered t s) :=
  .trans (modifyMarks_keeps s (fun _ => by rfl) (fun _ h => by exact h)) (feedPending_keeps _)

/-- A delivered CLAIM needs the place its frame had, which the advance of the queue has freed. -/
theorem deliveredFrame_keeps {s t : State} {i : QueueItem} (h : Keeps s t)
    (hroom : i.frames.length ≤ 1 → s.queueOk → t.occupied + 1 ≤ 24) : Keeps s (deliveredFrame i t) := by
  unfold deliveredFrame
  split
  · exact h
  · rename_i slot _ hsingle
    refine claimDelivered_keeps slot h (hroom ?_)
    match hf : i.frames with
    | [] => simp
    | [_] => simp
    | a :: b :: rest => exact (hsingle a b rest hf).elim
  · exact h.trans (burstDelivered_keeps _ t)
  · exact h.trans (announced_keeps _ t)
  · exact h

theorem advanceOnWire_keeps {i : QueueItem} {s : State} (h : s.link.onWire? = some i) : Keeps s (advanceOnWire i s) := by
  refine keeps_ite (fun _ => dropOnWire_keeps s) (fun hlong => keeps_fewer s _ id fun hne => ?_)
  obtain ⟨rest, hq, hm⟩ := modifyFirst_perm (fun i => { i with
    frames := i.frames.drop 1, started := true, onWire := false, attempts := 0, timeout := none, timedOut := false }) h
  refine ⟨?_, fun j hj => ?_⟩
  · simp only [Link.framesQueued, sum_map_perm_cons hq, sum_map_perm_cons hm, List.length_drop]
    omega
  · rcases List.mem_cons.1 (hm.mem_iff.1 hj) with rfl | hj
    · refine List.ne_nil_of_length_pos ?_
      simp only [List.length_drop]
      omega
    · exact hne j (hq.mem_iff.2 (List.mem_cons_of_mem _ hj))

theorem advanceOnWire_room {i : QueueItem} {s : State} (h : s.link.onWire? = some i) (hlast : i.frames.length ≤ 1)
    (hs : s.queueOk) : (advanceOnWire i s).occupied + 1 ≤ 24 := by
  have hperm := eraseP_perm h
  have hsum := sum_map_perm_cons (f := fun i : QueueItem => i.frames.length) hperm
  have hpos := List.length_pos_iff.2 (hs.2 i (hperm.mem_iff.2 List.mem_cons_self))
  have hcl : (dropOnWire s).closingPlaces = s.closingPlaces := rfl
  have ho := hs.1
  have hqueue : (dropOnWire s).link.queue = s.link.queue.eraseP QueueItem.onWire := rfl
  rw [advanceOnWire, if_pos hlast]
  simp only [State.occupied, Link.framesQueued, hcl, hqueue] at ho ⊢
  omega

theorem failedAttempt_keeps (i : QueueItem) (s : State) : Keeps s (failedAttempt i s) :=
  keeps_ite (fun _ => (dropOnWire_keeps s).trans (droppedItem_keeps i _)) (fun _ => mapOnWire_keeps (fun _ => by rfl) s)

theorem acknowledgedFrame_keeps (s : State) : Keeps s (acknowledgedFrame s) := by
  unfold acknowledgedFrame
  split
  · exact enterSending_keeps .up s
  · exact keeps_link_same s _ rfl rfl
  · exact .refl s

theorem endProbe_keeps (a : Frame) (ack : Bool) (s : State) : Keeps s (endProbe a ack s) := by
  unfold endProbe
  refine .trans (keeps_link_same s _ rfl rfl) (keeps_ite (fun _ => ?_) (fun _ => .refl _))
  refine .trans ?_ (acknowledgedFrame_keeps _)
  split
  · exact announced_keeps _ _
  · exact .refl _

theorem advanceOnWire_state (i : QueueItem) (s : State) : (advanceOnWire i s).link.state = s.link.state := by
  unfold advanceOnWire
  split <;> rfl

theorem endQueued_keeps (ack : Bool) (s : State) : Keeps s (endQueued ack s) := by
  unfold endQueued
  split
  · rename_i i hi _
    exact deliveredFrame_keeps (advanceOnWire_keeps hi) (advanceOnWire_room hi)
  · rename_i i hi hup
    refine keeps_ite (fun _ => ?_) (fun _ => failedAttempt_keeps i s)
    have hsame : (acknowledgedFrame (advanceOnWire i s)).occupied = (advanceOnWire i s).occupied := by
      rw [acknowledgedFrame, advanceOnWire_state, hup]
      rfl
    exact deliveredFrame_keeps ((advanceOnWire_keeps hi).trans (acknowledgedFrame_keeps _))
      (fun hlast hs => hsame ▸ advanceOnWire_room hi hlast hs)
  · rename_i i hi _
    exact keeps_ite
      (fun _ => (deliveredFrame_keeps (advanceOnWire_keeps hi) (advanceOnWire_room hi)).trans (acknowledgedFrame_keeps _))
      (fun _ => mapOnWire_keeps (fun _ => by rfl) s)
  · exact mapOnWire_keeps (fun _ => by rfl) s
  · exact keeps_ite (fun _ => acknowledgedFrame_keeps s) (fun _ => .refl s)

theorem endAttempt_keeps (ack : Bool) (s : State) : Keeps s (endAttempt ack s) := by
  unfold endAttempt
  split
  · exact .refl s
  · exact keeps_ite (fun _ => endProbe_keeps _ ack s)
      (fun _ => (keeps_link_same s _ rfl rfl).trans (endQueued_keeps ack _))

theorem requeueProbe_keeps (f : Frame) (s : State) : Keeps s (requeueProbe f s) := by
  unfold requeueProbe
  split
  · exact keeps_link_same s _ rfl rfl
  · exact .refl s

theorem loseArbitration_keeps (s : State) : Keeps s (loseArbitration s) := by
  unfold loseArbitration
  split
  · exact .refl s
  · refine .trans (keeps_link_same s _ rfl rfl) (keeps_ite (fun _ => requeueProbe_keeps _ _) (fun _ => ?_))
    split
    · exact .refl _
    · exact keeps_ite (fun _ => (dropOnWire_keeps _).trans (droppedItem_keeps _ _)) (fun _ => mapOnWire_keeps (fun _ => by rfl) _)

theorem timeoutAt_keeps (p : Nat) (i : QueueItem) (s : State) : Keeps s (timeoutAt p i s) :=
  keeps_ite (fun _ => keeps_same_frames s _ id (map_frames_modifyAt (fun _ => by rfl) _ _))
    (fun _ => (keeps_sublist s _ id ((List.eraseIdx_sublist _ _).map _)).trans (droppedItem_keeps i _))

/-! ### The controller port -/

theorem settle_keeps (s : State) : Keeps s (settle s) :=
  ((takeJobs_keeps s).trans (settleStall_keeps _)).trans (touchHead_keeps _)

theorem powered_keeps {f : State → State} {s : State} (h : Keeps s (f s)) : Keeps s (powered f s) :=
  keeps_ite (fun _ => h.trans (settle_keeps _)) (fun _ => .refl s)

theorem takeBits_keeps (s : State) : Keeps s (takeBits s) := .of_same rfl rfl rfl rfl rfl rfl

theorem abandonLoad_keeps (s : State) : Keeps s (abandonLoad s) := onPrinter_keeps _ s

theorem endFrame_keeps {act : State → State} (h : ∀ u, Keeps u (act u)) (bits : List Bool) (s : State) :
    Keeps s (endFrame bits act s) := by
  have hreleased : Keeps s (releaseSelect (frameIn bits s)) := (onPort_keeps _ s).trans (onPort_keeps _ _)
  unfold endFrame
  split
  · exact hreleased
  · split
    · exact (hreleased.trans (onPort_keeps _ _)).trans (h _)
    · exact hreleased.trans (onPort_keeps _ _)
  · exact hreleased.trans (onPort_keeps _ _)

theorem actOn_keeps {body : State → Reply} (h : ∀ u, Keeps u (body u).1) (a : Acceptance) (ps : List Byte) (s : State) :
    Keeps s (actOn a ps body s) := by
  unfold actOn
  split
  · exact (abandonLoad_keeps s).trans (onPort_keeps _ _)
  · exact (h s).trans (onPort_keeps _ _)

theorem command_keeps {body : State → Reply} (h : ∀ u, Keeps u (body u).1) (a : Acceptance) (ps : List Byte) (s : State) :
    Keeps s (command a ps body s) :=
  powered_keeps (endFrame_keeps (fun u => (abandonLoad_keeps u).trans (actOn_keeps h a ps _)) _ s)

theorem withParams_keeps {α : Type} {p : Option α} {body : α → State → Reply} {s : State}
    (h : ∀ a, p = some a → Keeps s (body a s).1) : Keeps s (withParams p body s).1 := by
  cases p with
  | some a => exact h a rfl
  | none => exact .refl s

theorem keeps_reply_ite {c : Prop} [Decidable c] {s : State} {a b : Reply} (ha : c → Keeps s a.1) (hb : ¬ c → Keeps s b.1) :
    Keeps s (if c then a else b).1 := by
  split
  · exact ha ‹_›
  · exact hb ‹_›

theorem keeps_reply {r : Result} {s u : State} (h : Keeps s u) : Keeps s (reply r u).1 := h

theorem keeps_okWith {bs : List Byte} {s u : State} (h : Keeps s u) : Keeps s (okWith bs u).1 := h

theorem unlessBusy_keeps {slot : SlotId} {body : State → Reply} {s : State}
    (h : s.slotBusy slot = false → Keeps s (body s).1) : Keeps s (unlessBusy slot body s).1 :=
  keeps_reply_ite (fun _ => .refl s) (fun hb => h (by simpa using hb))

theorem elapse_keeps (n : Nat) (s : State) : Keeps s (elapse n s) where
  pending := rfl
  notices := id
  closed := id
  queue := by
    refine fun ⟨ho, hne⟩ => ⟨?_, fun i hi => ?_⟩
    · have hcl : (elapse n s).closingPlaces = s.closingPlaces := by
        simp only [State.closingPlaces, elapse]
        cases s.payOp <;> rfl
      have hq : (elapse n s).link.framesQueued = s.link.framesQueued := by
        simp only [Link.framesQueued, elapse, Link.elapse, List.map_map, Function.comp_def]
      rwa [State.occupied, hcl, hq]
    · obtain ⟨j, hj, rfl⟩ := List.mem_map.1 hi
      exact hne j hj
  tickets := fun ⟨htab, hreg, hclosed, hlo, hhi, hnodup, hrec, hweigh, hctx⟩ => by
    refine ⟨htab, hreg, hclosed, hlo, hhi, hnodup, hrec, hweigh, fun c hc => ?_⟩
    obtain ⟨d, hd, rfl⟩ := List.mem_map.1 hc
    exact hctx d hd

/-! ### Power and identity -/

theorem noticesOk_start {s : State} (h : s.notices = .start) : s.noticesOk := by
  simp [State.noticesOk, h, Notices.start]

/-- What the loss of power leaves has the invariants: the queue is empty, no slot works, no burst is collected. -/
theorem dropPower_keeps (s : State) : Keeps s (dropPower s) where
  pending := rfl
  notices := fun _ => noticesOk_start rfl
  closed := id
  queue := fun _ => ⟨Nat.zero_le 24, fun _ hi => absurd hi (by simp [dropPower, Link.start])⟩
  tickets := fun ⟨htab, hreg, hclosed, hlo, hhi, hnodup, hrec, _, _⟩ =>
    ⟨Nat.le_trans (Nat.add_le_add_left (Nat.zero_le _) _) htab, Nat.le_trans (Nat.add_le_add_left (Nat.zero_le _) _) hreg,
      hclosed, hlo, hhi, hnodup, hrec, fun _ ho => absurd ho (by simp [dropPower]), fun _ hc => absurd hc (by simp [dropPower, Link.start])⟩

/-- The factory contents have the invariants whatever the slots hold, once no reservation stands. -/
theorem clearStore_keeps {s : State} (h : s.weigh = none) : Keeps s (clearStore s) where
  pending := rfl
  notices := id
  closed := fun _ => ⟨Nat.zero_le 32, List.nodup_nil⟩
  queue := id
  tickets := fun ⟨_, _, _, _, _, _, _, _, hctx⟩ => by
    have hres : (clearStore s).reservations = 0 := by simp [State.reservations, clearStore, h]
    refine ⟨by rw [hres]; exact Nat.zero_le 48, by rw [hres]; exact Nat.zero_le 1024, Nat.zero_le 32, Nat.le_refl 1,
      (by decide : 1 ≤ 65535), List.nodup_nil, fun _ hr => absurd hr (by simp [clearStore, Tickets.factory]), fun _ ho => absurd ho (by simp [clearStore, h]), hctx⟩

/-- Marks of the store's records and entries change in place. -/
theorem keeps_marks (s : State) (f : Tickets → Tickets) {g : Record → Record} (hn : ∀ r, (g r).number = r.number)
    (hl : ∀ r, r.linesOk → (g r).linesOk) (ht : (f s.tickets).table = s.tickets.table.map g)
    (hr : (f s.tickets).register.length = s.tickets.register.length) (hc : (f s.tickets).closed = s.tickets.closed)
    (hs : (f s.tickets).nextSerial = s.tickets.nextSerial) : Keeps s (s.onTickets f) := by
  refine keeps_store s f hc (.inl hs) (Nat.le_of_eq hr) (sublist_of_eq ?_) fun hok r hr => ?_
  · rw [ht, List.map_map]
    exact List.map_congr_left fun r _ => hn r
  · rw [ht] at hr
    obtain ⟨q, hq, rfl⟩ := List.mem_map.1 hr
    exact hl q (linesOk_of_ticketsOk hok hq)

theorem onPower_keeps (s : State) : Keeps s (s.onTickets Tickets.onPower) :=
  keeps_marks s _ (g := fun r => { r with custody := .free }) (fun _ => rfl) (fun _ => id) rfl (by simp [Tickets.onPower]) rfl rfl

theorem onReset_keeps (x : Nat) (s : State) : Keeps s (s.onTickets (Tickets.onReset x)) :=
  keeps_marks s _ (g := fun r => if r.custody.isOwn then { r with custody := .free } else r) (fun r => by split <;> rfl)
    (fun r h => by split <;> exact h) rfl (by simp [Tickets.onReset]) rfl rfl

theorem renameWriter_keeps (old new : Nat) (s : State) : Keeps s (renameWriter old new s) :=
  keeps_ite (fun _ => .refl s) (fun _ =>
    keeps_marks s _ (g := fun r => if r.lastWriter = old then { r with lastWriter := new } else r) (fun r => by split <;> rfl)
      (fun r h => by split <;> exact h) rfl rfl rfl rfl)

theorem closeDayInWaitId_keeps (s : State) : Keeps s (closeDayInWaitId s) :=
  keeps_ite (fun _ => (onDay_keeps _ s).trans (postNotice_keeps _ _)) (fun _ => .refl s)

theorem judgeStart_keeps (s : State) : Keeps s (judgeStart s) := (judge_keeps _ s).trans (judgeDrawer_keeps _)

theorem startBlocks_keeps (s : State) : Keeps s (startBlocks s) := (onScale_keeps _ s).trans (keeps_link_same _ _ rfl rfl)

theorem startUp_keeps (straps : Straps) (agrees : Bool) (s : State) : Keeps s (startUp straps agrees s) := by
  unfold startUp
  refine .trans ?_ (closeDayInWaitId_keeps _)
  refine .trans ?_ (judgeStart_keeps _)
  refine .trans ?_ (keeps_ite (fun _ => .refl _) (fun _ => latchEvent_keeps .retainedLost .none _))
  refine .trans ?_ (startBlocks_keeps _)
  refine .trans ?_ (claimRegister_keeps _)
  refine .trans ?_ (onPower_keeps _)
  have hpower : Keeps s { dropPower s with powered := true } :=
    (dropPower_keeps s).trans (.of_same rfl rfl rfl rfl rfl rfl)
  cases agrees with
  | true => exact hpower.trans (.of_same rfl rfl rfl rfl rfl rfl)
  | false => exact (hpower.trans (clearStore_keeps rfl)).trans (.of_same rfl rfl rfl rfl rfl rfl)

theorem softReset_keeps (s : State) : Keeps s (softReset s) := by
  unfold softReset
  refine .trans ?_ (judgeStart_keeps _)
  refine .trans ?_ (rejoin_keeps _)
  have hidle := ((onReset_keeps s.myId s).trans (idleWeigh_keeps _)).trans (idlePay_keeps _)
  exact hidle.trans (.of_notices (fun _ => noticesOk_start rfl) rfl rfl rfl rfl rfl)

theorem startTimers_keeps (s : State) : Keeps s { s with weighTimer := .start, payTimer := .start } :=
  .of_same rfl rfl rfl rfl rfl rfl

theorem changeIdentity_keeps (o : Option (Nat × Role)) (s : State) : Keeps s (changeIdentity o s) := by
  unfold changeIdentity
  refine .trans ?_ (keeps_link_same _ _ rfl rfl)
  refine .trans ?_ (rejoin_keeps _)
  refine .trans ?_ (startTimers_keeps _)
  refine .trans ?_ (onScale_keeps _ _)
  refine .trans ?_ (keeps_ite (fun _ => .refl _) (fun _ => filterAll_keeps _))
  refine .trans ?_ (claimRegister_keeps _)
  refine .trans ?_ (renameWriter_keeps _ _ _)
  exact .of_same rfl rfl rfl rfl rfl rfl

/-! ### The rules of the commands -/

theorem readNotice_keeps (s : State) : Keeps s (readNotice s).1 := by
  unfold readNotice
  split
  · rename_i n x rest hq
    refine .of_notices (fun ⟨hlen, hseq, hall⟩ => ?_) rfl rfl rfl rfl rfl
    rw [hq] at hlen hall
    exact ⟨Nat.le_of_succ_le hlen, hseq, fun p hp => hall p (List.mem_cons_of_mem _ hp)⟩
  · exact .refl s

theorem setAttn_keeps (on : Nat) (s : State) : Keeps s (setAttn on s).1 := by
  unfold setAttn
  split
  · exact .of_notices id rfl rfl rfl rfl rfl
  · exact .refl s

theorem clearFlags_keeps (mask : Nat) (s : State) : Keeps s (clearFlags mask s).1 :=
  keeps_reply_ite (fun _ => .refl s) (fun _ => clearNamed_keeps _ _ s)

theorem setIdentity_keeps (ps : List Byte) (s : State) :
    Keeps s (if s.slotBusy .weigh || s.slotBusy .pay then reply .busy s
      else withParams (readTwo 1 1 ps) (fun p s =>
        if p.1 = 0 then
          let s := changeIdentity none s
          okWith (identityBytes s.identity.inForce) s
        else
          match decide (p.1 ≤ 15), roleOf p.2 with
          | true, some r =>
            let s := changeIdentity (some (p.1, r)) s
            okWith (identityBytes s.identity.inForce) s
          | _, _ => reply .range s) s).1 := by
  refine keeps_reply_ite (fun _ => .refl s) (fun _ => withParams_keeps fun p _ => ?_)
  refine keeps_reply_ite (fun _ => changeIdentity_keeps none s) (fun _ => ?_)
  split
  · exact changeIdentity_keeps _ s
  · exact .refl s

theorem configure_keeps (items : List (Nat × Nat)) (s : State) : Keeps s (configure items s).1 := by
  refine keeps_reply_ite (fun _ => .refl s) (fun _ => keeps_reply_ite (fun _ => ?_) (fun _ => .refl s))
  split
  · exact keeps_reply_ite (fun _ => .of_same rfl rfl rfl rfl rfl rfl) (fun _ => .refl s)
  · exact .refl s

theorem configureDefaults_keeps (s : State) : Keeps s (configureDefaults s).1 :=
  keeps_reply_ite (fun _ => .refl s) (fun _ => .of_same rfl rfl rfl rfl rfl rfl)

theorem openDay_keeps (n c : Nat) (s : State) : Keeps s (openDay n c s) := by
  have hregister : Keeps s (s.onTickets (fun k => { k with register := k.register.filter (fun e => !e.life.isClosed) })) :=
    keeps_store s _ rfl (.inl rfl) (List.length_filter_le _ _) (List.Sublist.refl _) fun hs _ hr => linesOk_of_ticketsOk hs hr
  exact hregister.trans (.of_same rfl rfl rfl rfl rfl rfl)

theorem postClockTop_keeps (s : State) : Keeps s (postClockTop s) :=
  keeps_ite (fun _ => postNotice_keeps _ s) (fun _ => .refl s)

theorem dayOpen_keeps (p : Nat × Nat) (s : State) : Keeps s (dayOpen p s).1 :=
  keeps_reply_ite (fun _ => .refl s) (fun _ => keeps_reply_ite (fun _ => .refl s) (fun _ =>
    ((((openDay_keeps p.1 p.2 s).trans (judge_keeps _ _)).trans (judge_keeps _ _)).trans (postNotice_keeps _ _)).trans
      (postClockTop_keeps _)))

theorem forceVoid_keeps (n : Nat) (s : State) : Keeps s (forceVoid n s) :=
  ((closeTicket_keeps _ _ s).trans (countDay_keeps _ _)).trans (sendAsking_keeps _ _)

theorem closeDay_keeps (force : Bool) (s : State) : Keeps s (closeDay force s).1 :=
  (((keeps_foldl (fun s n => forceVoid_keeps n s) _ s).trans (makeReceipt_keeps _ _ _ _)).trans (onDay_keeps _ _)).trans
    (postNotice_keeps _ _)

theorem dayClose_keeps (force : Bool) (s : State) : Keeps s (dayClose force s).1 :=
  keeps_reply_ite (fun _ => .refl s) (fun _ => keeps_reply_ite (fun _ => .refl s) (fun _ =>
    keeps_reply_ite (fun _ => .refl s) (fun _ => keeps_reply_ite (fun _ => .refl s) (fun _ => closeDay_keeps force s))))

theorem setGrade_keeps (n : Nat) (g : Option Grade) (s : State) : Keeps s (setGrade n g s) := onPricing_keeps _ s

theorem loadGrade_keeps (p : LoadGradeParams) (s : State) : Keeps s (loadGrade p s).1 := by
  refine keeps_reply_ite (fun _ => .refl s) (fun _ => keeps_reply_ite (fun _ => keeps_reply (setGrade_keeps _ _ s)) (fun _ => ?_))
  split
  · exact keeps_reply (setGrade_keeps _ _ s)
  · exact .refl s

theorem addPriceVersion_keeps (p : AddVersionParams) (s : State) : Keeps s (addPriceVersion p s).1 := by
  unfold addPriceVersion
  split
  · exact .refl s
  · exact keeps_reply_ite (fun _ => .refl s) (fun _ => keeps_reply_ite (fun _ => .refl s) (fun _ => keeps_okWith (setGrade_keeps _ _ s)))

theorem readGrade_keeps (p : Nat × Nat) (s : State) : Keeps s (readGrade p s).1 := by
  refine keeps_reply_ite (fun _ => .refl s) (fun _ => keeps_reply_ite (fun _ => .refl s) (fun _ => ?_))
  split <;> exact .refl s

/-! ### The weigh slot's commands -/

/-- A check that no earlier one has refused passes when the list refuses nothing. -/
theorem passed_of_firstRefusal : ∀ {l : List (Bool × Result)}, firstRefusal l = none → ∀ c ∈ l, c.1 = false
  | [], _, _, hc => by cases hc
  | (fails, r) :: rest, h, c, hc => by
    rw [firstRefusal] at h
    split at h
    · cases h
    · rename_i hpass
      rcases List.mem_cons.1 hc with rfl | hc
      · simpa using hpass
      · exact passed_of_firstRefusal h c hc

theorem weigh_none_of_slotBusy {s : State} (h : s.slotBusy .weigh = false) : s.weigh = none := by
  simpa [State.slotBusy] using h

theorem payOp_none_of_slotBusy {s : State} (h : s.slotBusy .pay = false) : s.payOp = none := by
  simpa [State.slotBusy] using h

/-- An operation opens in the idle weigh slot, without a closing place; what it reserves is free. -/
theorem openWeigh_keeps {s : State} {o : WeighOp} (h : s.weigh = none) (hc : o.closing = false)
    (hstore : s.ticketsOk → o.storeOk = true)
    (hres : o.reserved = true → s.tickets.table.length < 48 ∧ s.tickets.register.length < 1024) :
    Keeps s (s.onWeigh (fun _ => some o)) := by
  refine .of_queue (fun ⟨hocc, hne⟩ => ⟨?_, hne⟩) rfl rfl rfl fun hs => ?_
  · simpa only [State.occupied, State.closingPlaces, State.onWeigh_weigh, State.onWeigh_payOp, State.onWeigh_link, h, hc,
      Bool.toNat_false] using hocc
  · obtain ⟨htab, hreg, hclosed, hlo, hhi, hnodup, hrec, hweigh, hctx⟩ := id hs
    simp only [State.reservations, h] at htab hreg
    have hplace : (s.onWeigh (fun _ => some o)).reservations = o.reserved.toNat := rfl
    refine ⟨?_, ?_, hclosed, hlo, hhi, hnodup, hrec, fun q hq => ?_, hctx⟩
    · rw [hplace, State.onWeigh_tickets]
      cases hr : o.reserved with
      | false => simpa using htab
      | true => have := hres hr; simp only [Bool.toNat_true]; omega
    · rw [hplace, State.onWeigh_tickets]
      cases hr : o.reserved with
      | false => simpa using hreg
      | true => have := hres hr; simp only [Bool.toNat_true]; omega
    · cases hq; exact hstore hs

theorem openWeigh_occupied {s : State} {o : WeighOp} (h : s.weigh = none) (hc : o.closing = false) :
    (s.onWeigh (fun _ => some o)).occupied = s.occupied := by
  simp only [State.occupied, State.closingPlaces, State.onWeigh_weigh, State.onWeigh_payOp, State.onWeigh_link, h, hc,
    Bool.toNat_false]

theorem newTicket_keeps {s : State} (h : s.slotBusy .weigh = false) (p : Text × Text) : Keeps s (newTicket p s).1 := by
  have hidle := weigh_none_of_slotBusy h
  unfold newTicket
  split
  · exact .refl s
  · rename_i hpass
    have hroom := passed_of_firstRefusal hpass
    have htable : s.tableRoom = true := by simpa using hroom (!s.tableRoom, .tableFull) (by simp)
    have hregister : s.registerRoom = true := by simpa using hroom (!s.registerRoom, .homeFull) (by simp)
    refine .trans (openWeigh_keeps hidle rfl (fun _ => rfl) fun _ => ?_) (openCapture_keeps _ _)
    have htable := of_decide_eq_true htable
    have hregister := of_decide_eq_true hregister
    simp only [State.reservations, hidle, Config.tableCapacity, Config.registerCapacity] at htable hregister
    exact ⟨htable, hregister⟩

theorem refuse_keeps (t : TicketNo) (r : Result) (s : State) : Keeps s (refuse t r s).1 :=
  keeps_ite (fun _ => askAgain_keeps t s) (fun _ => .refl s)

/-- The checks on a ticket pass only where its record is there and passes what follows them. -/
theorem ticketRefusal_eq_none {t : TicketNo} {suits : Life → Bool} {later : Record → List (Bool × Result)} {s : State}
    (h : ticketRefusal t suits later s = none) :
    ∃ r, s.findRecord t = some r ∧ ∀ c ∈ later r, c.1 = false := by
  unfold ticketRefusal at h
  split at h
  · cases h
  · split at h
    · cases h
    · rename_i r hr
      exact ⟨r, hr, fun c hc => passed_of_firstRefusal h c (List.mem_append_right _ hc)⟩

/-- A WEIGH STEP that passes its checks claims a step with a line free for it. -/
theorem weighStep_claimedStep {p : WeighStepParams} {s : State} (h : weighStepRefusal p s = none) (hs : s.ticketsOk) :
    s.stepOf p.ticket ≤ 7 := by
  unfold weighStepRefusal at h
  split at h
  · cases h
  · obtain ⟨r, hr, hlater⟩ := ticketRefusal_eq_none h
    have hfull : linesFull p.final r = false := hlater (linesFull p.final r, .linesFull) (by simp)
    have hlines := (linesOk_of_ticketsOk hs (mem_table_of_findRecord hr).1).1
    have hcap : ¬ 8 ≤ r.lines.length := of_decide_eq_false (Bool.or_eq_false_iff.1 hfull).2
    simp only [State.stepOf, hr]
    omega

theorem weighStep_keeps {s : State} (h : s.slotBusy .weigh = false) (p : WeighStepParams) : Keeps s (weighStep p s).1 := by
  have hidle := weigh_none_of_slotBusy h
  unfold weighStep
  split
  · exact refuse_keeps _ _ s
  · rename_i hpass
    refine requestClaim_keeps (openWeigh_keeps hidle rfl (fun hs => ?_) (fun hr => by cases hr)) (openWeigh_occupied hidle rfl)
    exact decide_eq_true (weighStep_claimedStep hpass hs)

/-- A PAY or a void in the idle pay slot. -/
theorem openPay_keeps {s : State} {o : PayOp} (h : s.payOp = none) (hc : o.closing = false) :
    Keeps s (s.onPay (fun _ => some o)) ∧ (s.onPay (fun _ => some o)).occupied = s.occupied := by
  have hocc : (s.onPay (fun _ => some o)).occupied = s.occupied := by
    simp only [State.occupied, State.closingPlaces, State.onPay_weigh, State.onPay_payOp, State.onPay_link, h, hc,
      Bool.toNat_false]
  exact ⟨.of_queue (fun ⟨ho, hne⟩ => ⟨hocc ▸ ho, hne⟩) rfl rfl rfl id, hocc⟩

theorem openVoid_keeps {slot : SlotId} {s : State} (h : s.slotBusy slot = false) (t : TicketNo) (step : Nat) :
    Keeps s (openVoid slot t step s) ∧ (openVoid slot t step s).occupied = s.occupied := by
  cases slot with
  | weigh =>
    have hidle := weigh_none_of_slotBusy h
    exact ⟨openWeigh_keeps hidle rfl (fun _ => rfl) (fun hr => by cases hr), openWeigh_occupied hidle rfl⟩
  | pay => exact openPay_keeps (payOp_none_of_slotBusy h) rfl

theorem voidTicket_keeps (t : TicketNo) (s : State) : Keeps s (voidTicket t s).1 := by
  refine unlessBusy_keeps fun hidle => ?_
  split
  · exact refuse_keeps _ _ s
  · obtain ⟨hopen, hocc⟩ := openVoid_keeps hidle t (s.stepOf t)
    exact requestClaim_keeps hopen hocc

theorem weighCancel_keeps (s : State) : Keeps s (weighCancel s).1 := by
  unfold weighCancel
  split
  · exact .refl s
  · split
    · exact keeps_ite (fun _ => cancelClaim_keeps _ _ s) (fun _ => endHold_keeps _ _ _ _ _ s)
    · exact endOp_keeps _ _ _ _ s

theorem zero_keeps {s : State} (h : s.slotBusy .weigh = false) : Keeps s (zero s).1 :=
  keeps_reply_ite
    (fun _ => (openWeigh_keeps (weigh_none_of_slotBusy h) rfl (fun _ => rfl) (fun hr => by cases hr)).trans (openCapture_keeps _ _))
    (fun _ => .refl s)

theorem readWeight_keeps (s : State) : Keeps s (readWeight s).1 := by
  unfold readWeight
  split <;> exact .refl s

/-! ### The pay slot's commands -/

theorem withoutPlaceholder_keeps {job : Option Nat} {a : Result × State} {s : State} (h : Keeps s a.2) :
    Keeps s (withoutPlaceholder job a).1 := by
  unfold withoutPlaceholder
  split
  · exact h.trans (removeJob_keeps _ _)
  · exact h

theorem makePlaceholder_keeps (t : TicketNo) (s : State) : Keeps s (makePlaceholder t s) :=
  keeps_ite (fun _ => makeJob_keeps _ _ _ _ _ s) (fun _ => .refl s)

theorem makePlaceholder_payOp (t : TicketNo) (s : State) : (makePlaceholder t s).payOp = s.payOp := by
  unfold makePlaceholder
  split <;> simp

theorem pay_keeps {s : State} (h : s.slotBusy .pay = false) (p : TicketNo × Text) : Keeps s (pay p s).1 := by
  unfold pay
  dsimp only
  split
  · exact refuse_keeps _ _ s
  · have hidle : (makePlaceholder p.1 s).payOp = none := (makePlaceholder_payOp p.1 s).trans (payOp_none_of_slotBusy h)
    obtain ⟨hopen, hocc⟩ := openPay_keeps (o := payOpFor p.1 (given p.2) s.placeholderNumber (s.stepOf p.1)) hidle rfl
    exact withoutPlaceholder_keeps ((makePlaceholder_keeps p.1 s).trans (requestClaim_keeps hopen hocc))

theorem payConfirm_keeps (t : TicketNo) (s : State) : Keeps s (payConfirm t s).1 := by
  unfold payConfirm
  split
  · exact .refl s
  · split
    · exact .refl s
    · split
      · exact commitPay_keeps _ _ _ s
      · exact .refl s

theorem withdrawOffer_keeps (t : TicketNo) (s : State) : Keeps s (withdrawOffer t s) :=
  (releaseHold_keeps .pay t s).trans (closeSlot_keeps _ _ _)

theorem payCancel_keeps (s : State) : Keeps s (payCancel s).1 := by
  unfold payCancel
  split
  · exact .refl s
  · exact keeps_ite (fun _ => withdrawOffer_keeps _ s) (fun _ => cancelClaim_keeps _ _ s)

theorem readOffer_keeps (s : State) : Keeps s (readOffer s).1 := by
  unfold readOffer
  split
  · exact .refl s
  · split <;> exact .refl s

theorem refill_keeps (p : RefillParams) (s : State) : Keeps s (refill p s).1 := by
  unfold refill
  split
  · exact .refl s
  · exact keeps_reply_ite (fun _ => .refl s) (fun _ => keeps_reply_ite (fun _ => .refl s)
      (fun _ => (onDrawer_keeps _ s).trans (judge_keeps _ _)))

theorem setDenominations_keeps (l : List DenominationParams) (s : State) : Keeps s (setDenominations l s).1 :=
  keeps_reply_ite (fun _ => .refl s) (fun _ => keeps_reply_ite (fun _ => .refl s)
    (fun _ => (onDrawer_keeps _ s).trans (judge_keeps _ _)))

theorem setCashLimits_keeps (p : Nat × Nat) (s : State) : Keeps s (setCashLimits p s).1 :=
  keeps_reply_ite (fun _ => .refl s) (fun _ => ((onDrawer_keeps _ s).trans (judge_keeps _ _)).trans (judge_keeps _ _))

/-! ### Lookups, the link's commands -/

theorem readTicket_keeps (p : TicketNo × Nat) (s : State) : Keeps s (readTicket p s).1 := by
  refine keeps_reply_ite (fun _ => .refl s) (fun _ => ?_)
  split
  · split <;> exact .refl s
  · exact .refl s
  · exact keeps_reply_ite (fun _ => .refl s) (fun _ => .refl s)
  · exact .refl s

theorem findByTag_keeps (tag : Text) (s : State) : Keeps s (findByTag tag s).1 := by
  refine keeps_reply_ite (fun _ => ?_) (fun _ => .refl s)
  split <;> exact .refl s

theorem listTickets_keeps (restart : Bool) (s : State) : Keeps s (listTickets restart s).1 :=
  keeps_okWith (keeps_store s _ rfl (.inl rfl) Nat.le.refl (List.Sublist.refl _) fun hs _ hr => linesOk_of_ticketsOk hs hr)

theorem releaseTicket_keeps (t : TicketNo) (s : State) : Keeps s (releaseTicket t s).1 := by
  refine keeps_reply_ite (fun _ => .refl s) (fun _ => keeps_reply_ite (fun _ => .refl s) (fun _ => ?_))
  split
  · exact .refl s
  · exact keeps_reply_ite (fun _ => .refl s) (fun _ => (freeTaken_keeps t s).trans (setHolder_keeps t 0 _))

theorem releaseForeign_keeps (ps : List Byte) (s : State) : Keeps s (releaseForeign ps s).1 := by
  unfold releaseForeign
  split
  · exact releaseTicket_keeps _ s
  · exact keeps_reply_ite (fun _ => .refl s) (fun _ => keeps_reply_ite (fun _ => .refl s) (fun _ => freeHolds_keeps _ s))
  · exact .refl s

theorem readLink_keeps (clear : Bool) (s : State) : Keeps s (readLink clear s).1 :=
  keeps_ite (fun _ => keeps_link_same s _ rfl rfl) (fun _ => .refl s)

theorem joined_keeps (s : State) : Keeps s (joined s) :=
  ((keeps_link_same s _ rfl rfl).trans (sendAnnounce_keeps _)).trans (feedPending_keeps _)

theorem announceDue_keeps (s : State) : Keeps s (announceDue s) := by
  unfold announceDue
  split
  · exact sendAnnounce_keeps s
  · exact sendAnnounce_keeps s
  · exact keeps_link_same s _ rfl rfl
  · exact .refl s
  · exact .refl s

theorem peerAbsent_keeps (x : Nat) (s : State) : Keeps s (peerAbsent x s) := by
  have hposted := (modifyPeer_keeps x (fun p => { p with present := false }) s).trans (postPeer_keeps x .absent _)
  exact keeps_ite (fun _ => hposted.trans (enterSending_keeps .alone _)) (fun _ => hposted)

theorem receiveMalformed_keeps (x : Nat) (s : State) : Keeps s (receiveMalformed x s) :=
  (driveAck_keeps true s).trans
    (keeps_ite (fun _ => .refl _) (fun _ => (refreshPeer_keeps x _).trans (breakContext_keeps x _)))

/-! ### The receipt unit's commands -/

theorem reprint_keeps (p : TicketNo × Nat) (s : State) : Keeps s (reprint p s).1 := by
  unfold reprint
  split
  · dsimp only
    split
    · exact .refl s
    · exact keeps_reply_ite (fun _ => keeps_okWith (.trans (makeJob_keeps _ _ _ _ _ s) (onPrinter_keeps _ _))) (fun _ => .refl s)
  · exact .refl s

theorem printText_keeps (t : Text) (s : State) : Keeps s (printText t s).1 :=
  keeps_reply_ite (fun _ => keeps_reply_ite (fun _ => makeJob_keeps _ _ _ _ _ s) (fun _ => .refl s)) (fun _ => .refl s)

theorem cancelJob_keeps (n : Nat) (s : State) : Keeps s (cancelJob n s).1 := by
  unfold cancelJob
  split
  · exact .refl s
  · exact keeps_reply_ite (fun _ => .refl s) (fun _ => (removeJob_keeps n s).trans (onPrinter_keeps _ _))

theorem printerLoan_keeps (s : State) : Keeps s (printerLoan s).1 := by
  unfold printerLoan
  split
  · exact keeps_reply (onPrinter_keeps _ s)
  · exact keeps_reply (onPrinter_keeps _ s)
  · exact keeps_reply (onPrinter_keeps _ s)
  · exact .refl s
  · exact .refl s

theorem reclaim_keeps (s : State) : Keeps s (reclaim s).1 := by
  unfold reclaim
  split
  · exact (onPrinter_keeps _ s).trans (judge_keeps _ _)
  · exact keeps_reply (onPrinter_keeps _ s)
  · exact .refl s
  · exact .refl s
  · exact .refl s

theorem headerBegin_keeps (p : Nat × Text) (s : State) : Keeps s (headerBegin p s).1 :=
  keeps_reply_ite (fun _ => .refl s) (fun _ => keeps_reply_ite (fun _ => keeps_reply (onPrinter_keeps _ s)) (fun _ =>
    keeps_reply_ite (fun _ => keeps_reply (onPrinter_keeps _ s)) (fun _ => keeps_okWith (onPrinter_keeps _ s))))

theorem headerContinue_keeps (text : Option Text) (s : State) : Keeps s (headerContinue text s).1 := by
  unfold headerContinue
  split
  · exact abandonLoad_keeps s
  · refine keeps_reply_ite (fun _ => ?_) (fun _ => abandonLoad_keeps s)
    split
    · exact .refl s
    · exact keeps_reply_ite (fun _ => keeps_okWith (onPrinter_keeps _ s)) (fun _ => keeps_okWith (onPrinter_keeps _ s))

theorem readPrinter_keeps (part : Nat) (s : State) : Keeps s (readPrinter part s).1 := by
  refine keeps_reply_ite (fun _ => .refl s) (fun _ => keeps_reply_ite (fun _ => .refl s) (fun _ => ?_))
  split <;> exact .refl s

theorem handCode_keeps (s : State) : Keeps s (handCode s) := by
  have hhand : ∀ (c : Nat) (rest : List Nat), Keeps s
      (let u := s.onPrinter (fun p => { p with stream := rest, dataLines := some c, strobes := p.strobes + 1 })
       if c = 12 then finishReceipt u else if c = 10 then u.onPrinter countLine else u) := fun c rest =>
    .trans (onPrinter_keeps _ s) (keeps_ite (fun _ => finishReceipt_keeps _)
      (fun _ => keeps_ite (fun _ => onPrinter_keeps _ _) (fun _ => .refl _)))
  unfold handCode
  split
  · exact hhand _ _
  · exact hhand _ _
  · exact .refl s

theorem printerPin_keeps {after : State → State} (f : Printer → Printer) (h : ∀ u, Keeps u (after u)) (s : State) :
    Keeps s (printerPin f after s) :=
  keeps_ite (fun _ => ((onPrinter_keeps f s).trans (h _)).trans (settle_keeps _)) (fun _ => onPrinter_keeps f s)

theorem paperOut_keeps (s : State) : Keeps s (paperOut s) := by
  unfold paperOut
  split
  · exact keeps_ite (fun _ => (suspendJob_keeps false s).trans (postNotice_keeps _ _)) (fun _ => suspendJob_keeps false s)
  · exact suspendJob_keeps false s

/-! ### The scale -/

theorem dropCapture_keeps (s : State) : Keeps s (dropCapture s) := onScale_keeps _ s

theorem finishZero_keeps (sum : Int) (s : State) : Keeps s (finishZero sum s) :=
  keeps_ite
    (fun _ => (((dropCapture_keeps s).trans (closeSlot_keeps _ _ _)).trans (onScale_keeps _ _)).trans (postNotice_keeps _ _))
    (fun _ => (dropCapture_keeps s).trans (endOp_keeps _ _ _ _ _))

theorem finishCapture_keeps (target : Target) (sum : Int) (s : State) : Keeps s (finishCapture target sum s) :=
  keeps_ite (fun _ => (dropCapture_keeps s).trans (failCapture_keeps _ _))
    (fun _ => (onScale_keeps _ s).trans (deliverWeight_keeps _ _))

theorem windowStep_keeps (w : WindowSample) (s : State) : Keeps s (windowStep w s) := by
  unfold windowStep
  split
  · exact .refl s
  · refine keeps_ite (fun _ => ?_) (fun _ => onScale_keeps _ s)
    split
    · exact finishZero_keeps _ s
    · exact keeps_ite (fun _ => finishCapture_keeps _ _ s) (fun _ => onScale_keeps _ s)

theorem faultCapture_keeps (s : State) : Keeps s (faultCapture s) :=
  keeps_ite (fun _ => (dropCapture_keeps s).trans (failCapture_keeps _ _)) (fun _ => .refl s)

theorem weighSample_keeps (status : SampleStatus) (raw : Int) (s : State) : Keeps s (weighSample status raw s) := by
  unfold weighSample
  refine .trans ?_ (windowStep_keeps _ _)
  refine .trans ?_ (keeps_ite (fun _ => onScale_keeps _ _) (fun _ => .refl _))
  exact keeps_ite (fun _ => latchEvent_keeps _ _ s) (fun _ => .refl s)

theorem sample_keeps (status : SampleStatus) (raw : Int) (s : State) : Keeps s (sample status raw s) := by
  have htaken : Keeps s (takeSample status raw s) := onScale_keeps _ s
  cases status with
  | cellFault => exact (htaken.trans (latchEvent_keeps _ _ _)).trans (faultCapture_keeps _)
  | converterFault => exact (htaken.trans (latchEvent_keeps _ _ _)).trans (faultCapture_keeps _)
  | ok => exact htaken.trans (weighSample_keeps _ _ _)
  | overload => exact htaken.trans (weighSample_keeps _ _ _)

end Sys2Proof.Machine
end

section
/-! Every command completes, leaves the waiting commands and keeps the invariants; so does every step, the idle one too. -/

namespace Sys2Proof.Machine

/-- The outcome is a next state, and the waiting commands and the invariants stand in it. -/
def Completes (s : State) (o : Host.Outcome State Fault Refusal) : Prop := ∃ t, o = .next t ∧ Keeps s t

theorem completes_next {s t : State} (h : Keeps s t) : Completes s (.next t) := ⟨t, rfl, h⟩

theorem completes_command {body : State → Reply} (a : Acceptance) (ps : List Byte) (s : State)
    (h : ∀ u, Keeps u (body u).1) : Completes s (.next (command a ps body s)) := completes_next (command_keeps h a ps s)

theorem completes_powered {f : State → State} {s : State} (h : Keeps s (f s)) : Completes s (.next (powered f s)) :=
  completes_next (powered_keeps h)

/-! ### Power, the port's lines, flags, the day -/

theorem execPowerOn_completes (i r k : Nat) (agrees : Bool) (s : State) : Completes s (execPowerOn i r k agrees s) :=
  completes_next ((startUp_keeps _ agrees s).trans (settle_keeps _))

theorem execPowerLoss_completes (s : State) : Completes s (execPowerLoss s) :=
  completes_next (keeps_ite (fun _ => dropPower_keeps s) (fun _ => .refl s))

theorem execReset_completes (ps : List Byte) (s : State) : Completes s (execReset ps s) :=
  completes_powered (endFrame_keeps (fun u => keeps_ite (fun _ => softReset_keeps u) (fun _ => abandonLoad_keeps u)) _ s)

theorem execNop_completes (ps : List Byte) (s : State) : Completes s (execNop ps s) :=
  completes_powered (endFrame_keeps abandonLoad_keeps _ s)

theorem execSelectActive_completes (s : State) : Completes s (execSelectActive s) :=
  completes_next (keeps_ite (fun _ => .refl s)
    (fun _ => keeps_ite (fun _ => (onPort_keeps _ s).trans (settle_keeps _)) (fun _ => onPort_keeps _ s)))

theorem execSelectTimeout_completes (s : State) : Completes s (execSelectTimeout s) := by
  refine completes_next ?_
  split
  · exact powered_keeps (((elapse_keeps _ s).trans (takeBits_keeps _)).trans (onPort_keeps _ _))
  · exact .refl s

theorem judgeRejected_keeps (s : State) : Keeps s (judgeRejected s) := by
  have hreleased := (takeBits_keeps s).trans (onPort_keeps _ _ : Keeps _ (releaseSelect (takeBits s)))
  have hrejected := hreleased.trans (onPort_keeps _ _ : Keeps _ (rejectFrame (releaseSelect (takeBits s))))
  unfold judgeRejected
  split
  · exact hreleased
  · exact keeps_ite (fun _ => .refl s) (fun _ => hrejected)
  · exact hrejected

theorem execFrameRejected_completes (s : State) : Completes s (execFrameRejected s) :=
  completes_next (keeps_ite (fun _ => (judgeRejected_keeps s).trans (settle_keeps _)) (fun _ => onPort_keeps _ s))

theorem execDayOpen_completes (ps : List Byte) (s : State) : Completes s (execDayOpen ps s) :=
  completes_command _ _ s fun u => keeps_reply_ite (fun _ => .refl u) (fun _ => withParams_keeps fun p _ => dayOpen_keeps p u)

theorem tickClock_keeps (s : State) : Keeps s (tickClock s) := onDay_keeps _ s

theorem execYardClockTick_completes (s : State) : Completes s (execYardClockTick s) := by
  refine completes_next ?_
  split
  · exact .refl s
  · rename_i r _
    have htick := (elapse_keeps r s).trans (tickClock_keeps _)
    exact keeps_ite (fun _ => .trans (htick.trans (keeps_ite (fun _ => postClockTop_keeps _) (fun _ => .refl _))) (settle_keeps _))
      (fun _ => htick)

theorem execClockTop_completes (s : State) : Completes s (execClockTop s) := by
  refine completes_next ?_
  split
  · exact .refl s
  · rename_i r _
    have htick := (elapse_keeps r s).trans (tickClock_keeps _)
    exact keeps_ite (fun _ => keeps_ite (fun _ => (htick.trans (postClockTop_keeps _)).trans (settle_keeps _)) (fun _ => htick))
      (fun _ => .refl s)

/-! ### The slots -/

theorem execNewTicket_completes (ps : List Byte) (s : State) : Completes s (execNewTicket ps s) :=
  completes_command _ _ s fun _ => unlessBusy_keeps fun hidle => withParams_keeps fun p _ => newTicket_keeps hidle p

theorem execWeighStep_completes (ps : List Byte) (s : State) : Completes s (execWeighStep ps s) :=
  completes_command _ _ s fun _ => unlessBusy_keeps fun hidle => withParams_keeps fun p _ => weighStep_keeps hidle p

theorem execPay_completes (ps : List Byte) (s : State) : Completes s (execPay ps s) :=
  completes_command _ _ s fun _ => unlessBusy_keeps fun hidle => withParams_keeps fun p _ => pay_keeps hidle p

theorem execZero_completes (ps : List Byte) (s : State) : Completes s (execZero ps s) :=
  completes_command _ _ s fun _ => unlessBusy_keeps zero_keeps

theorem unlessOffered_keeps {body : State → Reply} {u : State} (h : Keeps u (body u).1) :
    Keeps u (if u.offered then reply .busy u else body u).1 := keeps_reply_ite (fun _ => .refl u) (fun _ => h)

theorem execRefill_completes (ps : List Byte) (s : State) : Completes s (execRefill ps s) :=
  completes_command _ _ s fun u => unlessOffered_keeps (withParams_keeps fun p _ => refill_keeps p u)

theorem execSetDenominations_completes (ps : List Byte) (s : State) : Completes s (execSetDenominations ps s) :=
  completes_command _ _ s fun u => unlessOffered_keeps (withParams_keeps fun l _ => setDenominations_keeps l u)

theorem execConfirmTimerExpiry_completes (s : State) : Completes s (execConfirmTimerExpiry s) := by
  refine completes_next ?_
  split
  · exact .refl s
  · split
    · exact .refl s
    · exact powered_keeps (((elapse_keeps _ s).trans (withdrawOffer_keeps _ _)).trans (postNotice_keeps _ _))

/-! ### The link -/

theorem execClaimWindowExpiry_completes (slot : SlotId) (s : State) : Completes s (execClaimWindowExpiry slot s) := by
  refine completes_next ?_
  split
  · exact .refl s
  · exact powered_keeps ((elapse_keeps _ s).trans (windowExpired_keeps slot _))

theorem execJoinTimerExpiry_completes (s : State) : Completes s (execJoinTimerExpiry s) := by
  refine completes_next ?_
  split
  · exact .refl s
  · exact powered_keeps ((elapse_keeps _ s).trans (joined_keeps _))

theorem execAnnounceTimerExpiry_completes (s : State) : Completes s (execAnnounceTimerExpiry s) := by
  refine completes_next ?_
  split
  · exact .refl s
  · exact powered_keeps (((elapse_keeps _ s).trans (keeps_link_same _ _ rfl rfl)).trans (announceDue_keeps _))

theorem execPeerPresenceTimeout_completes (x : Nat) (s : State) : Completes s (execPeerPresenceTimeout x s) := by
  refine completes_next ?_
  split
  · exact keeps_ite (fun _ => powered_keeps ((elapse_keeps _ s).trans (peerAbsent_keeps x _))) (fun _ => .refl s)
  · exact .refl s

theorem execUpAloneTimeout_completes (s : State) : Completes s (execUpAloneTimeout s) := by
  refine completes_next ?_
  split
  · exact .refl s
  · exact powered_keeps ((elapse_keeps _ s).trans (enterSending_keeps .alone _))

theorem execReassemblyTimeout_completes (x : Nat) (s : State) : Completes s (execReassemblyTimeout x s) := by
  refine completes_next ?_
  split
  · exact .refl s
  · exact powered_keeps ((elapse_keeps _ s).trans (breakContext_keeps x _))

theorem execTransmitTimeout_completes (p : Nat) (s : State) : Completes s (execTransmitTimeout p s) := by
  refine completes_next ?_
  split
  · exact .refl s
  · split
    · exact .refl s
    · exact powered_keeps ((elapse_keeps _ s).trans (timeoutAt_keeps p _ _))

theorem execIdConflictDetected_completes (s : State) : Completes s (execIdConflictDetected s) :=
  completes_powered (keeps_ite (fun _ => enterSilent_keeps .bit s) (fun _ => .refl s))

theorem execBadCrcFrame_completes (s : State) : Completes s (execBadCrcFrame s) :=
  completes_powered ((keeps_link_same s _ rfl rfl).trans (driveAck_keeps false _))

/-! ### Printer and scale -/

theorem execHeaderContinue_completes (ps : List Byte) (s : State) : Completes s (execHeaderContinue ps s) :=
  completes_powered (endFrame_keeps (actOn_keeps (headerContinue_keeps _) _ ps) _ s)

theorem execStallTimerExpiry_completes (s : State) : Completes s (execStallTimerExpiry s) := by
  refine completes_next ?_
  split
  · exact .refl s
  · exact powered_keeps ((((elapse_keeps _ s).trans (onPrinter_keeps _ _)).trans (judge_keeps _ _)).trans (suspendJob_keeps true _))

theorem execPaperOutActive_completes (s : State) : Completes s (execPaperOutActive s) :=
  completes_next (keeps_ite (fun _ => .refl s) (fun _ => printerPin_keeps _ paperOut_keeps s))

theorem execFaultActive_completes (s : State) : Completes s (execFaultActive s) :=
  completes_next (printerPin_keeps _
    (fun u => keeps_ite (fun _ => .refl u) (fun _ => (judge_keeps _ u).trans (suspendJob_keeps true _))) s)

theorem execSampleMessage_completes (status : SampleStatus) (raw : Int) (s : State) :
    Completes s (execSampleMessage status raw s) :=
  completes_powered (keeps_ite (fun _ => sample_keeps status raw s) (fun _ => .refl s))

theorem execSilenceTimerExpiry_completes (s : State) : Completes s (execSilenceTimerExpiry s) := by
  refine completes_next ?_
  split
  · exact .refl s
  · exact powered_keeps ((((elapse_keeps _ s).trans (onScale_keeps _ _)).trans (latchEvent_keeps _ _ _)).trans (faultCapture_keeps _))

theorem execCaptureTimerExpiry_completes (s : State) : Completes s (execCaptureTimerExpiry s) := by
  refine completes_next ?_
  split
  · exact .refl s
  · exact powered_keeps (((elapse_keeps _ s).trans (dropCapture_keeps _)).trans (failCapture_keeps _ _))

/-! ### Every command and every step -/

theorem exec_completes (c : Instr) (s : State) : Completes s (exec c s) := by
  cases c with
  | powerOn i r k agrees => exact execPowerOn_completes i r k agrees s
  | powerLoss => exact execPowerLoss_completes s
  | selectActive => exact execSelectActive_completes s
  | selectTimeout => exact execSelectTimeout_completes s
  | frameRejected => exact execFrameRejected_completes s
  | nop ps => exact execNop_completes ps s
  | reset ps => exact execReset_completes ps s
  | readNotice ps => exact completes_command _ _ s readNotice_keeps
  | setAttn ps => exact completes_command _ _ s fun u => withParams_keeps fun on _ => setAttn_keeps on u
  | clearFlags ps => exact completes_command _ _ s fun u => withParams_keeps fun m _ => clearFlags_keeps m u
  | clearAll ps => exact completes_command _ _ s fun u => keeps_okWith (clearNamed_keeps _ true u)
  | readFlags ps => exact completes_command _ _ s fun u => keeps_okWith (.refl u)
  | setIdentity ps => exact completes_command _ _ s (setIdentity_keeps ps)
  | configure ps => exact completes_command _ _ s fun u => withParams_keeps fun l _ => configure_keeps l u
  | configureDefaults ps => exact completes_command _ _ s configureDefaults_keeps
  | readConfig ps => exact completes_command _ _ s fun u => keeps_okWith (.refl u)
  | dayOpen ps => exact execDayOpen_completes ps s
  | dayClose ps => exact completes_command _ _ s fun u => withParams_keeps fun force _ => dayClose_keeps force u
  | yardClockTick => exact execYardClockTick_completes s
  | clockTop => exact execClockTop_completes s
  | newTicket ps => exact execNewTicket_completes ps s
  | weighStep ps => exact execWeighStep_completes ps s
  | voidTicket ps => exact completes_command _ _ s fun u => withParams_keeps fun t _ => voidTicket_keeps t u
  | weighCancel ps => exact completes_command _ _ s weighCancel_keeps
  | zero ps => exact execZero_completes ps s
  | readWeight ps => exact completes_command _ _ s readWeight_keeps
  | pay ps => exact execPay_completes ps s
  | payConfirm ps => exact completes_command _ _ s fun u => withParams_keeps fun t _ => payConfirm_keeps t u
  | payCancel ps => exact completes_command _ _ s payCancel_keeps
  | readOffer ps => exact completes_command _ _ s readOffer_keeps
  | refill ps => exact execRefill_completes ps s
  | setDenominations ps => exact execSetDenominations_completes ps s
  | setCashLimits ps => exact completes_command _ _ s fun u => withParams_keeps fun p _ => setCashLimits_keeps p u
  | readDrawer ps => exact completes_command _ _ s fun u => keeps_okWith (.refl u)
  | loadGrade ps => exact completes_command _ _ s fun u => withParams_keeps fun p _ => loadGrade_keeps p u
  | addPriceVersion ps => exact completes_command _ _ s fun u => withParams_keeps fun p _ => addPriceVersion_keeps p u
  | readGrade ps => exact completes_command _ _ s fun u => withParams_keeps fun p _ => readGrade_keeps p u
  | readTicket ps => exact completes_command _ _ s fun u => withParams_keeps fun p _ => readTicket_keeps p u
  | findByTag ps => exact completes_command _ _ s fun u => withParams_keeps fun tag _ => findByTag_keeps tag u
  | listTickets ps => exact completes_command _ _ s fun u => withParams_keeps fun b _ => listTickets_keeps b u
  | releaseForeign ps => exact completes_command _ _ s (releaseForeign_keeps ps)
  | readLink ps => exact completes_command _ _ s fun u => withParams_keeps fun b _ => readLink_keeps b u
  | readRoster ps => exact completes_command _ _ s fun u => keeps_okWith (.refl u)
  | reprint ps => exact completes_command _ _ s fun u => withParams_keeps fun p _ => reprint_keeps p u
  | printText ps => exact completes_command _ _ s fun u => withParams_keeps fun t _ => printText_keeps t u
  | cancelJob ps => exact completes_command _ _ s fun u => withParams_keeps fun n _ => cancelJob_keeps n u
  | printerLoan ps => exact completes_command _ _ s printerLoan_keeps
  | reclaim ps => exact completes_command _ _ s reclaim_keeps
  | headerBegin ps => exact completes_command _ _ s fun u => withParams_keeps fun p _ => headerBegin_keeps p u
  | headerContinue ps => exact execHeaderContinue_completes ps s
  | readPrinter ps => exact completes_command _ _ s fun u => withParams_keeps fun n _ => readPrinter_keeps n u
  | sampleMessage status raw => exact execSampleMessage_completes status raw s
  | malformedSample => exact completes_powered (.refl s)
  | silenceTimerExpiry => exact execSilenceTimerExpiry_completes s
  | captureTimerExpiry => exact execCaptureTimerExpiry_completes s
  | claimWindowExpiry slot => exact execClaimWindowExpiry_completes slot s
  | confirmTimerExpiry => exact execConfirmTimerExpiry_completes s
  | frameStart => exact completes_powered (startFrame_keeps s)
  | arbitrationLost => exact completes_powered (loseArbitration_keeps s)
  | attemptEnd ack => exact completes_powered (endAttempt_keeps ack s)
  | transmitTimeout p => exact execTransmitTimeout_completes p s
  | idConflictDetected => exact execIdConflictDetected_completes s
  | badCrcFrame => exact execBadCrcFrame_completes s
  | malformedFrame x => exact completes_powered (receiveMalformed_keeps x s)
  | claimReceived x bs => exact completes_powered (receive_keeps .claim x bs s)
  | objectReceived x bs => exact completes_powered (receive_keeps .object x bs s)
  | releaseReceived x bs => exact completes_powered (receive_keeps .release x bs s)
  | closedReceived x bs => exact completes_powered (receive_keeps .closed x bs s)
  | headReceived x bs => exact completes_powered (receive_keeps .head x bs s)
  | lineReceived x bs => exact completes_powered (receive_keeps .line x bs s)
  | noteReceived x bs => exact completes_powered (receive_keeps .note x bs s)
  | askReceived x bs => exact completes_powered (receive_keeps .ask x bs s)
  | announceReceived x bs => exact completes_powered (receive_keeps .announce x bs s)
  | reassemblyTimeout x => exact execReassemblyTimeout_completes x s
  | joinTimerExpiry => exact execJoinTimerExpiry_completes s
  | announceTimerExpiry => exact execAnnounceTimerExpiry_completes s
  | peerPresenceTimeout x => exact execPeerPresenceTimeout_completes x s
  | upAloneTimeout => exact execUpAloneTimeout_completes s
  | handCode => exact completes_powered (handCode_keeps s)
  | busyActive => exact completes_next (printerPin_keeps _ .refl s)
  | busyInactive => exact completes_next (printerPin_keeps _ .refl s)
  | stallTimerExpiry => exact execStallTimerExpiry_completes s
  | paperOutActive => exact execPaperOutActive_completes s
  | paperOutClear => exact completes_next (printerPin_keeps _ .refl s)
  | faultActive => exact execFaultActive_completes s
  | faultInactive => exact completes_next (printerPin_keeps _ .refl s)

/-- What stands in a state stands in the next one: the commands still waiting aside, a step is a command or an idle millisecond. -/
theorem step_keeps_invariants {s t : State} (h : step s = .next t) :
    (s.noticesOk → t.noticesOk) ∧ (s.closedOk → t.closedOk) ∧ (s.queueOk → t.queueOk) ∧ (s.ticketsOk → t.ticketsOk) := by
  cases hp : s.pending with
  | nil =>
    simp only [step, hp] at h
    cases h
    have hk := elapse_keeps 1 s
    exact ⟨hk.notices, hk.closed, hk.queue, hk.tickets⟩
  | cons c rest =>
    simp only [step, hp] at h
    obtain ⟨u, hu, hk⟩ := exec_completes c { s with pending := rest }
    rw [hu] at h
    cases h
    exact ⟨hk.notices, hk.closed, hk.queue, hk.tickets⟩

end Sys2Proof.Machine

open Sys2Proof Sys2Proof.Machine

/-- Settles O57, as a step is a change that `Keeps` describes. -/
theorem stepKeepsNoticesAndClosedList : Obligations.StepKeepsNoticesAndClosedList := by
  intro s t hn hc h
  obtain ⟨hnotices, hclosed, _, _⟩ := step_keeps_invariants h
  exact ⟨hnotices hn, hclosed hc⟩

/-- Settles O58, as a step is a change that `Keeps` describes. -/
theorem stepKeepsTheTransmitQueue : Obligations.StepKeepsTheTransmitQueue := by
  intro s t hq h
  obtain ⟨_, _, hqueue, _⟩ := step_keeps_invariants h
  exact hqueue hq

/-- Settles O59, as a step is a change that `Keeps` describes. -/
theorem stepKeepsTheTicketStore : Obligations.StepKeepsTheTicketStore := by
  intro s t hs h
  obtain ⟨_, _, _, htickets⟩ := step_keeps_invariants h
  exact htickets hs

/-- Settles O3: each command's outcome is a next state that `Keeps` relates to the state before it. -/
theorem everyCommandCompletesAndLeavesTheQueue : Obligations.EveryCommandCompletesAndLeavesTheQueue := by
  intro c s
  obtain ⟨t, ht, hk⟩ := exec_completes c s
  exact ⟨t, ht, hk.pending⟩
end

section
/-! The step, the status byte, notices, flags and the fault scope: what posting, latching, clearing and gating do. -/

namespace Sys2Proof.Machine

/-! ### The status byte -/

/-- Eight marks packed into a byte are its bits. -/
theorem getLsbD_marks (a b c d e f g h : Bool) :
    let x : Byte := byte (128 * a.toNat + 64 * b.toNat + 32 * c.toNat + 16 * d.toNat + 8 * e.toNat + 4 * f.toNat + 2 * g.toNat
      + h.toNat)
    x.getLsbD 7 = a ∧ x.getLsbD 6 = b ∧ x.getLsbD 5 = c ∧ x.getLsbD 4 = d ∧ x.getLsbD 3 = e ∧ x.getLsbD 2 = f ∧
      x.getLsbD 1 = g ∧ x.getLsbD 0 = h := by
  decide +revert

theorem anyStop_eq (s : State) : s.anyStop = (s.flags.scaleFault.latched || s.flags.overload.latched ||
    s.flags.printerFault.latched || s.flags.conflict.latched || s.flags.idConflict.latched || s.flags.retainedLost.latched) := by
  simp [State.anyStop, Flag.all, Flag.isStop, State.latched, State.flag, Flags.get, Bool.or_assoc]

theorem anyWarn_eq (s : State) : s.anyWarn = (s.flags.linkDown.latched || s.flags.tableFull.latched ||
    s.flags.reassemblyLost.latched || s.flags.printLost.latched || s.flags.cashWarn.latched || s.flags.cashLimit.latched ||
    s.flags.drawerLow.latched || s.flags.noticeOverflow.latched) := by
  simp [State.anyWarn, Flag.all, Flag.isStop, State.latched, State.flag, Flags.get, Bool.or_assoc]

/-! ### Notices -/

theorem nextSeq_eq {n : Nat} (h : n < 256) : (n + 1) % 256 = if n = 255 then 0 else n + 1 := by
  split <;> omega

theorem postNotice_room {n : Notice} {s : State} (h : s.notices.queue.length < 16) :
    postNotice n s = s.onNotices (fun q => { q with queue := q.queue ++ [(q.seq, n)], seq := (q.seq + 1) % 256 }) :=
  if_pos h

theorem postNotice_full {n : Notice} {s : State} (h : 16 ≤ s.notices.queue.length) :
    postNotice n s = (s.onNotices (fun q => { q with seq := (q.seq + 1) % 256 })).setFlag .noticeOverflow
      ((s.flag .noticeOverflow).grown (.notice n.kind)) :=
  if_neg (Nat.not_lt.2 h)

/-! ### Flag records -/

@[simp] theorem Flags.get_set_self (f : Flag) (r : FlagRecord) (fs : Flags) : (fs.set f r).get f = r := by
  cases f <;> rfl

@[simp] theorem Flags.get_set_other {f g : Flag} (h : g ≠ f) (r : FlagRecord) (fs : Flags) :
    (fs.set f r).get g = fs.get g := by
  cases f <;> cases g <;> simp_all [Flags.get, Flags.set]

@[simp] theorem Flags.set_restarted (f : Flag) (r : FlagRecord) (fs : Flags) : (fs.set f r).restarted = fs.restarted := by
  cases f <;> rfl

/-- The flag takes a record and a FLAG notice is posted: what a latch with room in the notice queue does. -/
theorem flagPosted_eq {f : Flag} {r : FlagRecord} {d : Detail} {s : State} (h : s.notices.queue.length < 16) :
    postNotice (.flag f d) (s.setFlag f r) =
      { s with
        flags := s.flags.set f r
        notices := { s.notices with queue := s.notices.queue ++ [(s.notices.seq, .flag f d)], seq := (s.notices.seq + 1) % 256 } } :=
  postNotice_room (s := s.setFlag f r) h

theorem latchCondition_clear {f : Flag} {d : Detail} {s : State} (hl : s.latched f = false) :
    latchCondition f d s = postNotice (.flag f d) (s.setFlag f { latched := true, count := 0, detail := d }) :=
  if_neg (by simp [hl])

theorem latchCondition_latched {f : Flag} {d : Detail} {s : State} (hl : s.latched f = true) : latchCondition f d s = s :=
  if_pos hl

theorem judge_holds {f : Flag} {s : State} (h : condition f s = true) : judge f s = latchCondition f (conditionDetail f s) s :=
  if_pos h

theorem judge_fails {f : Flag} {s : State} (h : condition f s = false) : judge f s = s := if_neg (by simp [h])

theorem judge_latched {f : Flag} {s : State} (h : s.latched f = true) : judge f s = s := by
  unfold judge
  split
  · exact latchCondition_latched h
  · rfl

/-! ### Clearing -/

theorem clearFlag_flag (f g : Flag) (s : State) :
    (clearFlag f s).flag g = if g = f ∧ ¬(f.isCondition = true ∧ condition f s = true) then .clear else s.flag g := by
  by_cases h : f.isCondition = true ∧ condition f s = true
  · simp [clearFlag, h]
  · by_cases hg : g = f
    · subst hg
      simp only [Bool.and_eq_true, clearFlag, h, if_false, State.setFlag, State.flag, State.onFlags_flags, Flags.get_set_self,
        not_false_iff, and_self, if_true]
    · simp only [Bool.and_eq_true, clearFlag, h, if_false, State.setFlag, State.flag, State.onFlags_flags,
        Flags.get_set_other hg, hg, false_and]

/-- A condition reads no flag. -/
theorem condition_clearFlag (f g : Flag) (s : State) : condition f (clearFlag g s) = condition f s := by
  obtain ⟨_, _, _, _, _, _, _, _, hlink, _, _, _, hdrawer, hprinter, _⟩ := clearFlag_frame g s
  cases f <;> simp only [condition, hlink, hdrawer, hprinter]

theorem clearFlag_restarted (f : Flag) (s : State) : (clearFlag f s).flags.restarted = s.flags.restarted := by
  unfold clearFlag
  split <;> simp [State.setFlag]

/-- Clearing the named flags of a list one after the other. -/
theorem clearEach_flag (names : Flag → Bool) (g : Flag) : ∀ (l : List Flag) (s : State),
    (l.foldl (fun s f => if names f then clearFlag f s else s) s).flag g =
      if g ∈ l ∧ names g = true ∧ ¬(g.isCondition = true ∧ condition g s = true) then .clear else s.flag g
  | [], s => by simp
  | f :: l, s => by
    rw [List.foldl_cons, clearEach_flag names g l]
    by_cases hf : names f = true
    · rw [if_pos hf, condition_clearFlag, clearFlag_flag]
      by_cases hg : g = f
      · subst hg
        by_cases hc : g.isCondition = true ∧ condition g s = true <;> simp [hc, hf]
      · simp [hg]
    · rw [if_neg hf]
      by_cases hg : g = f
      · subst hg; simp [hf]
      · simp [hg]

theorem clearNamed_flag (names : Flag → Bool) (b : Bool) (g : Flag) (s : State) :
    (clearNamed names b s).flag g =
      if names g = true ∧ ¬(g.isCondition = true ∧ condition g s = true) then .clear else s.flag g := by
  have hall : g ∈ Flag.all := by cases g <;> decide
  have h := clearEach_flag names g Flag.all s
  simp only [hall, true_and] at h
  rw [← h]
  cases b
  · rfl
  · cases g <;> rfl

theorem clearNamed_restarted (names : Flag → Bool) (b : Bool) (s : State) :
    (clearNamed names b s).flags.restarted = (s.flags.restarted && !b) := by
  have h : (Flag.all.foldl (fun s f => if names f then clearFlag f s else s) s).flags.restarted = s.flags.restarted :=
    foldl_keeps (fun s => s.flags.restarted) _ (fun s f => by split <;> simp [clearFlag_restarted]) _ s
  cases b
  · simpa [clearNamed] using h
  · simp [clearNamed]

theorem clearNamed_eq (names : Flag → Bool) (b : Bool) (s : State) :
    clearNamed names b s = { s with flags := (clearNamed names b s).flags } := by
  obtain ⟨h1, h2, h3, h4, h5, h6, h7, h8, h9, h10, h11, h12, h13, h14, h15, h16, h17, h18⟩ := clearNamed_frame names b s
  generalize clearNamed names b s = t at *
  cases t
  cases s
  simp_all

/-! ### The fault scope -/

theorem anyStop_iff (s : State) : s.anyStop = true ↔ ∃ f : Flag, f.isStop = true ∧ s.latched f = true := by
  simp only [State.anyStop, List.any_eq_true, Bool.and_eq_true]
  exact ⟨fun ⟨f, _, h⟩ => ⟨f, h⟩, fun ⟨f, h⟩ => ⟨f, by cases f <;> decide, h⟩⟩

/-- The rows of R190's table. -/
theorem blockRefuses_iff (required : Bool) (f : Flag) (o : GatedOp) : blockRefuses required f o = true ↔
    ((f = .scaleFault ∨ f = .overload) ∧ (o = .newTicket ∨ o = .weighStep ∨ o = .zero)) ∨
      (f = .printerFault ∧ required = true ∧ (o = .newTicket ∨ o = .weighStep ∨ o = .voidTicket ∨ o = .pay)) ∨
      (f = .conflict ∧ (o = .weighStep ∨ o = .voidTicket ∨ o = .pay)) := by
  cases f <;> cases o <;> simp [blockRefuses]

theorem gatePasses_station {o : GatedOp} {s : State} (h : s.settings.faultScope = .station) :
    gatePasses o s = false ↔ ∃ f : Flag, f.isStop = true ∧ s.latched f = true := by
  rw [← anyStop_iff]
  simp [gatePasses, h]

theorem gatePasses_block {o : GatedOp} {s : State} (h : s.settings.faultScope = .block) :
    gatePasses o s = false ↔ ∃ f : Flag, s.latched f = true ∧ blockRefuses s.settings.receiptRequired f o = true := by
  have hall (f : Flag) : f ∈ Flag.all := by cases f <;> decide
  simp [gatePasses, h, hall]

end Sys2Proof.Machine

/-! ### The obligations -/

open Sys2Proof Sys2Proof.Machine

/-- Settles O1, the definition of the step. -/
theorem stepRunsTheFrontCommand : Obligations.StepRunsTheFrontCommand := by
  intro c rest s h
  simp only [step, h]

/-- Settles O2: the idle step is one millisecond of `elapse`. -/
theorem emptyQueueLetsAMillisecondPass : Obligations.EmptyQueueLetsAMillisecondPass := by
  intro s h less
  have hstep : step s = .next (elapse 1 s) := by simp only [step, h]
  rw [hstep]
  cases hf : s.port.frame <;> simp only [elapse, hf, PortFrame.elapse] <;> rfl

/-- Settles O60: every list of the reset state is empty. -/
theorem resetHasTheInvariants : Obligations.ResetHasTheInvariants := by
  refine ⟨?_, ?_, ?_, ?_⟩ <;> decide

/-- Settles O7: the status byte packs its eight marks, STOP and WARN flags told by the flag table. -/
theorem statusByteMarks : Obligations.StatusByteMarks := by
  intro s
  rw [← anyStop_eq, ← anyWarn_eq]
  exact getLsbD_marks s.flags.restarted (!s.notices.queue.isEmpty) s.anyStop s.anyWarn s.port.portError s.weigh.isSome
    s.payOp.isSome s.port.answerNew

end

section
/-! The coding of numbers and parameters read back, and a command of the controller port whose frame is taken: which check refuses
it, and what its own rule answers. -/

namespace Sys2Proof.Machine

/-! ### Numbers in bytes -/

@[simp] theorem bytesOf_length (w v : Nat) : (bytesOf w v).length = w := by
  induction w generalizing v with
  | zero => rfl
  | succ w ih => simp [bytesOf, ih]

theorem natOf_append_singleton (bs : List Byte) (b : Byte) : natOf (bs ++ [b]) = natOf bs * 256 + b.toNat := by
  simp [natOf]

@[simp] theorem byte_toNat (n : Nat) : (byte n).toNat = n % 256 := by simp [byte]

theorem natOf_bytesOf : ∀ (w : Nat) {v : Nat}, v < 256 ^ w → natOf (bytesOf w v) = v
  | 0, v, h => by
    have : v = 0 := by simpa using h
    subst this; rfl
  | w + 1, v, h => by
    rw [bytesOf, natOf_append_singleton, natOf_bytesOf w (Nat.div_lt_of_lt_mul (by rwa [Nat.pow_succ, Nat.mul_comm] at h)),
      byte_toNat]
    omega

theorem natOf_lt (bs : List Byte) : natOf bs < 256 ^ bs.length := by
  induction hk : bs.length generalizing bs with
  | zero => rw [List.eq_nil_of_length_eq_zero hk]; decide
  | succ k ih =>
    obtain ⟨bs, b, rfl⟩ := List.eq_nil_or_concat bs |>.resolve_left (List.ne_nil_of_length_eq_add_one hk)
    have := b.isLt
    rw [List.concat_eq_append] at hk ⊢
    have := ih bs (by simpa using hk)
    rw [natOf_append_singleton, Nat.pow_succ]
    omega

/-- The two's complement of a number in range reads back. -/
theorem intOf_signedBytes (w : Nat) {v : Int} (hlo : -((256 ^ w : Nat) : Int) ≤ 2 * v) (hhi : 2 * v < ((256 ^ w : Nat) : Int)) :
    intOf (signedBytes w v) = v := by
  have hpos : (0 : Int) < ((256 ^ w : Nat) : Int) := Int.natCast_pos.2 (Nat.pow_pos (by decide))
  have hmod : (v % ((256 ^ w : Nat) : Int)).toNat < 256 ^ w := by
    have := Int.emod_lt_of_pos v hpos
    have := Int.emod_nonneg v (Int.ne_of_gt hpos)
    omega
  have hval : ((v % ((256 ^ w : Nat) : Int)).toNat : Int) = if v < 0 then v + ((256 ^ w : Nat) : Int) else v := by
    rw [Int.toNat_of_nonneg (Int.emod_nonneg v (Int.ne_of_gt hpos))]
    split
    · rw [← Int.add_emod_right, Int.emod_eq_of_lt] <;> omega
    · rw [Int.emod_eq_of_lt] <;> omega
  simp only [intOf, signedBytes, bytesOf_length, natOf_bytesOf w hmod]
  generalize (v % ((256 ^ w : Nat) : Int)).toNat = m at hval hmod ⊢
  generalize 256 ^ w = k at *
  split at hval <;> split <;> omega

/-! ### Reading parameters -/

theorem takeNat_bytes {w : Nat} {bs : List Byte} (h : bs.length = w) (rest : List Byte) :
    takeNat w (bs ++ rest) = some (natOf bs, rest) := by
  subst h
  simp [takeNat]

theorem takeNat_bytesOf {w v : Nat} (h : v < 256 ^ w) (rest : List Byte) : takeNat w (bytesOf w v ++ rest) = some (v, rest) := by
  rw [takeNat_bytes (bytesOf_length w v), natOf_bytesOf w h]

@[simp] theorem takeNat_byte (b : Byte) (rest : List Byte) : takeNat 1 (b :: rest) = some (b.toNat, rest) := by
  simp [takeNat, natOf]

@[simp] theorem takeNat_one_nil : takeNat 1 [] = none := rfl

@[simp] theorem takeNat_two (a b : Byte) (rest : List Byte) :
    takeNat 2 (a :: b :: rest) = some (a.toNat * 256 + b.toNat, rest) := by
  simp [takeNat, natOf]

theorem takeInt_bytes {w : Nat} {bs : List Byte} (h : bs.length = w) (rest : List Byte) :
    takeInt w (bs ++ rest) = some (intOf bs, rest) := by
  subst h
  simp [takeInt]

@[simp] theorem signedBytes_length (w : Nat) (v : Int) : (signedBytes w v).length = w := bytesOf_length w _

@[simp] theorem ticketBytes_length (n : TicketNo) : (ticketBytes n).length = 3 := by simp [ticketBytes]

/-- A ticket number whose parts fit their bytes reads back. -/
theorem takeTicket_ticketBytes {n : TicketNo} (hh : n.home < 256) (hs : n.serial < 65536) (rest : List Byte) :
    takeTicket (ticketBytes n ++ rest) = some (n, rest) := by
  simp only [takeTicket, ticketBytes, List.cons_append, takeNat_byte, byte_toNat, Nat.mod_eq_of_lt hh,
    takeNat_bytesOf (w := 2) hs, Option.bind_eq_bind, Option.bind_some, Option.pure_def]

theorem toNat_map_byte {t : Text} (h : ∀ c ∈ t, c < 256) : (t.map byte).map BitVec.toNat = t := by
  rw [List.map_map]
  refine (List.map_congr_left fun c hc => ?_).trans (List.map_id t)
  simpa using Nat.mod_eq_of_lt (h c hc)

/-- A text of fewer than 256 characters reads back. -/
theorem takeText_textBytes {t : Text} (hl : t.length < 256) (h : ∀ c ∈ t, c < 256) (rest : List Byte) :
    takeText (textBytes t ++ rest) = some (t, rest) := by
  have hlen : t.length ≤ (t.map byte ++ rest).length := by simp
  have htake : (t.map byte ++ rest).take t.length = t.map byte := List.take_left' (by simp)
  have hdrop : (t.map byte ++ rest).drop t.length = rest := List.drop_left' (by simp)
  simp only [takeText, textBytes, List.cons_append, takeNat_byte, byte_toNat, Nat.mod_eq_of_lt hl, Option.bind_eq_bind,
    Option.bind_some, if_pos hlen, htake, hdrop, toNat_map_byte h]

theorem textOk_iff {lo hi : Nat} {t : Text} :
    textOk lo hi t = true ↔ lo ≤ t.length ∧ t.length ≤ hi ∧ ∀ c ∈ t, 32 ≤ c ∧ c ≤ 126 := by
  simp [textOk, and_assoc]

@[simp] theorem whole_nil {α : Type} (a : α) : whole (some (a, ([] : List Byte))) = some a := rfl

@[simp] theorem readOne_byte (b : Byte) : readOne 1 [b] = some b.toNat := by simp [readOne]

theorem readOne_two (a b : Byte) : readOne 2 [a, b] = some (a.toNat * 256 + b.toNat) := by
  simp [readOne]

/-! ### The checks of the acceptance table (R199) -/

theorem waitId_of_role {s : State} {r : Role} (h : s.role = some r) : s.waitId = false := by
  simp only [State.role, State.waitId] at h ⊢
  cases hi : s.identity.inForce with
  | none => rw [hi] at h; cases h
  | some p => rfl

theorem hasWeigh_iff {s : State} : s.hasWeigh = true ↔ s.role = some .bridge ∨ s.role = some .both := by
  simp [State.hasWeigh]

theorem hasPay_iff {s : State} : s.hasPay = true ↔ s.role = some .window ∨ s.role = some .both := by
  simp [State.hasPay]

theorem waitId_iff {s : State} : s.waitId = true ↔ s.identity.inForce = none := by simp [State.waitId]

theorem waitId_of_hasWeigh {s : State} (h : s.hasWeigh = true) : s.waitId = false := by
  rcases hasWeigh_iff.1 h with h | h <;> exact waitId_of_role h

theorem waitId_of_hasPay {s : State} (h : s.hasPay = true) : s.waitId = false := by
  rcases hasPay_iff.1 h with h | h <;> exact waitId_of_role h

/-- A station with the slot has a place for the slot's commands. -/
theorem placeRefusal_weigh {s : State} (h : s.hasWeigh = true) : placeRefusal .weigh s = none := by
  simp [placeRefusal, h, waitId_of_hasWeigh h]

theorem placeRefusal_pay {s : State} (h : s.hasPay = true) : placeRefusal .pay s = none := by
  simp [placeRefusal, h, waitId_of_hasPay h]

/-- The four checks pass. -/
theorem Acceptance.refusal_none {a : Acceptance} {l : Nat} {s : State} (hp : placeRefusal a.places s = none)
    (hg : a.gated = false ∨ s.flags.restarted = false)
    (hd : (if s.day.isOpen then a.whenOpen else a.whenClosed) = true) (hl : l ∈ a.lengths) : a.refusal l s = none := by
  have hgate : (a.gated && s.flags.restarted) = false := by
    rcases hg with hg | hg <;> simp [hg]
  simp [Acceptance.refusal, hp, hgate, hd, hl]

theorem always_refusal {code l : Nat} {ls : List Nat} {s : State} (hl : l ∈ ls) : (always code ls).refusal l s = none :=
  Acceptance.refusal_none rfl (.inl rfl) (by simp [always]) hl

theorem whileClosed_refusal {code l : Nat} {ls : List Nat} {s : State} (hd : s.day.isOpen = false) (hl : l ∈ ls) :
    (whileClosed code ls).refusal l s = none :=
  Acceptance.refusal_none rfl (.inl rfl) (by simp [whileClosed, hd]) hl

theorem weighAlways_refusal {code l : Nat} {ls : List Nat} {s : State} (hw : s.hasWeigh = true) (hl : l ∈ ls) :
    (weighAlways code ls).refusal l s = none :=
  Acceptance.refusal_none (placeRefusal_weigh hw) (.inl rfl) (by simp [weighAlways, always]) hl

theorem payAlways_refusal {code l : Nat} {ls : List Nat} {s : State} (hw : s.hasPay = true) (hl : l ∈ ls) :
    (payAlways code ls).refusal l s = none :=
  Acceptance.refusal_none (placeRefusal_pay hw) (.inl rfl) (by simp [payAlways, always]) hl

theorem weighOpen_refusal {code l : Nat} {ls : List Nat} {s : State} (hw : s.hasWeigh = true) (ho : s.day.isOpen = true)
    (hr : s.flags.restarted = false) (hl : l ∈ ls) : (weighOpen code ls).refusal l s = none :=
  Acceptance.refusal_none (placeRefusal_weigh hw) (.inr hr) (by simp [weighOpen, ho]) hl

/-! ### The command taken -/

/-- The rule's own answer is written where no check refuses the command. -/
theorem command_answers {a : Acceptance} {ps : List Byte} {body : State → Reply} {s t : State} {bs : List Byte}
    (h : s.takes ps.length) (hc : a.code ∈ commandCodes) (ha : a.refusal ps.length s = none)
    (hb : body (s.accepted ps.length) = (t, bs)) :
    (.next (command a ps body s) : Host.Outcome State Fault Refusal) = .next (t.answered bs) := by
  rw [command_taken h hc ((a.refusal_accepted _ _ s).trans ha), hb]

/-- The refusal alone is written where a check refuses the command. -/
theorem command_refuses {a : Acceptance} {ps : List Byte} {body : State → Reply} {s : State} {r : Result}
    (h : s.takes ps.length) (hc : a.code ∈ commandCodes) (ha : a.refusal ps.length s = some r) :
    (.next (command a ps body s) : Host.Outcome State Fault Refusal) = .next ((s.accepted ps.length).answered [byte r.code]) := by
  rw [command_refused h hc ((a.refusal_accepted _ _ s).trans ha)]

end Sys2Proof.Machine

/-! ### The obligations -/

open Sys2Proof Sys2Proof.Machine

/-- Settles O8: posting, latching and judging, each by the lemma on its operation. -/
theorem noticesAndFlagLatches : Obligations.NoticesAndFlagLatches := by
  refine ⟨fun n s hseq => ⟨fun h => ?_, fun h => ?_⟩, ?_, fun f s hf => ⟨judge_fails, judge_latched, ?_⟩⟩
  · rw [postNotice_room h, ← nextSeq_eq hseq]
    rfl
  · rw [postNotice_full h, ← nextSeq_eq hseq]
    rfl
  · intro f d s hf hne hroom t
    have hplain : t = postNotice (.flag f d) (s.setFlag f ((s.flag f).grown d)) ∨ t = s.setFlag f ((s.flag f).grown d) := by
      simp only [t, latchEvent]
      split
      · exact .inl rfl
      · exact .inr rfl
    have hflags : t.flags = s.flags.set f ((s.flag f).grown d) := by
      rcases hplain with h | h <;> rw [h]
      · rw [flagPosted_eq hroom]
      · rfl
    refine ⟨?_, fun g hg => ?_, ?_, fun hl => ?_, fun hl => ?_, ?_⟩
    · rcases hplain with h | h <;> rw [h]
      · rw [flagPosted_eq hroom]
      · rfl
    · simp only [State.flag, hflags, Flags.get_set_other hg]
    · rw [hflags, Flags.set_restarted]
    · simp only [State.flag, hflags, Flags.get_set_self]
      exact if_neg (by simpa [State.latched, State.flag] using hl)
    · simp only [State.flag, hflags, Flags.get_set_self]
      exact if_pos hl
    · split
      · rename_i hpost
        have : t = postNotice (.flag f d) (s.setFlag f ((s.flag f).grown d)) :=
          if_pos (by simpa using hpost)
        rw [this, flagPosted_eq hroom]
      · rename_i hpost
        have : t = s.setFlag f ((s.flag f).grown d) := if_neg (by simpa using hpost)
        rw [this]
        rfl
  · intro hc hl hroom t
    have ht : t = postNotice (.flag f (conditionDetail f s))
        (s.setFlag f { latched := true, count := 0, detail := conditionDetail f s }) :=
      (judge_holds hc).trans (latchCondition_clear hl)
    rw [flagPosted_eq hroom] at ht
    refine ⟨?_, ?_, fun g hg => ?_, ?_, ?_⟩
    · rw [ht]
    · simp only [ht, State.flag, Flags.get_set_self]
    · simp only [ht, State.flag, Flags.get_set_other hg]
    · rw [ht]; exact Flags.set_restarted f _ _
    · rw [ht]

/-- Settles O10: the commands clear by mask, and the mask's bits are those of its two bytes. -/
theorem clearFlagsAndClearAll : Obligations.ClearFlagsAndClearAll := by
  intro s
  have hbit (hi lo : Byte) (k : Nat) : (hi.toNat * 256 + lo.toNat).testBit k = (hi ++ lo : BitVec 16).getLsbD k := by
    rw [← BitVec.testBit_toNat, BitVec.toNat_append, ← Nat.shiftLeft_add_eq_or_of_lt lo.isLt, Nat.shiftLeft_eq]
  have hhigh (hi lo : Byte) (k : Nat) : (hi ++ lo : BitVec 16).getLsbD (8 + k) = hi.getLsbD k := by
    rw [BitVec.getLsbD_append]
    simp
  have hcode : ∀ c ∈ [5, 6], c ∈ commandCodes := by decide
  refine ⟨fun hi lo h hoff => ?_, fun hi lo h hon => ?_, fun h => ?_⟩
  · refine ⟨clearNamed (fun f => (hi.toNat * 256 + lo.toNat).testBit f.number) ((hi.toNat * 256 + lo.toNat).testBit 15)
      (s.accepted 2), command_answers (ps := [hi, lo]) h (hcode 5 (by simp)) (always_refusal (by simp)) ?_, ?_, ?_, fun f => ?_⟩
    · rw [readOne_two]
      exact if_neg (by rw [hbit, hhigh hi lo 6, hoff]; exact Bool.false_ne_true)
    · rw [← clearNamed_eq]
    · rw [clearNamed_restarted, hbit, hhigh hi lo 7, State.accepted_flags]
    · rw [clearNamed_flag, hbit, accepted_condition]
      simp only [State.flag, State.accepted_flags]
      rfl
  · refine command_answers (ps := [hi, lo]) h (hcode 5 (by simp)) (always_refusal (by simp)) ?_
    rw [readOne_two]
    exact if_pos (by rw [hbit, hhigh hi lo 6, hon])
  · refine ⟨clearNamed (fun _ => true) true (s.accepted 0), command_answers (ps := []) h (hcode 6 (by simp))
      (always_refusal (by simp)) rfl, ?_, ?_, fun f => ?_⟩
    · rw [← clearNamed_eq]
    · simp [clearNamed_restarted]
    · rw [clearNamed_flag, accepted_condition]
      by_cases hc : f.isCondition = true ∧ condition f s = true <;> simp [hc, State.flag, FlagRecord.clear]

/-- Settles O11: the gates by the level and by R190's rows. -/
theorem faultScopeGates : Obligations.FaultScopeGates := by
  refine ⟨fun o s h => gatePasses_station h, fun o s h => ?_, fun s h hw hidle hgate => ?_⟩
  · simp only [gatePasses_block h, blockRefuses_iff]
    constructor
    · rintro ⟨f, hl, ⟨rfl | rfl, ho⟩ | ⟨rfl, hr, ho⟩ | ⟨rfl, ho⟩⟩
      · exact .inl ⟨.inl hl, ho⟩
      · exact .inl ⟨.inr hl, ho⟩
      · exact .inr (.inl ⟨hl, hr, ho⟩)
      · exact .inr (.inr ⟨hl, ho⟩)
    · rintro (⟨hl | hl, ho⟩ | ⟨hl, hr, ho⟩ | ⟨hl, ho⟩)
      · exact ⟨_, hl, .inl ⟨.inl rfl, ho⟩⟩
      · exact ⟨_, hl, .inl ⟨.inr rfl, ho⟩⟩
      · exact ⟨_, hl, .inr (.inl ⟨rfl, hr, ho⟩)⟩
      · exact ⟨_, hl, .inr (.inr ⟨rfl, ho⟩)⟩
  · refine command_answers (ps := []) h (by decide : 24 ∈ commandCodes) (weighAlways_refusal hw (by simp)) ?_
    simp [unlessBusy, State.slotBusy, hidle, zero, hgate, reply, Result.code, byte]

end

section
/-! Every frame in range is read back from its payload. -/

namespace Sys2Proof.Machine

/-! ### The coded values -/

@[simp] theorem purposeOf_code (p : Purpose) : purposeOf p.code = some p := by cases p <;> rfl
@[simp] theorem objectReasonOf_code (r : ObjectReason) : objectReasonOf r.code = some r := by cases r <;> rfl
@[simp] theorem settlementOf_code (h : Settlement) : settlementOf h.code = some h := by cases h <;> rfl
@[simp] theorem lifeOf_code (l : Life) : lifeOf l.code = some l := by cases l <;> rfl
@[simp] theorem noteKindOf_code (k : NoteKind) : noteKindOf k.code = some k := by cases k <;> rfl
@[simp] theorem roleOf_code (r : Role) : roleOf r.code = some r := by cases r <;> rfl
@[simp] theorem dayStateOf_code (b : Bool) : dayStateOf (dayStateCode b) = some b := by cases b <;> rfl
@[simp] theorem boolOf_flagByte (b : Bool) : boolOf (flagByte b).toNat = some b := by cases b <;> rfl

theorem purpose_code_lt (p : Purpose) : p.code < 256 := by cases p <;> decide
theorem objectReason_code_lt (r : ObjectReason) : r.code < 256 := by cases r <;> decide
theorem settlement_code_lt (h : Settlement) : h.code < 256 := by cases h <;> decide
theorem life_code_lt (l : Life) : l.code < 256 := by cases l <;> decide
theorem noteKind_code_lt (k : NoteKind) : k.code < 256 := by cases k <;> decide
theorem role_code_lt (r : Role) : r.code < 256 := by cases r <;> decide
theorem dayStateCode_lt (b : Bool) : dayStateCode b < 256 := by cases b <;> decide
theorem packed_le (a b c d : Bool) : packed a b c d ≤ 15 := by revert a b c d; decide
theorem packed_two_le (a b : Bool) : packed a b false false ≤ 3 := by revert a b; decide

@[simp] theorem packed_mod_two (a b c d : Bool) : packed a b c d % 2 = a.toNat := by revert a b c d; decide
theorem packed_testBit_zero (a b c d : Bool) : (packed a b c d).testBit 0 = a := by revert a b c d; decide
@[simp] theorem packed_testBit_one (a b c d : Bool) : (packed a b c d).testBit 1 = b := by revert a b c d; decide
@[simp] theorem packed_testBit_two (a b c d : Bool) : (packed a b c d).testBit 2 = c := by revert a b c d; decide
@[simp] theorem packed_testBit_three (a b c d : Bool) : (packed a b c d).testBit 3 = d := by revert a b c d; decide

/-! ### One coded value at the front of the bytes -/

/-- A byte that fits reads back. -/
theorem takeNat_one {v : Nat} (h : v < 256) (rest : List Byte) : takeNat 1 (byte v :: rest) = some (v, rest) := by
  rw [takeNat_byte, byte_toNat, Nat.mod_eq_of_lt h]

theorem takeInt_four {v : Int} (h : v.natAbs ≤ Config.maxAmount) (rest : List Byte) :
    takeInt 4 (signedBytes 4 v ++ rest) = some (v, rest) := by
  have hmax : Config.maxAmount < 2 ^ 31 := by decide
  rw [takeInt_bytes (signedBytes_length 4 v), intOf_signedBytes 4 (by omega) (by omega)]

theorem takeInt_four_nil {v : Int} (h : v.natAbs ≤ Config.maxAmount) : takeInt 4 (signedBytes 4 v) = some (v, []) := by
  simpa using takeInt_four h []

theorem takeTicket_ok {n : TicketNo} (h : ticketOk n = true) (rest : List Byte) :
    takeTicket (ticketBytes n ++ rest) = some (n, rest) := by
  simp only [ticketOk, Bool.and_eq_true, decide_eq_true_eq] at h
  exact takeTicket_ticketBytes (by omega) (by omega) rest

theorem takeTicket_ok_nil {n : TicketNo} (h : ticketOk n = true) : takeTicket (ticketBytes n) = some (n, []) := by
  simpa using takeTicket_ok h []

/-! Where a reader goes on with what it took. -/

theorem bind_takeNat_bytesOf {α : Type} {w v : Nat} (h : v < 256 ^ w) (rest : List Byte) (f : Nat × List Byte → Option α) :
    (takeNat w (bytesOf w v ++ rest) >>= f) = f (v, rest) := by rw [takeNat_bytesOf h]; rfl

theorem bind_takeNat_one {α : Type} {v : Nat} (h : v < 256) (rest : List Byte) (f : Nat × List Byte → Option α) :
    (takeNat 1 (byte v :: rest) >>= f) = f (v, rest) := by rw [takeNat_one h]; rfl

theorem bind_takeTicket {α : Type} {n : TicketNo} (h : ticketOk n = true) (rest : List Byte)
    (f : TicketNo × List Byte → Option α) : (takeTicket (ticketBytes n ++ rest) >>= f) = f (n, rest) := by
  rw [takeTicket_ok h]; rfl

/-! ### The payload of each kind -/

theorem rawFrame_release {n : TicketNo} (h : (Frame.release n).inRange = true) :
    rawFrame .release (Frame.release n).payload = some (.release n) := by
  simp [rawFrame, Frame.payload, takeTicket_ok_nil h]

theorem rawFrame_closed {n : TicketNo} {how : Settlement} {cash : Nat} {tr : Int} {seller : Bool}
    (h : (Frame.closed n how cash tr seller).inRange = true) :
    rawFrame .closed (Frame.closed n how cash tr seller).payload = some (.closed n how cash tr seller) := by
  simp only [Frame.inRange, Bool.and_eq_true, decide_eq_true_eq] at h
  obtain ⟨⟨hn, hcash⟩, htr⟩ := h
  have hmax : Config.maxAmount < 256 ^ 4 := by decide
  simp [rawFrame, Frame.payload, takeTicket_ok hn, takeNat_one (settlement_code_lt how),
    takeNat_bytesOf (Nat.lt_of_le_of_lt hcash hmax), takeInt_four htr]

theorem rawFrame_claim {n : TicketNo} {p : Purpose} {step : Nat} (h : (Frame.claim n p step).inRange = true) :
    rawFrame .claim (Frame.claim n p step).payload = some (.claim n p step) := by
  simp only [Frame.inRange, Bool.and_eq_true, decide_eq_true_eq] at h
  obtain ⟨hn, hstep⟩ := h
  simp [rawFrame, Frame.payload, takeTicket_ok hn, takeNat_one (purpose_code_lt p), Nat.mod_eq_of_lt (show step < 256 by omega)]

theorem rawFrame_object {n : TicketNo} {c x : Nat} {r : ObjectReason} {step : Nat}
    (h : (Frame.object n c x r step).inRange = true) :
    rawFrame .object (Frame.object n c x r step).payload = some (.object n c x r step) := by
  simp only [Frame.inRange, Bool.and_eq_true, decide_eq_true_eq] at h
  obtain ⟨⟨⟨⟨hn, -⟩, hc⟩, hx⟩, hstep⟩ := h
  simp [rawFrame, Frame.payload, takeTicket_ok hn, takeNat_one (objectReason_code_lt r),
    takeNat_one (show c < 256 by omega), takeNat_one (show x < 256 by omega), Nat.mod_eq_of_lt (show step < 256 by omega)]

theorem rawFrame_head {d : HeadValues} (h : (Frame.head d).inRange = true) :
    rawFrame .head (Frame.head d).payload = some (.head d) := by
  simp only [Frame.inRange, Bool.and_eq_true, decide_eq_true_eq] at h
  obtain ⟨⟨⟨⟨⟨⟨⟨⟨hn, -⟩, hday⟩, hstep⟩, hgross⟩, hlast⟩, hin⟩, hout⟩, hcount⟩ := h
  have hweight : Config.maxWeight < 256 ^ 3 := by decide
  have hclock : Config.clockTop < 256 ^ 3 := by decide
  have h1 := packed_two_le d.hasTag d.hasSeller
  have h2 := packed_two_le d.offline d.priceEarly
  simp only [Frame.payload, List.append_assoc, List.cons_append, List.nil_append]
  unfold rawFrame
  simp only [↓bind_takeTicket hn, ↓bind_takeNat_bytesOf (w := 2) (show d.issueDay < 256 ^ 2 by omega),
    ↓bind_takeNat_one (show d.step < 256 by omega), ↓bind_takeNat_one (life_code_lt d.life),
    ↓bind_takeNat_bytesOf (Nat.lt_of_le_of_lt hgross hweight), ↓bind_takeNat_bytesOf (Nat.lt_of_le_of_lt hlast hweight),
    ↓bind_takeNat_bytesOf (Nat.lt_of_le_of_lt hin hclock), ↓bind_takeNat_bytesOf (Nat.lt_of_le_of_lt hout hclock),
    ↓bind_takeNat_one (show d.lineCount < 256 by omega), ↓bind_takeNat_one (Nat.lt_of_le_of_lt h1 (by decide : 3 < 256)),
    ↓bind_takeNat_one (Nat.lt_of_le_of_lt h2 (by decide : 3 < 256)), h1, h2, lifeOf_code, and_self, if_true, whole_nil,
    packed_testBit_zero, packed_testBit_one, Option.bind_eq_bind, Option.bind_some, Option.pure_def]

theorem rawFrame_line {n : TicketNo} {l : Line} (h : (Frame.line n l).inRange = true) :
    rawFrame .line (Frame.line n l).payload = some (.line n l) := by
  simp only [Frame.inRange, Bool.and_eq_true, decide_eq_true_eq] at h
  obtain ⟨⟨⟨⟨⟨⟨⟨⟨⟨⟨⟨hn, -⟩, hi⟩, -⟩, hg⟩, -⟩, hnet⟩, hd⟩, hpaid⟩, hprice⟩, hamount⟩, hlocal⟩ := h
  have hweight : Config.maxWeight < 256 ^ 3 := by decide
  have hmax : Config.maxPrice < 256 ^ 3 := by decide
  have hm := packed_le (decide (l.kind = .charge)) l.regulated l.offline l.priceEarly
  have hkind : (if decide (l.kind = .charge) = true then .charge else .buy) = l.kind := by cases l.kind <;> rfl
  simp [rawFrame, Frame.payload, takeTicket_ok hn, takeNat_one (show l.index < 256 by omega),
    takeNat_one (show l.grade < 256 by omega), takeNat_one (Nat.lt_of_le_of_lt hm (by decide : 15 < 256)),
    takeNat_bytesOf (Nat.lt_of_le_of_lt hnet hweight), takeNat_bytesOf (w := 2) (show l.deduction < 256 ^ 2 by omega),
    takeNat_bytesOf (Nat.lt_of_le_of_lt (Nat.le_trans hpaid hnet) hweight), takeNat_bytesOf (Nat.lt_of_le_of_lt hprice hmax),
    takeInt_four_nil hamount, hm]
  cases l
  cases hlocal
  simpa using hkind

theorem rawFrame_note {n : TicketNo} {k : NoteKind} {x : Text} (h : (Frame.note n k x).inRange = true) :
    rawFrame .note (Frame.note n k x).payload = some (.note n k x) := by
  have hn : ticketOk n = true := by cases k <;> exact (Bool.and_eq_true_iff.1 h).1
  have hx : ∀ c ∈ x, c < 256 := by
    cases k <;>
    · have hc := (textOk_iff.1 (Bool.and_eq_true_iff.1 h).2).2.2
      exact fun c m => by have := hc c m; omega
  simp [rawFrame, Frame.payload, takeTicket_ok hn, takeNat_one (noteKind_code_lt k), -List.map_map, toNat_map_byte hx]

theorem rawFrame_ask {n : TicketNo} {step : Nat} (h : (Frame.ask n step).inRange = true) :
    rawFrame .ask (Frame.ask n step).payload = some (.ask n step) := by
  simp only [Frame.inRange, Bool.and_eq_true, decide_eq_true_eq] at h
  obtain ⟨hn, hstep⟩ := h
  simp [rawFrame, Frame.payload, takeTicket_ok hn, Nat.mod_eq_of_lt (show step < 256 by omega)]

theorem rawFrame_announce {a : AnnounceValues} (h : (Frame.announce a).inRange = true) :
    rawFrame .announce (Frame.announce a).payload = some (.announce a) := by
  simp only [Frame.inRange, Bool.and_eq_true, decide_eq_true_eq] at h
  obtain ⟨hday, hload⟩ := h
  have hcap : Config.tableCapacity < 256 := by decide
  simp [rawFrame, Frame.payload, takeNat_one (role_code_lt a.role),
    takeNat_bytesOf (w := 2) (show a.dayNumber < 256 ^ 2 by omega), takeNat_one (dayStateCode_lt a.dayOpen),
    Nat.mod_eq_of_lt (Nat.lt_of_le_of_lt hload hcap)]

/-- A frame in range is what its payload holds. -/
theorem rawFrame_payload {f : Frame} (h : f.inRange = true) : rawFrame f.kind f.payload = some f := by
  cases f with
  | release n => exact rawFrame_release h
  | closed n how cash tr seller => exact rawFrame_closed h
  | claim n p step => exact rawFrame_claim h
  | object n c x r step => exact rawFrame_object h
  | head d => exact rawFrame_head h
  | line n l => exact rawFrame_line h
  | note n k x => exact rawFrame_note h
  | ask n step => exact rawFrame_ask h
  | announce a => exact rawFrame_announce h

end Sys2Proof.Machine

open Sys2Proof Sys2Proof.Machine

/-- Settles O56: the payload of each kind holds its frame, and a frame in range passes the form check. -/
theorem everyFrameIsReadBack : Obligations.EveryFrameIsReadBack := by
  intro f h
  simp only [readFrame, rawFrame_payload h, h, if_true]

end

section
/-! The arithmetic of the scale, the pricing and the payout: rounding to the nearest, the version a lock time chooses,
and the breakdown of an offer. -/

namespace Sys2Proof.Machine

/-! ### Rounding halves away from zero (R36) -/

theorem roundHalfAway_eq (n : Int) (d : Nat) :
    roundHalfAway n d = if n < 0 then -(roundHalfUp n.natAbs d : Int) else (roundHalfUp n.natAbs d : Int) := rfl

/-- The multiple found is within half a step, and a tie lies beyond the number. -/
theorem roundHalfAway_nearest (n : Int) {d : Nat} (hd : 0 < d) :
    2 * ((d : Int) * roundHalfAway n d - n).natAbs ≤ d ∧
      (2 * ((d : Int) * roundHalfAway n d - n).natAbs = d → n.natAbs < ((d : Int) * roundHalfAway n d).natAbs) := by
  obtain ⟨hle, hlt⟩ := roundHalfUp_bounds n.natAbs hd
  rw [Nat.mul_succ] at hlt
  have hprod : (d : Int) * roundHalfAway n d =
      if n < 0 then -((d * roundHalfUp n.natAbs d : Nat) : Int) else ((d * roundHalfUp n.natAbs d : Nat) : Int) := by
    rw [roundHalfAway_eq]
    split
    · rw [Int.natCast_mul, Int.mul_neg]
    · rw [Int.natCast_mul]
  rw [hprod]
  generalize d * roundHalfUp n.natAbs d = p at *
  split <;> omega

/-! ### The version by lock time (R74) -/

/-- Among rising times the last version reached is the newest one reached. -/
theorem chooseVersion_reached {lock : Nat} {vs : List Version} (hrise : vs.Pairwise (fun a b => a.effective < b.effective))
    (h : ∃ v ∈ vs, v.effective ≤ lock) :
    ∃ v ∈ vs, chooseVersion lock vs = (some v, false) ∧ v.effective ≤ lock ∧
      ∀ u ∈ vs, u.effective ≤ lock → u.effective ≤ v.effective := by
  obtain ⟨u, hu, hul⟩ := h
  have hne : vs.filter (fun v => decide (v.effective ≤ lock)) ≠ [] :=
    List.ne_nil_of_mem (List.mem_filter.2 ⟨hu, decide_eq_true hul⟩)
  obtain ⟨init, v, hsplit⟩ := List.eq_nil_or_concat _ |>.resolve_left hne
  rw [List.concat_eq_append] at hsplit
  have hsorted := hrise.filter (fun v => decide (v.effective ≤ lock))
  have hv := List.mem_filter.1 (hsplit ▸ List.mem_concat_self : v ∈ vs.filter (fun v => decide (v.effective ≤ lock)))
  refine ⟨v, hv.1, ?_, of_decide_eq_true hv.2, fun x hx hxl => ?_⟩
  · simp only [chooseVersion, hsplit, List.getLast?_concat]
  · have hmem : x ∈ init ++ [v] := hsplit ▸ List.mem_filter.2 ⟨hx, decide_eq_true hxl⟩
    rw [hsplit] at hsorted
    obtain hinit | hsame := List.mem_append.1 hmem
    · exact Nat.le_of_lt ((List.pairwise_append.1 hsorted).2.2 _ hinit _ (List.mem_singleton_self _))
    · exact Nat.le_of_eq (congrArg Version.effective (List.mem_singleton.1 hsame))

theorem chooseVersion_early {lock : Nat} {vs : List Version} (h : ∀ v ∈ vs, lock < v.effective) :
    chooseVersion lock vs = (vs.head?, true) := by
  have hnil : vs.filter (fun v => decide (v.effective ≤ lock)) = [] :=
    List.filter_eq_nil_iff.2 fun v hv => by simpa using h v hv
  simp only [chooseVersion, hnil, List.getLast?_nil]

/-! ### The smallest enabled value (R147) -/

theorem smallestEnabled_eq_none {ds : List Denomination} : smallestEnabled ds = none ↔ ∀ p ∈ ds, p.enabled = false := by
  induction ds with
  | nil => simp [smallestEnabled]
  | cons p rest ih =>
    rw [smallestEnabled]
    cases he : p.enabled
    · simp [ih, he]
    · cases smallestEnabled rest <;> simp [he]

/-- The value found is an enabled one, and no enabled one is smaller. -/
theorem smallestEnabled_spec {ds : List Denomination} {v : Nat} (h : smallestEnabled ds = some v) :
    (∃ p ∈ ds, p.enabled = true ∧ p.value = v) ∧ ∀ p ∈ ds, p.enabled = true → v ≤ p.value := by
  induction ds generalizing v with
  | nil => cases h
  | cons p rest ih =>
    rw [smallestEnabled] at h
    cases he : p.enabled
    · simp only [he, Bool.false_eq_true, if_false] at h
      obtain ⟨⟨q, hq, hqe, hqv⟩, hmin⟩ := ih h
      refine ⟨⟨q, List.mem_cons_of_mem _ hq, hqe, hqv⟩, fun x hx hxe => ?_⟩
      obtain rfl | hx := List.mem_cons.1 hx
      · exact absurd (he.symm.trans hxe) Bool.false_ne_true
      · exact hmin x hx hxe
    · rw [if_pos he] at h
      cases hr : smallestEnabled rest with
      | none =>
        simp only [hr, Option.some.injEq] at h
        have hoff := smallestEnabled_eq_none.1 hr
        refine ⟨⟨p, List.mem_cons_self, he, h⟩, fun x hx hxe => ?_⟩
        obtain rfl | hx := List.mem_cons.1 hx
        · exact Nat.le_of_eq h.symm
        · exact absurd ((hoff x hx).symm.trans hxe) Bool.false_ne_true
      | some u =>
        simp only [hr, Option.some.injEq] at h
        obtain ⟨⟨q, hq, hqe, hqv⟩, hmin⟩ := ih hr
        refine ⟨?_, fun x hx hxe => ?_⟩
        · rcases Nat.le_total p.value u with hle | hle
          · exact ⟨p, List.mem_cons_self, he, by omega⟩
          · exact ⟨q, List.mem_cons_of_mem _ hq, hqe, by omega⟩
        · obtain rfl | hx := List.mem_cons.1 hx
          · omega
          · have := hmin x hx hxe
            omega

/-! ### The breakdown (R148) -/

theorem greedy_disabled {p : Denomination} (h : p.enabled = false) (ds : List Denomination) (rem : Nat) :
    greedy (p :: ds) rem = greedy ds rem := by
  simp [greedy, h]

/-- How many of a denomination the breakdown takes. -/
def takenOf (p : Denomination) (rem : Nat) : Nat := min p.count (rem / p.value)

theorem greedy_enabled {p : Denomination} (h : p.enabled = true) (ds : List Denomination) (rem : Nat) :
    greedy (p :: ds) rem =
      ((if 0 < takenOf p rem then [(p.value, takenOf p rem)] else []) ++ (greedy ds (rem - takenOf p rem * p.value)).1,
        (greedy ds (rem - takenOf p rem * p.value)).2) := by
  simp only [greedy, h, if_true, takenOf]
  by_cases hn : 0 < min p.count (rem / p.value) <;> simp [hn]

theorem takenOf_le (p : Denomination) (rem : Nat) : takenOf p rem * p.value ≤ rem :=
  Nat.le_trans (Nat.mul_le_mul_right _ (Nat.min_le_right _ _)) (Nat.div_mul_le_self rem p.value)

/-- What is taken and what is left make up the remainder. -/
theorem greedy_sum (ds : List Denomination) (rem : Nat) : breakdownSum (greedy ds rem).1 + (greedy ds rem).2 = rem := by
  induction ds generalizing rem with
  | nil => simp [greedy, breakdownSum]
  | cons p ds ih =>
    cases he : p.enabled
    · rw [greedy_disabled he, ih]
    · have hrest := ih (rem - takenOf p rem * p.value)
      have hle := takenOf_le p rem
      simp only [breakdownSum] at hrest
      rw [greedy_enabled he]
      by_cases hn : 0 < takenOf p rem
      · simp only [if_pos hn, breakdownSum, List.map_append, List.sum_append, List.map_cons, List.map_nil, List.sum_cons,
          List.sum_nil, Nat.mul_comm p.value]
        omega
      · have : takenOf p rem = 0 := by omega
        simp only [this, Nat.lt_irrefl, if_false, breakdownSum, List.nil_append] at hrest ⊢
        omega

/-- Every pair is a count above 0 of an enabled denomination, at most its stock. -/
theorem greedy_stock {ds : List Denomination} {rem : Nat} {q : Nat × Nat} (h : q ∈ (greedy ds rem).1) :
    0 < q.2 ∧ ∃ p ∈ ds, p.enabled = true ∧ p.value = q.1 ∧ q.2 ≤ p.count := by
  induction ds generalizing rem with
  | nil => cases h
  | cons p ds ih =>
    have hlater (rem' : Nat) (h : q ∈ (greedy ds rem').1) :
        0 < q.2 ∧ ∃ p' ∈ p :: ds, p'.enabled = true ∧ p'.value = q.1 ∧ q.2 ≤ p'.count := by
      obtain ⟨hpos, p', hp', hrest⟩ := ih h
      exact ⟨hpos, p', List.mem_cons_of_mem _ hp', hrest⟩
    cases he : p.enabled
    · rw [greedy_disabled he] at h
      exact hlater _ h
    · rw [greedy_enabled he] at h
      obtain hhead | hrest := List.mem_append.1 h
      · split at hhead
        · rename_i hn
          obtain rfl := List.mem_singleton.1 hhead
          exact ⟨hn, p, List.mem_cons_self, he, rfl, Nat.min_le_left _ _⟩
        · cases hhead
      · exact hlater _ hrest

/-- The values of a breakdown lie below a bound on the table's values. -/
theorem greedy_value_lt {ds : List Denomination} {rem v : Nat} (hv : ∀ p ∈ ds, p.value < v) {q : Nat × Nat}
    (h : q ∈ (greedy ds rem).1) : q.1 < v := by
  obtain ⟨-, p, hp, -, hval, -⟩ := greedy_stock h
  exact hval ▸ hv p hp

theorem greedy_pairwise {ds : List Denomination} (hfall : ds.Pairwise (fun p q => q.value < p.value)) (rem : Nat) :
    (greedy ds rem).1.Pairwise (fun p q => q.1 < p.1) := by
  induction ds generalizing rem with
  | nil => exact List.Pairwise.nil
  | cons p ds ih =>
    obtain ⟨hp, hds⟩ := List.pairwise_cons.1 hfall
    cases he : p.enabled
    · rw [greedy_disabled he]
      exact ih hds rem
    · rw [greedy_enabled he]
      split
      · exact List.pairwise_cons.2 ⟨fun q hq => greedy_value_lt hp hq, ih hds _⟩
      · exact ih hds _

/-- What the larger values of a breakdown sum to. -/
def sumAbove (v : Nat) (b : List (Nat × Nat)) : Nat := breakdownSum (b.filter (fun q => decide (v < q.1)))

theorem filter_none_above {b : List (Nat × Nat)} {v : Nat} (h : ∀ q ∈ b, q.1 < v) :
    b.filter (fun q => decide (v < q.1)) = [] :=
  List.filter_eq_nil_iff.2 fun q hq => by
    have := h q hq
    simp; omega

theorem filter_none_equal {b : List (Nat × Nat)} {v : Nat} (h : ∀ q ∈ b, q.1 < v) :
    b.filter (fun q => decide (q.1 = v)) = [] :=
  List.filter_eq_nil_iff.2 fun q hq => by
    have := h q hq
    simp; omega

/-- Each denomination is taken as often as its stock and what the larger ones left allow. -/
theorem greedy_count {ds : List Denomination} (hfall : ds.Pairwise (fun p q => q.value < p.value)) (rem : Nat)
    {p : Denomination} (hp : p ∈ ds) (he : p.enabled = true) :
    countIn (greedy ds rem).1 p.value = min p.count ((rem - sumAbove p.value (greedy ds rem).1) / p.value) := by
  induction ds generalizing rem with
  | nil => cases hp
  | cons d ds ih =>
    obtain ⟨hd, hds⟩ := List.pairwise_cons.1 hfall
    obtain rfl | hin := List.mem_cons.1 hp
    · rw [greedy_enabled he]
      have hlow (rem' : Nat) : ∀ q ∈ (greedy ds rem').1, q.1 < p.value := fun q hq => greedy_value_lt hd hq
      have hcount : countIn ((if 0 < takenOf p rem then [(p.value, takenOf p rem)] else []) ++
          (greedy ds (rem - takenOf p rem * p.value)).1) p.value = takenOf p rem := by
        rw [countIn, List.filter_append, filter_none_equal (hlow _), List.append_nil]
        split
        · simp
        · simp; omega
      have habove : sumAbove p.value ((if 0 < takenOf p rem then [(p.value, takenOf p rem)] else []) ++
          (greedy ds (rem - takenOf p rem * p.value)).1) = 0 := by
        rw [sumAbove, List.filter_append, filter_none_above (hlow _), List.append_nil]
        split <;> simp [breakdownSum]
      rw [hcount, habove, Nat.sub_zero, takenOf]
    · cases hde : d.enabled
      · rw [greedy_disabled hde]
        exact ih hds rem hin
      · rw [greedy_enabled hde]
        have hlt := hd p hin
        have hcount : countIn ((if 0 < takenOf d rem then [(d.value, takenOf d rem)] else []) ++
            (greedy ds (rem - takenOf d rem * d.value)).1) p.value =
            countIn (greedy ds (rem - takenOf d rem * d.value)).1 p.value := by
          rw [countIn, countIn, List.filter_append]
          split
          · simp [show d.value ≠ p.value by omega]
          · rfl
        have habove : sumAbove p.value ((if 0 < takenOf d rem then [(d.value, takenOf d rem)] else []) ++
            (greedy ds (rem - takenOf d rem * d.value)).1) =
            takenOf d rem * d.value + sumAbove p.value (greedy ds (rem - takenOf d rem * d.value)).1 := by
          rw [sumAbove, sumAbove, List.filter_append]
          split
          · simp [breakdownSum, hlt, Nat.mul_comm]
          · have : takenOf d rem = 0 := by omega
            simp [this]
        rw [hcount, habove, ih hds _ hin, Nat.sub_sub]

/-! ### The offer (R145 to R149) -/

/-- The stages of an offer with a net amount above 0. -/
theorem computeOffer_pos {i : OfferInput} (h : 0 < i.net) (s : State) :
    let f := computeOffer i s
    f.net = i.net ∧ f.regulated = i.regulated ∧ f.rPrime = min i.regulated.toNat i.net.toNat ∧
    f.unregulated = i.net.toNat - f.rPrime ∧ f.c0 = f.unregulated + min f.rPrime s.settings.regulatedCap ∧
    f.c1 = min f.c0 s.settings.ticketCashMax ∧ f.room = s.drawer.limit - s.drawer.totals.cash ∧ f.c2 = min f.c1 f.room ∧
    f.unit = (smallestEnabled s.drawer.denominations).getD 0 ∧ f.c3 = (if f.unit = 0 then 0 else f.c2 - f.c2 % f.unit) ∧
    f.residue = f.c2 - f.c3 ∧ f.breakdown = (greedy s.drawer.denominations f.c3).1 ∧
    f.shortfall = (greedy s.drawer.denominations f.c3).2 ∧ f.cash = f.c3 - f.shortfall ∧
    f.transfer = i.net - f.cash ∧ f.cls = offerClass i.net f.cash := by
  simp only [computeOffer, if_neg (Int.not_le.2 h), and_self]

end Sys2Proof.Machine

/-! ### The obligations -/

open Sys2Proof Sys2Proof.Machine

/-- Settles O24: M times the captured weight is the multiple of M·d nearest to the sum less M zero offsets. -/
theorem capturedWeightIsNearest : Obligations.CapturedWeightIsNearest := by
  intro c zero sum hm hd w
  have hw : (c.windowLength : Int) * w = ((c.windowLength * c.division : Nat) : Int) *
      roundHalfAway (sum - c.windowLength * zero) (c.windowLength * c.division) := by
    simp only [w, capturedWeight]
    rw [Int.natCast_mul, Int.mul_assoc]
  rw [hw]
  exact ⟨⟨_, rfl⟩, roundHalfAway_nearest _ (Nat.mul_pos hm hd)⟩

/-- Settles O31: the lock time by its mode, and the last of the versions reached. -/
theorem versionByLockTime : Obligations.VersionByLockTime := by
  refine ⟨fun step weighIn day s => ?_, fun lock vs hrise => ⟨chooseVersion_reached hrise, chooseVersion_early⟩⟩
  cases hmode : s.settings.lockMode <;> simp [State.lockTime, hmode]

/-- Settles O34: the stages by definition, the breakdown by the greedy count. -/
theorem offerOfATicket : Obligations.OfferOfATicket := by
  refine ⟨fun i s h => ?_, fun i s h => ?_⟩
  · have hstages := computeOffer_pos h s
    generalize computeOffer i s = f at hstages ⊢
    obtain ⟨hnet, hreg, hr, hu, h0, h1, hroom, h2, hunit, h3, hres, hb, hshort, hcash, htr, hcls⟩ := hstages
    have hsum := greedy_sum s.drawer.denominations f.c3
    rw [← hb, ← hshort] at hsum
    have hcashSum : f.cash = breakdownSum f.breakdown := by omega
    have hle3 : f.c3 ≤ f.c2 := by rw [h3]; split <;> omega
    have hle : f.cash ≤ i.net.toNat ∧ f.cash ≤ f.room := by omega
    have htotal : f.cash + f.shortfall = f.c3 := by omega
    have hnetSum : (f.cash : Int) + f.transfer = i.net ∧ (f.cash : Int) ≤ i.net := by omega
    intro _ _
    refine ⟨hnet, hreg, hr, hu, h0, h1, hroom, h2, fun hsome hpos => ?_, fun hoff => ?_, hres, htotal, hcashSum,
      fun q hq => ?_, fun hfall hpos => ⟨?_, fun p hp he => ?_⟩, hnetSum.1, hnetSum.2, hle.2, ?_⟩
    · cases hs : smallestEnabled s.drawer.denominations with
      | none =>
        obtain ⟨p, hp, he, -⟩ := hsome
        exact absurd ((smallestEnabled_eq_none.1 hs p hp).symm.trans he) Bool.false_ne_true
      | some v =>
        obtain ⟨⟨p, hp, he, hv⟩, hmin⟩ := smallestEnabled_spec hs
        have hval : f.unit = v := by rw [hunit, hs]; rfl
        have hne : f.unit ≠ 0 := by
          have := hpos p hp
          omega
        exact ⟨⟨p, hp, he, hv.trans hval.symm⟩, hval ▸ hmin, by rw [h3, if_neg hne]⟩
    · rw [h3, if_pos (by rw [hunit, smallestEnabled_eq_none.2 hoff]; rfl)]
    · rw [hb] at hq
      exact greedy_stock hq
    · rw [hb]
      exact greedy_pairwise hfall _
    · rw [hb]
      exact greedy_count hfall _ hp he
    · rw [hcls, offerClass, if_neg (by omega), if_neg (by omega)]
  · rw [computeOffer, if_pos h]
    have hcls : offerClass i.net 0 = if i.net = 0 then .nothingPayable else .amountDue := by
      simp only [offerClass]
      split
      · rfl
      · rw [if_pos (by omega)]
    rw [hcls]

end

section
/-! The acceptance table row by row, what every event ends with, and the records of the notices. -/

namespace Sys2Proof.Machine

/-! ### A command as its row of R200 -/

/-- The checks of a row. -/
def PortRow.acceptance (r : PortRow) : Acceptance :=
  { code := r.code, places := r.places, whenClosed := r.whenClosed, whenOpen := r.whenOpen, gated := r.gated,
    lengths := r.lengths }

/-- Every command with a row runs through the row's checks, HEADER CONTINUE with the header load standing. -/
theorem exec_of_portRow {c : Instr} {r : PortRow} (h : portRowOf c = some r) :
    (∃ body, ∀ s, exec c s = .next (command r.acceptance r.params body s)) ∨
      ∃ body, ∀ s, exec c s = .next (powered (endFrame (commandBits r.code r.params) (actOn r.acceptance r.params body)) s) := by
  cases c
  case headerContinue ps =>
    obtain rfl := Option.some.inj h
    exact .inr ⟨_, fun s => rfl⟩
  all_goals cases h
  all_goals exact .inl ⟨_, fun s => rfl⟩

theorem portRow_code {c : Instr} {r : PortRow} (h : portRowOf c = some r) : r.code ∈ commandCodes := by
  cases c <;> cases h <;> simp [commandCodes]

/-- A row's refusal is the whole answer, and the state is that of the accepted frame. -/
theorem exec_refused {c : Instr} {r : PortRow} {s : State} {x : Result} (h : portRowOf c = some r)
    (ht : s.takes r.params.length) (hx : r.acceptance.refusal r.params.length s = some x) :
    exec c s = .next ((s.accepted r.params.length).answered [byte x.code]) := by
  obtain ⟨body, hb⟩ | ⟨body, hb⟩ := exec_of_portRow h
  · rw [hb]
    exact command_refuses ht (portRow_code h) hx
  · have hx' : r.acceptance.refusal r.params.length (s.acceptedOpen r.params.length) = some x := by
      obtain ⟨_, he⟩ := s.acceptedOpen_shape r.params.length
      rw [he]
      exact hx
    rw [hb, powered, if_pos ht.1, endFrame_taken ht (portRow_code h)]
    simp only [actOn, hx']
    rfl

theorem placeRefusal_of_no_place {r : PortRow} {s : State} (h : ¬ r.hasPlace s) :
    placeRefusal r.places s = some (if s.identity.inForce = none then .notReady else .notAllowed) := by
  cases hp : r.places <;> simp only [PortRow.hasPlace, hp] at h
  · exact absurd trivial h
  · have hw : s.hasWeigh = false := by simpa [State.hasWeigh] using h
    cases hi : s.identity.inForce <;> simp [placeRefusal, State.waitId, hw, hi]
  · have hw : s.hasPay = false := by simpa [State.hasPay] using h
    cases hi : s.identity.inForce <;> simp [placeRefusal, State.waitId, hw, hi]

theorem placeRefusal_of_place {r : PortRow} {s : State} (h : r.hasPlace s) : placeRefusal r.places s = none := by
  cases hp : r.places <;> simp only [PortRow.hasPlace, hp] at h
  · rfl
  · exact placeRefusal_weigh (hasWeigh_iff.2 h)
  · exact placeRefusal_pay (hasPay_iff.2 h)

/-! ### What the port does of itself (R175, R177, R178) -/

theorem State.fit_iff {s : State} :
    s.fit = true ↔ s.printer.paperOut = false ∧ s.printer.fault = false ∧ s.latched .printerFault = false := by
  simp [State.fit, and_assoc]

theorem takeJobs_unfit {s : State} (h : s.fit = false) : takeJobs s = s := by simp [takeJobs, h]

theorem takeJobs_busy_port {s : State} (hr : s.printer.port ≠ .ready) (hs : s.printer.port ≠ .stopped) : takeJobs s = s := by
  unfold takeJobs
  cases hp : s.printer.port <;> simp_all

theorem takeJobs_ready_none {s : State} (hp : s.printer.port = .ready) (h : ∀ j ∈ s.printer.jobs, j.state ≠ .queued) :
    takeJobs s = s := by
  have : s.printer.jobs.find? (fun j => decide (j.state = .queued)) = none := by simpa using h
  simp [takeJobs, hp, this]

theorem takeJobs_stopped_none {s : State} (hp : s.printer.port = .stopped)
    (h : ∀ j ∈ s.printer.jobs, j.state ≠ .suspended) : takeJobs s = s := by
  have : s.printer.jobs.find? (fun j => decide (j.state = .suspended)) = none := by simpa using h
  simp [takeJobs, hp, this]

theorem takeJobs_ready {s : State} {j : Job} (hf : s.fit = true) (hp : s.printer.port = .ready)
    (h : s.printer.jobs.find? (fun j => decide (j.state = .queued)) = some j) : takeJobs s = s.onPrinter (startJob j) := by
  simp [takeJobs, hf, hp, h]

theorem takeJobs_stopped {s : State} {j : Job} (hf : s.fit = true) (hp : s.printer.port = .stopped)
    (h : s.printer.jobs.find? (fun j => decide (j.state = .suspended)) = some j) :
    takeJobs s = if j.awaitsBusy = true ∧ s.printer.busy = true then s
      else s.onPrinter (startJob { j with restarts := min 255 (j.restarts + 1), awaitsBusy := false }) := by
  simp [takeJobs, hf, hp, h]

/-- Jobs, port, codes and lead line alone change. -/
theorem takeJobs_shape (s : State) :
    takeJobs s = { s with printer := { s.printer with
      jobs := (takeJobs s).printer.jobs, port := (takeJobs s).printer.port,
      stream := (takeJobs s).printer.stream, leadLine := (takeJobs s).printer.leadLine } } := by
  rcases takeJobs_cases s with h | ⟨j, -, -, -, h⟩ | ⟨j, -, -, -, -, h⟩ <;> rw [h] <;> rfl

theorem takeJobs_numbers (s : State) : (takeJobs s).printer.jobs.map Job.number = s.printer.jobs.map Job.number := by
  have hmap (j : Job) : (s.printer.jobs.map (fun x => if x.number = j.number then { j with state := .printing, sent := 0 } else x)).map
      Job.number = s.printer.jobs.map Job.number := by
    rw [List.map_map]
    refine List.map_congr_left fun x _ => ?_
    by_cases e : x.number = j.number <;> simp [e]
  rcases takeJobs_cases s with h | ⟨j, -, -, -, h⟩ | ⟨j, -, -, -, -, h⟩
  · rw [h]
  · rw [h]
    exact hmap j
  · rw [h]
    exact hmap { j with restarts := min 255 (j.restarts + 1), awaitsBusy := false }

/-! ### The head's transmit timeout (R93) -/

/-- The transmit timeout starts unless it has been started. -/
def QueueItem.timed (i : QueueItem) : QueueItem :=
  if i.timeout.isNone && !i.timedOut then { i with timeout := some Config.transmitMs } else i

theorem QueueItem.timed_eq (i : QueueItem) :
    i.timed = { i with timeout := if i.timeout = none ∧ i.timedOut = false then some 100 else i.timeout } := by
  unfold QueueItem.timed
  cases h : i.timeout <;> cases ht : i.timedOut <;> cases i <;> simp_all [Config.transmitMs]

theorem map_modifyFirst {β : Type} {g : QueueItem → β} {f : QueueItem → QueueItem} (h : ∀ i, g (f i) = g i)
    (p : QueueItem → Bool) (l : List QueueItem) : (modifyFirst p f l).map g = l.map g := by
  induction l with
  | nil => rfl
  | cons i l ih =>
    rw [modifyFirst]
    split <;> simp [h, ih]

theorem modifyFirst_split {p : QueueItem → Bool} {f : QueueItem → QueueItem} {before after : List QueueItem} {i : QueueItem}
    (hb : ∀ x ∈ before, p x = false) (hi : p i = true) :
    modifyFirst p f (before ++ i :: after) = before ++ f i :: after := by
  induction before with
  | nil => simp [modifyFirst, hi]
  | cons x before ih =>
    rw [List.cons_append, modifyFirst, if_neg (by simp [hb x List.mem_cons_self]), ih fun y hy => hb y (List.mem_cons_of_mem _ hy)]
    rfl

theorem QueueItem.underWay_iff {i : QueueItem} :
    i.underWay = true ↔ i.burst.isSome = true ∧ (i.started = true ∨ i.onWire = true) := by
  simp [QueueItem.underWay]

theorem QueueItem.underWay_false {i : QueueItem} :
    i.underWay = false ↔ i.burst = none ∨ (i.started = false ∧ i.onWire = false) := by
  cases h : i.burst <;> simp [QueueItem.underWay, h]

/-- The head is the burst under way. -/
theorem Link.onHead_underWay {l : Link} {f : QueueItem → QueueItem} {before after : List QueueItem} {i : QueueItem}
    (hq : l.queue = before ++ i :: after) (hb : ∀ x ∈ before, x.underWay = false) (hi : i.underWay = true) :
    l.onHead f = before ++ f i :: after := by
  have hany : l.queue.any QueueItem.underWay = true := List.any_eq_true.2 ⟨i, by simp [hq], hi⟩
  rw [Link.onHead, if_pos hany, hq, modifyFirst_split hb hi]

/-- With no burst under way the head is the first item. -/
theorem Link.onHead_first {l : Link} {f : QueueItem → QueueItem} {after : List QueueItem} {i : QueueItem}
    (hq : l.queue = i :: after) (hn : ∀ x ∈ l.queue, x.underWay = false) : l.onHead f = f i :: after := by
  have hany : l.queue.any QueueItem.underWay = false := by simpa using hn
  rw [Link.onHead, hany, if_neg Bool.false_ne_true, hq]
  rfl

theorem touchHead_queue (s : State) : (touchHead s).link.queue =
    if s.link.state = .up ∨ s.link.state = .alone then s.link.onHead QueueItem.timed else s.link.queue := by
  unfold touchHead
  split <;> rfl

/-! ### What every event ends with -/

@[simp] theorem settle_printer (s : State) : (settle s).printer = (settleStall (takeJobs s)).printer := by
  unfold settle touchHead
  split <;> rfl

theorem settle_queue (s : State) : (settle s).link.queue =
    if s.link.state = .up ∨ s.link.state = .alone then s.link.onHead QueueItem.timed else s.link.queue := by
  have hl : (settleStall (takeJobs s)).link = s.link := by
    rw [takeJobs_shape]
    rfl
  rw [settle, touchHead_queue, hl]

theorem settle_shape (s : State) : settle s =
    { s with
      printer := { s.printer with jobs := (settle s).printer.jobs, port := (settle s).printer.port,
                                  stream := (settle s).printer.stream, leadLine := (settle s).printer.leadLine,
                                  stall := (settle s).printer.stall }
      link := { s.link with queue := (settle s).link.queue } } := by
  rw [settle_printer, settle_queue]
  unfold settle touchHead
  rw [takeJobs_shape]
  split <;> rename_i h <;> simp only [settleStall, State.onPrinter] at h ⊢
  · rw [if_pos h]
    rfl
  · rw [if_neg h]

theorem settle_of_takeJobs {s : State} {p : Printer} (h : (takeJobs s).printer = p) :
    (settle s).printer.jobs = p.jobs ∧ (settle s).printer.port = p.port ∧ (settle s).printer.stream = p.stream ∧
      (settle s).printer.leadLine = p.leadLine := by
  subst h
  rw [settle_printer]
  exact ⟨rfl, rfl, rfl, rfl⟩

/-! ### The records of the notices (R202) -/

theorem fill_eq {w k : Nat} {bs : List Byte} (h : bs.length + k = w) : fill w bs = bs ++ List.replicate k 0 := by
  have htake : (List.replicate w (0 : Byte)).take (w - bs.length) = List.replicate k 0 := by
    rw [List.take_replicate]
    congr 1
    omega
  rw [fill, List.take_append, List.take_of_length_le (by omega), htake]

@[simp] theorem fill_length (w : Nat) (bs : List Byte) : (fill w bs).length = w := by
  simp [fill]

theorem noticeBytes_length (q : Nat) (n : Notice) : (noticeBytes q n).length = 15 := by
  simp [noticeBytes]

/-- A record whose fields leave `k` bytes over. -/
theorem noticeBytes_eq {q k : Nat} {n : Notice} (h : n.fields.length + k = 13) :
    noticeBytes q n = [byte n.kind.code, byte q] ++ (n.fields ++ List.replicate k 0) := by
  rw [noticeBytes, fill_eq h]

theorem Closure.bytes_length (c : Closure) : c.bytes.length = 9 := by cases c <;> simp [Closure.bytes]

end Sys2Proof.Machine

/-! ### The obligations -/

open Sys2Proof Sys2Proof.Machine

/-- Settles O4: the port's own doing by `takeJobs`, the stall timer by `settleStall`, the head's timeout by `touchHead`. -/
theorem everyEventEndsWithThePort : Obligations.EveryEventEndsWithThePort := by
  intro s t fit kept taken
  have hkept (h : takeJobs s = s) : kept := settle_of_takeJobs (congrArg State.printer h)
  have htaken {j : Job} (h : takeJobs s = s.onPrinter (startJob j)) : taken j := by
    obtain ⟨hjobs, hport, hstream, hlead⟩ := settle_of_takeJobs (congrArg State.printer h)
    exact ⟨hport, hstream, hlead, hjobs⟩
  have hqueue := settle_queue s
  refine ⟨settle_shape s, ?_, ?_, fun h => hkept (takeJobs_unfit ?_), fun hr hs => hkept (takeJobs_busy_port hr hs),
    fun hp h => hkept (takeJobs_ready_none hp h), fun hp h => hkept (takeJobs_stopped_none hp h),
    fun j hf hp h => htaken (takeJobs_ready (State.fit_iff.2 hf) hp h), fun j hf hp h => ?_, ?_, fun hu ha => ?_,
    fun h => ?_, ?_⟩
  · have htimed (i : QueueItem) : ({ i.timed with timeout := none } : QueueItem) = { i with timeout := none } := by
      rw [QueueItem.timed_eq]
    rw [hqueue]
    split
    · rw [Link.onHead]
      split <;> rw [map_modifyFirst htimed]
    · rfl
  · rw [settle_printer]
    exact takeJobs_numbers s
  · rw [← Bool.not_eq_true, State.fit_iff]
    rintro ⟨h1, h2, h3⟩
    simp_all
  · have hstep := takeJobs_stopped (State.fit_iff.2 hf) hp h
    split
    · rename_i hwait
      exact hkept (by rw [hstep, if_pos hwait])
    · rename_i hwait
      exact htaken (by rw [hstep, if_neg hwait])
  · simp only [t, settle_printer]
    rw [takeJobs_shape]
    simp [settleStall, and_assoc, Config.stallMs]
  · rw [hqueue, if_neg (by simp [hu, ha])]
  · rw [hqueue, Link.onHead, h]
    simp [modifyFirst]
  · rintro before i after hstate hq (⟨hb, hs, hbefore⟩ | ⟨rfl, hall⟩)
    · rw [hqueue, if_pos hstate, Link.onHead_underWay hq (fun x hx => QueueItem.underWay_false.2 (hbefore x hx))
        (QueueItem.underWay_iff.2 ⟨hb, hs⟩), QueueItem.timed_eq]
    · rw [hqueue, if_pos hstate, Link.onHead_first hq fun x hx => QueueItem.underWay_false.2 (hall x hx), QueueItem.timed_eq]
      rfl

/-- Settles O6: each check of the row in its turn, and the two commands without a row. -/
theorem acceptanceTable : Obligations.AcceptanceTable := by
  refine ⟨fun c r s hrow ht => ⟨fun hplace => ?_, fun hplace hg hre => ?_, fun hplace hg hd => ?_, fun hplace hg hd hl => ?_⟩,
    fun ps s ht => ⟨?_, fun hne => ?_⟩⟩
  · have hx : r.acceptance.refusal r.params.length s = some (if s.identity.inForce = none then .notReady else .notAllowed) := by
      simp [Acceptance.refusal, PortRow.acceptance, placeRefusal_of_no_place hplace]
    rw [exec_refused hrow ht hx]
    split <;> rfl
  · refine exec_refused hrow ht (x := .restarted) ?_
    simp [Acceptance.refusal, PortRow.acceptance, placeRefusal_of_place hplace, hg, hre]
  · refine exec_refused hrow ht (x := .notAllowed) ?_
    have hgate : (r.gated && s.flags.restarted) = false := by rcases hg with h | h <;> simp [h]
    simp [Acceptance.refusal, PortRow.acceptance, placeRefusal_of_place hplace, hgate, hd]
  · refine exec_refused hrow ht (x := .range) ?_
    have hgate : (r.gated && s.flags.restarted) = false := by rcases hg with h | h <;> simp [h]
    simp [Acceptance.refusal, PortRow.acceptance, placeRefusal_of_place hplace, hgate, hd, hl]
  · show Host.Outcome.next (powered (endFrame (commandBits 1 ps) abandonLoad) s) = _
    rw [powered, if_pos ht.1, endFrame_taken ht (by decide)]
    rfl
  · show Host.Outcome.next (powered (endFrame (commandBits 2 ps) (fun s => if ps = [] then softReset s else abandonLoad s)) s) = _
    rw [powered, if_pos ht.1, endFrame_taken ht (by decide), if_neg hne]
    rfl

/-- Settles O9: the fields of each kind and the bytes they leave over; then the commands. -/
theorem readNoticeAndSetAttn : Obligations.ReadNoticeAndSetAttn := by
  refine ⟨fun q holder z slot outcome loss n => ⟨?_, ?_, ?_⟩, fun q n how cash x transfer seller => ⟨?_, ?_⟩, fun q f d => ?_,
    fun net n x v r => ⟨rfl, rfl, rfl, rfl, rfl, rfl, rfl, rfl, rfl, rfl, rfl, rfl, rfl, rfl, rfl⟩,
    fun q job k n e => ⟨?_, ?_⟩, fun q x c role day isOpen => ?_, fun q n v e => ?_,
    fun s => ⟨fun n q rest ht hq => ⟨?_, noticeBytes_length q n⟩, fun ht hq => ?_, fun b ht hb => ?_, fun b ht hb => ?_, ?_⟩⟩
  · rw [noticeBytes_eq (k := 2) (by simp [Notice.fields, optTicketBytes])]
    cases slot <;> cases loss with
    | none => simp [Notice.fields, optTicketBytes, Notice.kind, NoticeKind.code, slotCode, optCode, byte]
    | some l => cases l <;> simp [Notice.fields, optTicketBytes, Notice.kind, NoticeKind.code, slotCode, optCode, byte, LossReason.code]
  · rw [noticeBytes_eq (k := 2) (by simp [Notice.fields, optTicketBytes])]
    cases slot <;> cases loss with
    | none => simp [Notice.fields, optTicketBytes, Notice.kind, NoticeKind.code, slotCode, optCode, byte]
    | some l => cases l <;> simp [Notice.fields, optTicketBytes, Notice.kind, NoticeKind.code, slotCode, optCode, byte, LossReason.code]
  · rw [noticeBytes_eq (k := 10) (by simp [Notice.fields])]
    simp [Notice.fields, Notice.kind, NoticeKind.code, byte]
  · rw [noticeBytes_eq (k := 0) (by simp [Notice.fields, Closure.bytes_length])]
    cases how <;> cases seller <;>
      simp [Notice.fields, Notice.kind, NoticeKind.code, byte, Closure.bytes, Closure.sellerByte, Settlement.code, flagByte]
  · rw [noticeBytes_eq (k := 0) (by simp [Notice.fields, Closure.bytes_length])]
    simp [Notice.fields, Notice.kind, NoticeKind.code, byte, Closure.bytes, Closure.sellerByte, bytesOf]
  · rw [noticeBytes_eq (k := 6) (by simp [Notice.fields])]
    simp [Notice.fields, Notice.kind, NoticeKind.code, byte, fill]
  · rw [noticeBytes_eq (k := 7) (by simp [Notice.fields, optTicketBytes])]
    cases e <;> simp [Notice.fields, Notice.kind, NoticeKind.code, byte, optTicketBytes]
  · rw [noticeBytes_eq (k := 7) (by simp [Notice.fields, optTicketBytes])]
    cases e <;> simp [Notice.fields, Notice.kind, NoticeKind.code, byte, optTicketBytes]
  · rw [noticeBytes_eq (k := 7) (by simp [Notice.fields])]
    cases role with
    | none => cases isOpen with
      | none => simp [Notice.fields, Notice.kind, NoticeKind.code, byte, optCode] <;> rfl
      | some b => cases b <;> simp [Notice.fields, Notice.kind, NoticeKind.code, byte, optCode, dayStateCode] <;> rfl
    | some r => cases r <;> cases isOpen with
      | none => simp [Notice.fields, Notice.kind, NoticeKind.code, byte, optCode, Role.code] <;> rfl
      | some b => cases b <;> simp [Notice.fields, Notice.kind, NoticeKind.code, byte, optCode, dayStateCode, Role.code] <;> rfl
  · rw [noticeBytes_eq (k := 8) (by simp [Notice.fields])]
    simp [Notice.fields, Notice.kind, NoticeKind.code, byte] <;> rfl
  · refine command_answers (ps := []) ht (by decide : 3 ∈ commandCodes) (always_refusal (by simp)) ?_
    simp [readNotice, hq, okWith, State.onNotices, Result.code, byte]
  · refine command_answers (ps := []) ht (by decide : 3 ∈ commandCodes) (always_refusal (by simp)) ?_
    simp [readNotice, hq, reply, Result.code, byte]
  · refine command_answers (ps := [b]) ht (by decide : 4 ∈ commandCodes) (always_refusal (by simp)) ?_
    have hcase : b = 0 ∨ b = 1 := by
      have : b.toNat = 0 ∨ b.toNat = 1 := by omega
      exact this.imp (BitVec.eq_of_toNat_eq ·) (BitVec.eq_of_toNat_eq ·)
    rcases hcase with rfl | rfl <;> simp [withParams, setAttn, boolOf, reply, State.onNotices, Result.code, byte]
  · refine command_answers (ps := [b]) ht (by decide : 4 ∈ commandCodes) (always_refusal (by simp)) ?_
    have hnone : boolOf b.toNat = none := by
      match h : b.toNat with
      | 0 | 1 => omega
      | n + 2 => rfl
    simp [withParams, setAttn, hnone, reply, Result.code, byte]
  · simp [State.attnLow]

end

section
/-! Configuration, the opening of the day, the yard clock, the captures that NEW TICKET and ZERO ask for, and the grade
table. -/

namespace Sys2Proof.Machine

/-! ### The items of CONFIGURE (R210) -/

theorem takeNat_bytesOf_raw (w v : Nat) (rest : List Byte) :
    takeNat w (bytesOf w v ++ rest) = some (natOf (bytesOf w v), rest) := takeNat_bytes (bytesOf_length w v) rest

theorem readItems_one (i : Byte) (v : Nat) : readItems (i :: bytesOf 4 v) = some [(i.toNat, natOf (bytesOf 4 v))] := by
  have h := takeNat_bytesOf_raw 4 v []
  rw [List.append_nil] at h
  simp [readItems, takeMany, h]

theorem readItems_two (i j : Byte) (v w : Nat) : readItems ((i :: bytesOf 4 v) ++ (j :: bytesOf 4 w)) =
    some [(i.toNat, natOf (bytesOf 4 v)), (j.toNat, natOf (bytesOf 4 w))] := by
  have h := takeNat_bytesOf_raw 4 w []
  rw [List.append_nil] at h
  simp [readItems, takeMany, takeNat_bytesOf_raw, h]

theorem Settings.inRange_iff {c : Settings} : c.inRange = true ↔
    (c.division = 5 ∨ c.division = 10 ∨ c.division = 20 ∨ c.division = 50) ∧ 10000 ≤ c.capacity ∧ c.capacity ≤ 150000 ∧
    c.capacity % c.division = 0 ∧ 3 ≤ c.windowLength ∧ c.windowLength ≤ 32 ∧ 1 ≤ c.motionBand ∧
    c.motionBand ≤ 5 * c.division ∧ 1 ≤ c.clearThreshold ∧ c.clearThreshold ≤ 50 ∧ 5 ≤ c.captureTimeout ∧
    c.captureTimeout ≤ 120 ∧ 10 ≤ c.claimWindow ∧ c.claimWindow ≤ 250 ∧ 30 ≤ c.confirmTimeout ∧ c.confirmTimeout ≤ 600 ∧
    c.regulatedCap ≤ 300900000 ∧ c.ticketCashMax ≤ 300900000 := by
  simp only [Settings.inRange, and_assoc, Bool.and_eq_true, decide_eq_true_eq]
  rfl

theorem zeroing_of_idle {s : State} (h : s.weigh = none) : s.zeroing = false := by simp [State.zeroing, h]

/-- The pairs of a CONFIGURE that no zeroing holds up are put where that leaves the settings in range. -/
theorem configure_put {items : List (Nat × Nat)} {s : State} {c : Settings} (h : s.weigh = none)
    (hnd : (items.map Prod.fst).Nodup) (hp : s.settings.putAll items = some c) (hr : c.inRange = true) :
    configure items s = reply .ok { s with settings := c } := by
  simp [configure, zeroing_of_idle h, hnd, hp, hr]

theorem configure_refused {items : List (Nat × Nat)} {s : State} (h : s.weigh = none)
    (hr : (items.map Prod.fst).Nodup → ∀ c, s.settings.putAll items = some c → c.inRange = false) :
    configure items s = reply .range s := by
  by_cases hnd : (items.map Prod.fst).Nodup
  · cases hp : s.settings.putAll items with
    | none => simp [configure, zeroing_of_idle h, hnd, hp]
    | some c => simp [configure, zeroing_of_idle h, hnd, hp, hr hnd c hp]
  · simp [configure, zeroing_of_idle h, hnd]

/-- CONFIGURE of one item with a value in range. -/
theorem configure_sets {s : State} {i : Byte} {v : Nat} {c : Settings} (ht : s.takes 5) (ho : s.day.isOpen = false)
    (hw : s.weigh = none) (hv : v < 2 ^ 32) (hp : s.settings.put i.toNat v = some c) (hr : c.inRange = true) :
    exec (.configure (i :: bytesOf 4 v)) s = .next (State.answered [1] { s.accepted 5 with settings := c }) := by
  refine command_answers (ps := i :: bytesOf 4 v) (by simpa using ht) (by decide : 11 ∈ commandCodes)
    (whileClosed_refusal ho (by simp)) ?_
  rw [readItems_one, natOf_bytesOf 4 hv]
  have hall : (s.accepted 5).settings.putAll [(i.toNat, v)] = some c := by simp [Settings.putAll, hp]
  rw [withParams, List.length_cons, bytesOf_length, configure_put (by simpa using hw) (by simp) hall hr]
  rfl

/-- CONFIGURE is refused where its items put nothing in range. -/
theorem configure_range {s : State} {l : Nat} {ps : List Byte} {items : List (Nat × Nat)} (ht : s.takes l) (hl : ps.length = l)
    (hmem : l ∈ [5, 10, 15, 20, 25, 30, 35, 40, 45]) (ho : s.day.isOpen = false) (hw : s.weigh = none)
    (hi : readItems ps = some items)
    (hr : (items.map Prod.fst).Nodup → ∀ c, s.settings.putAll items = some c → c.inRange = false) :
    exec (.configure ps) s = .next ((s.accepted l).answered [5]) := by
  subst hl
  refine command_answers ht (by decide : 11 ∈ commandCodes) (whileClosed_refusal ho hmem) ?_
  rw [hi, withParams, configure_refused (by simpa using hw) (by simpa using hr)]
  rfl

theorem configure_one_range {s : State} {i v : Nat} (ht : s.takes 5) (ho : s.day.isOpen = false) (hw : s.weigh = none)
    (hi : i < 256) (hv : v < 2 ^ 32) (hr : ∀ c, s.settings.put i v = some c → c.inRange = false) :
    exec (.configure (byte i :: bytesOf 4 v)) s = .next ((s.accepted 5).answered [5]) := by
  refine configure_range ht (by simp) (by simp) ho hw (readItems_one _ _) fun _ c hc => hr c ?_
  rw [byte_toNat, Nat.mod_eq_of_lt hi, natOf_bytesOf 4 hv] at hc
  simp only [Settings.putAll] at hc
  cases hp : s.settings.put i v with
  | none => simp [hp] at hc
  | some d => simpa [hp] using hc

theorem put_unknown {i v : Nat} {c : Settings} (h : i = 0 ∨ 15 < i) : c.put i v = none := by
  unfold Settings.put
  split <;> simp_all

/-- A value outside its item's range is not put, or leaves the settings out of range. -/
theorem put_out_of_range {i v : Nat} {c d : Settings}
    (h : i = 1 ∧ (v < 10000 ∨ 150000 < v ∨ v % c.division ≠ 0) ∨
      i = 2 ∧ ((v ≠ 5 ∧ v ≠ 10 ∧ v ≠ 20 ∧ v ≠ 50) ∨ c.capacity % v ≠ 0 ∨ 5 * v < c.motionBand) ∨
      i = 3 ∧ (v < 3 ∨ 32 < v) ∨ i = 4 ∧ (v < 1 ∨ 5 * c.division < v) ∨ i = 5 ∧ (v < 1 ∨ 50 < v) ∨
      i = 6 ∧ (v < 5 ∨ 120 < v) ∨ i = 7 ∧ (v < 10 ∨ 250 < v) ∨ i = 8 ∧ (v < 30 ∨ 600 < v) ∨
      (i = 9 ∨ i = 10) ∧ v ≠ 1 ∧ v ≠ 2 ∨ (i = 11 ∨ i = 12 ∨ i = 13) ∧ 1 < v ∨ (i = 14 ∨ i = 15) ∧ 300900000 < v)
    (hp : c.put i v = some d) : d.inRange = false := by
  have hscope (hv : v ≠ 1 ∧ v ≠ 2) : faultScopeOf v = none ∧ lockModeOf v = none := by
    constructor
    · unfold faultScopeOf
      split <;> simp_all
    · unfold lockModeOf
      split <;> simp_all
  have hbool (hv : 1 < v) : boolOf v = none := by
    unfold boolOf
    split <;> simp_all
  rw [← Bool.not_eq_true]
  intro hd
  rw [Settings.inRange_iff] at hd
  rcases h with ⟨rfl, h⟩ | ⟨rfl, h⟩ | ⟨rfl, h⟩ | ⟨rfl, h⟩ | ⟨rfl, h⟩ | ⟨rfl, h⟩ | ⟨rfl, h⟩ | ⟨rfl, h⟩ | ⟨rfl | rfl, h⟩ |
    ⟨rfl | rfl | rfl, h⟩ | ⟨rfl | rfl, h⟩
  case inr.inr.inr.inr.inr.inr.inr.inr.inl.inl => simp [Settings.put, hscope h] at hp
  case inr.inr.inr.inr.inr.inr.inr.inr.inl.inr => simp [Settings.put, hscope h] at hp
  case inr.inr.inr.inr.inr.inr.inr.inr.inr.inl.inl => simp [Settings.put, hbool h] at hp
  case inr.inr.inr.inr.inr.inr.inr.inr.inr.inl.inr.inl => simp [Settings.put, hbool h] at hp
  case inr.inr.inr.inr.inr.inr.inr.inr.inr.inl.inr.inr => simp [Settings.put, hbool h] at hp
  all_goals
    obtain rfl := Option.some.inj hp
    dsimp only at hd
    omega

end Sys2Proof.Machine

open Sys2Proof Sys2Proof.Machine

/-- Settles O16: a value in range is put and leaves the settings in range; any other is refused. -/
theorem configureAndDefaults : Obligations.ConfigureAndDefaults := by
  intro s ho
  refine ⟨fun v ht hr hw => ?_, fun i v ht hr hw hv h => ?_, fun i v w ht hw => ?_, fun d m ht hr hw hm hd hcap => ?_,
    fun i v ht hw hi => ?_, fun i v o ht hw hz h1 h6 => ?_, fun ht hw => ?_⟩
  · have hset {i : Byte} {c : Settings} (hv : v < 2 ^ 32) (hp : s.settings.put i.toNat v = some c) (hin : c.inRange = true) :=
      configure_sets ht ho hw hv hp hin
    rw [Settings.inRange_iff] at hr
    refine ⟨fun h1 h2 h3 => hset (by omega) rfl ?_, fun h1 h2 h3 => hset (by omega) rfl ?_, fun h1 h2 => hset (by omega) rfl ?_,
      fun h1 h2 => hset (by omega) rfl ?_, fun h1 h2 => hset (by omega) rfl ?_, fun h1 h2 => hset (by omega) rfl ?_,
      fun h1 h2 => hset (by omega) rfl ?_, fun h1 h2 => hset (by omega) rfl ?_, ?_, ?_, ?_, ?_, ?_,
      fun h => hset (by omega) rfl ?_, fun h => hset (by omega) rfl ?_⟩
    case refine_9 => rintro (rfl | rfl) <;> exact hset (by omega) rfl (Settings.inRange_iff.2 hr)
    case refine_10 => rintro (rfl | rfl) <;> exact hset (by omega) rfl (Settings.inRange_iff.2 hr)
    case refine_11 =>
      intro h
      obtain rfl | rfl : v = 0 ∨ v = 1 := by omega
      all_goals exact hset (by omega) rfl (Settings.inRange_iff.2 hr)
    case refine_12 =>
      intro h
      obtain rfl | rfl : v = 0 ∨ v = 1 := by omega
      all_goals exact hset (by omega) rfl (Settings.inRange_iff.2 hr)
    case refine_13 =>
      intro h
      obtain rfl | rfl : v = 0 ∨ v = 1 := by omega
      all_goals exact hset (by omega) rfl (Settings.inRange_iff.2 hr)
    all_goals
      rw [Settings.inRange_iff]
      dsimp only
      omega
  · exact configure_one_range ht ho hw (by omega) hv fun c hc => put_out_of_range h hc
  · exact configure_range ht (by simp) (by simp) ho hw (readItems_two i i v w) fun hnd => by simp at hnd
  · have hd32 : d < 2 ^ 32 := by omega
    have hitems : readItems ((2 :: bytesOf 4 d) ++ (4 :: bytesOf 4 m)) = some [(2, d), (4, m)] := by
      rw [readItems_two, natOf_bytesOf 4 hd32, natOf_bytesOf 4 hm]
      rfl
    have hput : s.settings.putAll [(2, d), (4, m)] = some { s.settings with division := d, motionBand := m } := rfl
    rw [Settings.inRange_iff] at hr
    split
    · rename_i hin
      refine command_answers (ps := (2 :: bytesOf 4 d) ++ (4 :: bytesOf 4 m)) (by simpa using ht) (by decide : 11 ∈ commandCodes)
        (whileClosed_refusal ho (by simp)) ?_
      have hc : ({ s.settings with division := d, motionBand := m } : Settings).inRange = true := by
        rw [Settings.inRange_iff]
        dsimp only
        omega
      rw [hitems, withParams, configure_put (by simpa using hw) (by simp) (by simpa using hput) hc]
      simp [reply, Result.code, byte]
    · rename_i hout
      refine configure_range ht (by simp) (by simp) ho hw hitems fun _ c hc => ?_
      obtain rfl := Option.some.inj (hput.symm.trans hc)
      rw [← Bool.not_eq_true, Settings.inRange_iff]
      dsimp only
      omega
  · refine configure_range ht (by simp) (by simp) ho hw (readItems_one i v) fun _ c hc => ?_
    have hi' : i.toNat = 0 ∨ 15 < i.toNat := hi.imp (fun h => by rw [h]; rfl) id
    simp [Settings.putAll, put_unknown hi'] at hc
  · refine command_answers (ps := i :: bytesOf 4 v) (by simpa using ht) (by decide : 11 ∈ commandCodes)
      (whileClosed_refusal ho (by simp)) ?_
    rw [readItems_one]
    simp [withParams, configure, State.zeroing, hw, hz, h1, h6, reply, Result.code, byte]
  · refine command_answers (ps := []) ht (by decide : 12 ∈ commandCodes) (whileClosed_refusal ho (by simp)) ?_
    simp [configureDefaults, State.zeroing, hw, reply, Result.code, byte, Settings.factory]

end

section
/-! What notices and latches leave of the state, with the opening of the day, the yard clock, and the captures that NEW
TICKET and ZERO ask for. -/

namespace Sys2Proof.Machine

/-! ### Posting and latching change flags and notices alone -/

/-- At most `k` notices join the queue, behind those queued; what is latched stays latched, and nothing but flags and
notices changes. -/
structure Posts (k : Nat) (s t : State) : Prop where
  shape : t = { s with flags := t.flags, notices := t.notices }
  queue : s.notices.queue <+: t.notices.queue
  length : t.notices.queue.length ≤ s.notices.queue.length + k
  latched : ∀ f, s.latched f = true → t.latched f = true
  restarted : t.flags.restarted = s.flags.restarted

theorem Posts.refl (s : State) : Posts 0 s s := ⟨rfl, List.prefix_refl _, Nat.le_refl _, fun _ => id, rfl⟩

theorem Posts.trans {k l : Nat} {s t u : State} (h : Posts k s t) (h' : Posts l t u) : Posts (k + l) s u where
  shape := h'.shape.trans (congrArg (fun x : State => { x with flags := u.flags, notices := u.notices }) h.shape)
  queue := h.queue.trans h'.queue
  length := by have := h.length; have := h'.length; omega
  latched f hf := h'.latched f (h.latched f hf)
  restarted := h'.restarted.trans h.restarted

theorem Posts.mono {k l : Nat} {s t : State} (h : Posts k s t) (hle : k ≤ l) : Posts l s t :=
  ⟨h.shape, h.queue, Nat.le_trans h.length (Nat.add_le_add_left hle _), h.latched, h.restarted⟩

theorem Posts.mem {k : Nat} {s t : State} (h : Posts k s t) {x : Nat × Notice} (hx : x ∈ s.notices.queue) :
    x ∈ t.notices.queue := h.queue.subset hx

theorem grown_latched (d : Detail) (r : FlagRecord) : (r.grown d).latched = true := by
  unfold FlagRecord.grown
  split <;> simp_all

theorem latched_setFlag (f g : Flag) (r : FlagRecord) (s : State) :
    (s.setFlag g r).latched f = if f = g then r.latched else s.latched f := by
  simp only [State.latched, State.flag, State.setFlag, State.onFlags_flags]
  split
  · rename_i h
    rw [h, Flags.get_set_self]
  · rename_i h
    rw [Flags.get_set_other h]

theorem setFlag_posts {f : Flag} {r : FlagRecord} (h : r.latched = true) (s : State) : Posts 0 s (s.setFlag f r) where
  shape := rfl
  queue := List.prefix_refl _
  length := Nat.le_refl _
  latched g hg := by rw [latched_setFlag]; split <;> assumption
  restarted := Flags.set_restarted f r s.flags

theorem postNotice_posts (n : Notice) (s : State) : Posts 1 s (postNotice n s) := by
  rcases Nat.lt_or_ge s.notices.queue.length 16 with h | h
  · rw [postNotice_room h]
    exact ⟨rfl, List.prefix_append _ _, by simp, fun _ => id, rfl⟩
  · rw [postNotice_full h]
    have hseq : Posts 1 s (s.onNotices (fun q => { q with seq := (q.seq + 1) % 256 })) :=
      ⟨rfl, List.prefix_refl _, by simp, fun _ => id, rfl⟩
    exact hseq.trans (setFlag_posts (grown_latched _ _) _)

theorem latchEvent_posts (f : Flag) (d : Detail) (s : State) : Posts 1 s (latchEvent f d s) := by
  have hset := setFlag_posts (f := f) (grown_latched d (s.flag f)) s
  simp only [latchEvent]
  split
  · exact hset.trans (postNotice_posts _ _)
  · exact hset.mono (by omega)

theorem latchCondition_posts (f : Flag) (d : Detail) (s : State) : Posts 1 s (latchCondition f d s) := by
  unfold latchCondition
  split
  · exact (Posts.refl s).mono (by omega)
  · exact (setFlag_posts rfl s).trans (postNotice_posts _ _)

theorem judge_posts (f : Flag) (s : State) : Posts 1 s (judge f s) := by
  unfold judge
  split
  · exact latchCondition_posts f _ s
  · exact (Posts.refl s).mono (by omega)

/-! ### What is latched after posting and latching; NOTICE OVERFLOW is a matter of the queue's room -/

theorem latched_postNotice {f : Flag} (hf : f ≠ .noticeOverflow) (n : Notice) (s : State) :
    (postNotice n s).latched f = s.latched f := by
  unfold postNotice
  split
  · rfl
  · rw [latched_setFlag, if_neg hf]
    rfl

theorem latched_latchEvent {f : Flag} (hf : f ≠ .noticeOverflow) (g : Flag) (d : Detail) (s : State) :
    (latchEvent g d s).latched f = (s.latched f || decide (f = g)) := by
  have hset : (s.setFlag g ((s.flag g).grown d)).latched f = (s.latched f || decide (f = g)) := by
    rw [latched_setFlag, grown_latched]
    by_cases h : f = g <;> simp [h]
  simp only [latchEvent]
  split
  · rw [latched_postNotice hf, hset]
  · exact hset

theorem latched_latchCondition {f : Flag} (hf : f ≠ .noticeOverflow) (g : Flag) (d : Detail) (s : State) :
    (latchCondition g d s).latched f = (s.latched f || decide (f = g)) := by
  unfold latchCondition
  split
  · rename_i h
    by_cases e : f = g
    · simp [e, h]
    · simp [e]
  · rw [latched_postNotice hf, latched_setFlag]
    by_cases e : f = g <;> simp [e]

theorem latched_judge {f : Flag} (hf : f ≠ .noticeOverflow) (g : Flag) (s : State) :
    (judge g s).latched f = (s.latched f || (decide (f = g) && condition g s)) := by
  unfold judge
  split
  · rename_i h
    rw [latched_latchCondition hf, h, Bool.and_true]
  · rename_i h
    simp [h]

/-! ### DAY OPEN (R212) -/

theorem postClockTop_posts (s : State) : Posts 1 s (postClockTop s) := by
  unfold postClockTop
  split
  · exact postNotice_posts _ s
  · exact (Posts.refl s).mono (by omega)

theorem latched_postClockTop {f : Flag} (hf : f ≠ .noticeOverflow) (s : State) : (postClockTop s).latched f = s.latched f := by
  unfold postClockTop
  split
  · exact latched_postNotice hf _ s
  · rfl

/-- What DAY OPEN does behind its checks. -/
def dayOpened (number clock : Nat) (s : State) : State :=
  let u := judge .cashLimit (judge .cashWarn (openDay number clock s))
  postClockTop (postNotice (.day u.day.number .opened 0) u)

theorem dayOpened_posts (n k : Nat) (s : State) : Posts 4 (openDay n k s) (dayOpened n k s) :=
  (((judge_posts .cashWarn _).trans (judge_posts .cashLimit _)).trans (postNotice_posts _ _)).trans (postClockTop_posts _)

theorem dayOpened_latched {f : Flag} (hf : f ≠ .noticeOverflow) (n k : Nat) (s : State) : (dayOpened n k s).latched f =
    (s.latched f || (decide (f = .cashWarn) && decide (s.drawer.warn = 0)) ||
      (decide (f = .cashLimit) && decide (s.drawer.limit = 0))) := by
  have hwarn : condition .cashWarn (openDay n k s) = decide (s.drawer.warn = 0) := by
    simp [condition, openDay, WindowTotals.zero]
  have hlimit : condition .cashLimit (judge .cashWarn (openDay n k s)) = decide (s.drawer.limit = 0) := by
    rw [(judge_posts .cashWarn (openDay n k s)).shape]
    simp [condition, openDay, WindowTotals.zero]
  simp only [dayOpened]
  rw [latched_postClockTop hf, latched_postNotice hf, latched_judge hf, latched_judge hf, hwarn, hlimit]
  rfl

/-- The DAY notice is posted where the queue has room behind the two cash flags. -/
theorem dayOpened_notice {n k : Nat} {s : State} (h : s.notices.queue.length ≤ 12) :
    ∃ q, (q, Notice.day n .opened 0) ∈ (dayOpened n k s).notices.queue := by
  have hp := (judge_posts .cashWarn (openDay n k s)).trans (judge_posts .cashLimit _)
  have hlen : (judge .cashLimit (judge .cashWarn (openDay n k s))).notices.queue.length ≤ s.notices.queue.length + 2 := hp.length
  have hday : (judge .cashLimit (judge .cashWarn (openDay n k s))).day.number = n :=
    congrArg (fun u : State => u.day.number) hp.shape
  simp only [dayOpened]
  generalize judge .cashLimit (judge .cashWarn (openDay n k s)) = u at hlen hday ⊢
  have hroom : u.notices.queue.length < 16 := by omega
  refine ⟨u.notices.seq, (postClockTop_posts _).mem ?_⟩
  rw [postNotice_room hroom, hday]
  exact List.mem_append_right _ (List.mem_singleton_self _)

/-! ### The yard clock (R211) -/

theorem clock_hold {k : Nat} (h : k ≤ 172799) : min Config.clockTop (k + 1) = if k = 172799 then 172799 else k + 1 := by
  simp only [Config.clockTop]
  split <;> omega

theorem tickClock_elapse {s : State} (r : Nat) (h : s.day.clock ≤ 172799) : tickClock (elapse r s) =
    { elapse r s with day := { s.day with clock := if s.day.clock = 172799 then 172799 else s.day.clock + 1, tick := some 1000 } } := by
  rw [← clock_hold h]
  rfl

theorem postClockTop_at_top {s : State} (h : s.day.clock = 172799) (hr : s.notices.queue.length < 16) : postClockTop s =
    { s with notices := { s.notices with
        queue := s.notices.queue ++ [(s.notices.seq, .day s.day.number .clockTop 0)], seq := (s.notices.seq + 1) % 256 } } := by
  rw [postClockTop, if_pos (show s.day.clock = Config.clockTop from h), postNotice_room hr]
  rfl

end Sys2Proof.Machine

open Sys2Proof Sys2Proof.Machine

/-- Settles O17: the checks in their order, then `openDay` with the cash flags judged and the notices posted. -/
theorem dayOpen : Obligations.DayOpen := by
  intro n k s ht ho hr hn hk c
  have hacc : ({ always 14 [5] with whenOpen := false, gated := true } : Acceptance).refusal 5 s = none :=
    Acceptance.refusal_none rfl (.inr hr) (by simp [always, ho]) (by simp [always])
  have hread : readTwo 2 3 (bytesOf 2 n ++ bytesOf 3 k) = some (n, k) := by
    have h3 := takeNat_bytesOf (w := 3) (show k < 256 ^ 3 from hk) []
    rw [List.append_nil] at h3
    simp [readTwo, takeNat_bytesOf (w := 2) (show n < 256 ^ 2 by omega), h3]
  have hanswer {t : State} {bs : List Byte}
      (hb : (if (s.accepted 5).waitId then reply .notReady (s.accepted 5) else Machine.dayOpen (n, k) (s.accepted 5)) = (t, bs)) :
      exec c s = .next (t.answered bs) := by
    refine command_answers (ps := bytesOf 2 n ++ bytesOf 3 k) (by simpa using ht) (by decide : 14 ∈ commandCodes)
      (by simpa using hacc) ?_
    rw [hread]
    simpa [withParams] using hb
  refine ⟨fun hid => hanswer ?_, fun hid hbad => hanswer ?_, fun hid h0 htop hl => hanswer ?_, fun hid h0 htop hl =>
    ⟨dayOpened n k (s.accepted 5), hanswer ?_, ?_, ?_, ?_, ?_, ?_, fun hroom => dayOpened_notice (by simpa using hroom)⟩⟩
  · rw [if_pos (by simpa [waitId_iff] using hid)]
    rfl
  all_goals have hw : ¬ (s.accepted 5).waitId = true := by simpa [waitId_iff] using hid
  · rw [if_neg hw, Machine.dayOpen, if_pos (by simp only [Config.clockTop]; omega)]
    rfl
  · rw [if_neg hw, Machine.dayOpen, if_neg (by simp only [Config.clockTop]; omega), if_pos (by simpa [State.latched, State.flag, Flags.get] using hl)]
    rfl
  · have hl' : (s.accepted 5).latched .retainedLost = false := by simpa [State.latched, State.flag, Flags.get] using hl
    rw [if_neg hw, Machine.dayOpen, if_neg (by simp only [Config.clockTop]; omega), hl']
    rfl
  · have h := (dayOpened_posts n k (s.accepted 5)).shape
    generalize dayOpened n k (s.accepted 5) = t at h ⊢
    have hp := congrArg State.pricing h
    rw [h]
    simp only [openDay, State.accepted_tickets, State.accepted_drawer]
    congr 2
    refine List.filter_congr fun e _ => ?_
    cases e.life <;> rfl
  · rw [(dayOpened_posts n k (s.accepted 5)).shape]
    rfl
  · rw [(dayOpened_posts n k (s.accepted 5)).shape]
    simp only [openDay, State.accepted_pricing]
    refine List.map_congr_left fun p _ => ?_
    simp only [Grade.collapse]
    cases p.2.versions.getLast? <;> rfl
  · rw [dayOpened_latched (by simp)]
    simp
  · rw [dayOpened_latched (by simp)]
    simp

/-- Settles O19: the clock ticks within its range, and the event that brings it to its top posts the notice. -/
theorem yardClock : Obligations.YardClock := by
  intro s
  refine ⟨fun h => ⟨?_, ?_⟩, fun r hp h hle hne => ?_, ?_, fun r hp h hlt => ?_⟩
  · show Host.Outcome.next _ = _
    rw [h]
  · show Host.Outcome.next _ = _
    rw [h]
  · have hnot : ¬ s.day.clock + 1 = Config.clockTop := by simp only [Config.clockTop]; omega
    simp only [exec, execYardClockTick, h, hnot, decide_false, Bool.false_eq_true, if_false, tickClock_elapse r hle]
    exact congrArg Host.Outcome.next (if_pos hp)
  · intro r hp h htop hroom t
    have hreach : s.day.clock + 1 = Config.clockTop := by simp only [Config.clockTop]; omega
    have hstep : postClockTop (tickClock (elapse r s)) = { elapse r s with
        day := { s.day with clock := 172799, tick := some 1000 }
        notices := { s.notices with
          queue := s.notices.queue ++ [(s.notices.seq, .day s.day.number .clockTop 0)]
          seq := (s.notices.seq + 1) % 256 } } := by
      rw [tickClock_elapse r (by omega), if_neg (by omega), htop]
      exact postClockTop_at_top rfl hroom
    have hpow : (tickClock (elapse r s)).powered = true := hp
    constructor
    · simp only [exec, execYardClockTick, h, hreach, decide_true, if_true, hstep, hpow, t]
    · simp only [exec, execClockTop, h, hreach, if_true, hstep, hpow, t]
  · simp only [exec, execYardClockTick, h, tickClock_elapse r (Nat.le_of_lt hlt), if_neg (Nat.ne_of_lt hlt)]
    exact congrArg Host.Outcome.next (if_neg (by simp [elapse, hp]))

/-- Settles O20: NEW TICKET's checks on the two stores in their order, and the contexts that the two commands open. -/
theorem newTicketAndZeroOpenAContext : Obligations.NewTicketAndZeroOpenAContext := by
  refine ⟨?_, fun s ht hw hg => ⟨fun hbusy => ?_, fun hidle => ?_⟩⟩
  · intro tag seller s ps ht hw ho hr hidle hlt hls hc hg hsil
    have hread : readNewTicket ps = some (tag, seller) := by
      have hchars (c : Nat) (hm : c ∈ tag ++ seller) : c < 256 := by have := hc c hm; omega
      have h2 := takeText_textBytes (t := seller) (by omega) (fun c hm => hchars c (List.mem_append_right _ hm)) []
      rw [List.append_nil] at h2
      simp [ps, readNewTicket, takeText_textBytes (t := tag) (by omega) (fun c hm => hchars c (List.mem_append_left _ hm)), h2]
    have hlen : ps.length ∈ upTo 2 30 := by
      simp [ps, textBytes, upTo]
      omega
    have hok : optTextOk 1 12 (given tag) = true ∧ optTextOk 1 16 (given seller) = true := by
      have htext {t : Text} {k : Nat} (hl : t.length ≤ k) (hs : ∀ c ∈ t, 32 ≤ c ∧ c ≤ 126) : optTextOk 1 k (given t) = true := by
        by_cases h : t = []
        · simp [given, h, optTextOk]
        · rw [given, if_neg h]
          exact textOk_iff.2 ⟨List.length_pos_iff.2 h, hl, hs⟩
      exact ⟨htext hlt fun c hm => hc c (List.mem_append_left _ hm), htext hls fun c hm => hc c (List.mem_append_right _ hm)⟩
    have hanswer {t : State} {bs : List Byte} (hb : Machine.newTicket (tag, seller) (s.accepted ps.length) = (t, bs)) :
        exec (.newTicket ps) s = .next (t.answered bs) := by
      refine command_answers ht (by decide : 20 ∈ commandCodes) (weighOpen_refusal hw ho hr hlen) ?_
      simpa [unlessBusy, State.slotBusy, hidle, hread, withParams] using hb
    have hrefusal : newTicketRefusal (given tag) (given seller) (s.accepted ps.length) =
        firstRefusal [(!s.tableRoom, .tableFull), (!s.registerRoom, .homeFull), (s.receiptBlocked, .printQueueFull)] := by
      simp [newTicketRefusal, firstRefusal, hok, hg, hsil]
    have htable : s.tableRoom = decide (s.tickets.table.length < 48) := by
      simp [State.tableRoom, State.reservations, hidle, Config.tableCapacity]
    have hreg : s.registerRoom = decide (s.tickets.register.length < 1024) := by
      simp [State.registerRoom, State.reservations, hidle, Config.registerCapacity]
    refine ⟨fun hfull => hanswer ?_, fun hroom hfull => hanswer ?_, fun hroom hroom' hprint => hanswer ?_⟩
    · simp [Machine.newTicket, hrefusal, htable, firstRefusal, Nat.not_lt.2 hfull, reply, Result.code, byte]
    · simp [Machine.newTicket, hrefusal, htable, hreg, firstRefusal, hroom, Nat.not_lt.2 hfull, reply, Result.code, byte]
    · have hpr : s.receiptBlocked = false := by
        cases hq : s.settings.receiptRequired <;> simp_all [State.receiptBlocked, State.printRoom, Config.jobCapacity]
      simp only [Machine.newTicket, hrefusal, htable, hreg, hpr, firstRefusal, hroom, hroom', decide_true, Bool.not_true,
        Bool.false_eq_true, if_false]
      simp [beginNewTicket, openCapture, State.onScale, State.onWeigh, reply, Result.code, byte, given]
  · refine command_answers (ps := []) ht (by decide : 24 ∈ commandCodes) (weighAlways_refusal hw (by simp)) ?_
    have hb : s.weigh.isSome = true := Option.isSome_iff_ne_none.2 hbusy
    simp [unlessBusy, State.slotBusy, hb, reply, Result.code, byte]
  · refine command_answers (ps := []) ht (by decide : 24 ∈ commandCodes) (weighAlways_refusal hw (by simp)) ?_
    simp [unlessBusy, State.slotBusy, hidle, Machine.zero, hg, beginZero, openCapture, State.onScale, State.onWeigh, reply,
      Result.code, byte]

end

section
/-! The grade table, the drawer's commands, the readings, the lookups and RELEASE FOREIGN. -/

namespace Sys2Proof.Machine

/-! ### Keyed lists -/

theorem lookup_append {α : Type} (k : Nat) (l l' : List (Nat × α)) : lookup k (l ++ l') = (lookup k l).or (lookup k l') := by
  induction l with
  | nil => rfl
  | cons p l ih =>
    rw [List.cons_append, lookup, lookup, ih]
    split <;> rfl

theorem lookup_none {α : Type} {k : Nat} {l : List (Nat × α)} (h : ∀ p ∈ l, p.1 ≠ k) : lookup k l = none := by
  induction l with
  | nil => rfl
  | cons p l ih =>
    rw [lookup, if_neg (h p List.mem_cons_self), ih fun q hq => h q (List.mem_cons_of_mem _ hq)]

theorem erased_ne {α : Type} {k : Nat} {l : List (Nat × α)} {p : Nat × α} (h : p ∈ erased k l) : p.1 ≠ k := by
  simpa using (List.mem_filter.1 h).2

@[simp] theorem lookup_erased_self {α : Type} (k : Nat) (l : List (Nat × α)) : lookup k (erased k l) = none :=
  lookup_none fun _ => erased_ne

theorem lookup_erased_other {α : Type} {k m : Nat} (h : m ≠ k) (l : List (Nat × α)) : lookup m (erased k l) = lookup m l := by
  induction l with
  | nil => rfl
  | cons p l ih =>
    rw [erased, List.filter_cons]
    by_cases e : p.1 = k
    · have hne : p.1 ≠ m := fun h' => h (h'.symm.trans e)
      rw [if_neg (by simp [e]), lookup, if_neg hne]
      exact ih
    · rw [if_pos (by simp [e]), lookup, lookup]
      split
      · rfl
      · exact ih

@[simp] theorem lookup_assigned_self {α : Type} (k : Nat) (a : α) (l : List (Nat × α)) : lookup k (assigned k a l) = some a := by
  have hfirst : lookup k ((erased k l).takeWhile (fun p => decide (p.1 < k))) = none :=
    lookup_none fun p hp => erased_ne ((List.takeWhile_sublist _).subset hp)
  rw [assigned, lookup_append, lookup_append, hfirst]
  simp [lookup]

theorem lookup_assigned_other {α : Type} {k m : Nat} (h : m ≠ k) (a : α) (l : List (Nat × α)) :
    lookup m (assigned k a l) = lookup m l := by
  have hmid : lookup m [(k, a)] = none := lookup_none fun p hp => by
    rw [List.mem_singleton.1 hp]
    exact Ne.symm h
  rw [assigned, lookup_append, lookup_append, hmid, Option.or_none, ← lookup_append, List.takeWhile_append_dropWhile,
    lookup_erased_other h]

/-! ### Lists of parameters -/

/-- Items read back where each of them does. -/
theorem takeMany_flatMap {α : Type} {f : List Byte → Option (α × List Byte)} {enc : α → List Byte} {l : List α}
    (h : ∀ a ∈ l, ∀ rest, f (enc a ++ rest) = some (a, rest)) (rest : List Byte) :
    takeMany f l.length (l.flatMap enc ++ rest) = some (l, rest) := by
  induction l with
  | nil => rfl
  | cons a l ih =>
    rw [List.flatMap_cons, List.append_assoc, List.length_cons, takeMany, h a List.mem_cons_self]
    simp [ih fun b hb => h b (List.mem_cons_of_mem _ hb)]

theorem takeList_flatMap {α : Type} {f : List Byte → Option (α × List Byte)} {enc : α → List Byte} {l : List α}
    (hl : l.length < 256) (h : ∀ a ∈ l, ∀ rest, f (enc a ++ rest) = some (a, rest)) (rest : List Byte) :
    takeList f (byte l.length :: (l.flatMap enc ++ rest)) = some (l, rest) := by
  rw [takeList, takeNat_one hl]
  exact takeMany_flatMap h rest

/-- A tier in its 6 bytes. -/
def tierBytes (t : Tier) : List Byte := bytesOf 3 t.bound ++ bytesOf 3 t.price

theorem takeTier_bytes {t : Tier} (h : t.bound ≤ 150450 ∧ t.price ≤ 2000000) (rest : List Byte) :
    takeTier (tierBytes t ++ rest) = some (t, rest) := by
  obtain ⟨hb, hp⟩ := h
  simp only [takeTier, tierBytes, List.append_assoc, takeNat_bytesOf (w := 3) (show t.bound < 256 ^ 3 by omega),
    takeNat_bytesOf (w := 3) (show t.price < 256 ^ 3 by omega), Option.bind_eq_bind, Option.bind_some, Option.pure_def]

theorem tiers_length (ts : List Tier) : (ts.flatMap tierBytes).length = 6 * ts.length := by
  induction ts with
  | nil => rfl
  | cons t ts ih =>
    rw [List.flatMap_cons, List.length_append, ih]
    simp [tierBytes]
    omega

theorem takeTiers {ts : List Tier} (hl : ts.length ≤ 4) (h : ∀ t ∈ ts, t.bound ≤ 150450 ∧ t.price ≤ 2000000) :
    takeList takeTier (byte ts.length :: ts.flatMap tierBytes) = some (ts, []) := by
  have := takeList_flatMap (show ts.length < 256 by omega) (fun t ht => takeTier_bytes (h t ht)) []
  rwa [List.append_nil] at this

/-! ### The grade table (R68 to R71) -/

/-- Tiers in range with their bounds rising from 0. -/
theorem tiersOk_of {ts : List Tier} (h1 : 1 ≤ ts.length) (h4 : ts.length ≤ 4) (h : ∀ t ∈ ts, t.bound ≤ 150450 ∧ t.price ≤ 2000000)
    (h0 : ts.head?.map Tier.bound = some 0) (hrise : ts.Pairwise (fun a b => a.bound < b.bound)) : tiersOk ts = true := by
  have hb : ∀ {l : List Tier}, l.Pairwise (fun a b => a.bound < b.bound) → boundsRise l = true := by
    intro l
    induction l with
    | nil => intro _; rfl
    | cons a l ih =>
      intro hp
      cases l with
      | nil => rfl
      | cons b l =>
        exact (boundsRise_cons_cons a b l).2 ⟨List.rel_of_pairwise_cons hp List.mem_cons_self, ih (List.pairwise_cons.1 hp).2⟩
  have hall : ts.all (fun t => decide (t.bound ≤ Config.maxWeight) && decide (t.price ≤ Config.maxPrice)) = true := by
    rw [List.all_eq_true]
    intro t ht
    obtain ⟨hw, hp⟩ := h t ht
    simp only [Bool.and_eq_true, decide_eq_true_eq]
    exact ⟨hw, hp⟩
  cases ts with
  | nil => exact absurd h1 (by decide)
  | cons t ts =>
    simp only [List.head?_cons, Option.map_some, Option.some.injEq] at h0
    simp only [tiersOk, Bool.and_eq_true, decide_eq_true_eq]
    exact ⟨⟨⟨⟨h1, h4⟩, h0⟩, hall⟩, hb hrise⟩

theorem setGrade_shape (n : Nat) (g : Option Grade) (s : State) :
    setGrade n g s = { s with pricing := { s.pricing with grades := (setGrade n g s).pricing.grades } } := by
  cases g <;> rfl

theorem setGrade_self (n : Nat) (g : Option Grade) (s : State) : (setGrade n g s).grade n = g := by
  cases g
  · exact lookup_erased_self n _
  · exact lookup_assigned_self n _ _

theorem setGrade_other {n m : Nat} (h : m ≠ n) (g : Option Grade) (s : State) : (setGrade n g s).grade m = s.grade m := by
  cases g
  · exact lookup_erased_other h _
  · exact lookup_assigned_other h _ _

/-- The list after ADD PRICE VERSION at or behind the newest version's time (R71). -/
theorem withVersion_eq {e : Nat} {ts : List Tier} {vs old : List Version} {v : Version} (hvs : vs = old ++ [v])
    (hl : old.length ≤ 2) : withVersion { effective := e, tiers := ts } vs =
      if e = v.effective then (old ++ [{ effective := e, tiers := ts }], some e)
      else if old.length = 2 then (vs.drop 1 ++ [{ effective := e, tiers := ts }], vs.head?.map Version.effective)
      else (vs ++ [{ effective := e, tiers := ts }], none) := by
  subst hvs
  simp only [withVersion, newestEffective, List.getLast?_concat, Option.map_some, Option.getD_some, List.dropLast_concat,
    List.length_append, List.length_singleton, Config.versionCapacity, ne_eq, List.append_eq_nil_iff, List.cons_ne_self,
    and_false, not_false_eq_true, and_true]
  split
  · rfl
  · by_cases h2 : old.length = 2
    · rw [if_pos (by omega), if_pos h2]
    · rw [if_neg (by omega), if_neg h2]

theorem mem_upTo {lo hi n : Nat} : n ∈ upTo lo hi ↔ lo ≤ n ∧ n ≤ hi := by
  simp [upTo]
  omega

end Sys2Proof.Machine

open Sys2Proof Sys2Proof.Machine

/-- Settles O30: the parameters read back, the checks pass, and the entry or its version list is the one named. -/
theorem loadGradeAndAddPriceVersion : Obligations.LoadGradeAndAddPriceVersion := by
  constructor
  · intro n k reg d name ts s ps ht ho hn hname hchars hk hreg hd hts hrange
    have hps : ps = byte n :: (textBytes name ++ byte k :: byte reg :: byte d :: byte ts.length :: ts.flatMap tierBytes) := by
      simp [ps]
      rfl
    have hread : readLoadGrade ps =
        some { number := n, name := name, kind := k, regulated := reg, deduction := d, tiers := ts } := by
      rw [hps]
      simp only [readLoadGrade, takeNat_one (show n < 256 by omega), takeNat_one (show k < 256 by omega),
        takeNat_one (show reg < 256 by omega), takeNat_one (show d < 256 by omega), takeTiers hts hrange,
        takeText_textBytes (show name.length < 256 by omega) (fun c hc => by have := hchars c hc; omega), Option.bind_eq_bind,
        Option.bind_some, Option.pure_def, whole_nil]
    have hlen : ps.length ∈ upTo 6 42 := by
      rw [hps, mem_upTo]
      simp [textBytes, tiers_length, -List.length_flatMap]
      omega
    have hanswer {t : State} {bs : List Byte} (hb : loadGrade ⟨n, name, k, reg, d, ts⟩ (s.accepted ps.length) = (t, bs)) : exec (.loadGrade ps) s = .next (t.answered bs) := by
      refine command_answers ht (by decide : 40 ∈ commandCodes) (whileClosed_refusal ho hlen) ?_
      rw [hread]
      exact hb
    have hgrade (m : Nat) : (s.accepted ps.length).grade m = s.grade m := State.accepted_grade _ _ _
    have hshape (g : Option Grade) := setGrade_shape n g (s.accepted ps.length)
    refine ⟨fun h => hanswer ?_, fun h1 h32 hnil => ⟨setGrade n none (s.accepted ps.length), hanswer ?_, ?_,
      setGrade_self _ _ _, fun m hm => (setGrade_other hm _ _).trans (hgrade m)⟩, fun h1 h32 hne hkind h0 hrise =>
      ⟨setGrade n (some _) (s.accepted ps.length), hanswer ?_, ?_, setGrade_self _ _ _,
        fun m hm => (setGrade_other hm _ _).trans (hgrade m)⟩⟩
    · rw [loadGrade, if_pos h]
      rfl
    · rw [loadGrade, if_neg (by dsimp only; omega), if_pos hnil]
      rfl
    · simpa using hshape none
    · have hts1 : 1 ≤ ts.length := by
        cases ts with
        | nil => cases h0
        | cons _ _ => simp
      have hk' : gradeKindOf k = some (if k = 1 then .buy else .charge) := by rcases hkind with rfl | rfl <;> rfl
      have hreg' : boolOf reg = some (decide (reg = 1)) := by
        obtain rfl | rfl : reg = 0 ∨ reg = 1 := by omega
        all_goals rfl
      have hloaded : loadedGrade { number := n, name := name, kind := k, regulated := reg, deduction := d, tiers := ts } =
          some { name := name, kind := if k = 1 then .buy else .charge, regulated := decide (reg = 1), deduction := d,
                 versions := [{ effective := 0, tiers := ts }] } := by
        simp only [loadedGrade, hk', hreg']
        rw [if_pos ⟨hd, textOk_iff.2 ⟨List.length_pos_iff.2 hne, hname, hchars⟩, tiersOk_of hts1 hts hrange h0 hrise⟩]
      rw [loadGrade, if_neg (by dsimp only; omega), if_neg (by rintro rfl; cases h0), hloaded]
      rfl
    · simpa using hshape (some _)
  · intro n e ts g old v s ps ht h1 h32 he hts1 hts hrange h0 hrise hg hvs hold
    have hps : ps = byte n :: (bytesOf 3 e ++ byte ts.length :: ts.flatMap tierBytes) := by
      simp [ps]
      rfl
    have hread : readAddVersion ps = some { number := n, effective := e, tiers := ts } := by
      rw [hps]
      simp only [readAddVersion, takeNat_one (show n < 256 by omega), takeNat_bytesOf (w := 3) (show e < 256 ^ 3 by omega),
        takeTiers hts hrange, Option.bind_eq_bind, Option.bind_some, Option.pure_def, whole_nil]
    have hlen : ps.length ∈ [11, 17, 23, 29] := by
      rw [hps]
      simp [tiers_length, -List.length_flatMap]
      omega
    have hok : tiersOk ts = true := tiersOk_of hts1 hts hrange h0 hrise
    have hnewest : newestEffective g.versions = v.effective := by
      rw [hvs, newestEffective, List.getLast?_concat]
      rfl
    have hanswer {t : State} {bs : List Byte} (hb : (if e < v.effective then reply .order (s.accepted ps.length)
        else okWith ([byte (withVersion { effective := e, tiers := ts } g.versions).1.length] ++
            bytesOf 3 ((withVersion { effective := e, tiers := ts } g.versions).2.getD 0))
          (setGrade n (some { g with versions := (withVersion { effective := e, tiers := ts } g.versions).1 })
            (s.accepted ps.length))) = (t, bs)) : exec (.addPriceVersion ps) s = .next (t.answered bs) := by
      refine command_answers ht (by decide : 41 ∈ commandCodes) (always_refusal hlen) ?_
      have hin : ¬ (n = 0 ∨ 32 < n) := by omega
      have htop : ¬ (Config.clockTop < e ∨ tiersOk ts = false) := by
        simpa [hok, Config.clockTop] using he
      rw [hread, withParams]
      simp only [addPriceVersion, if_neg hin, State.accepted_grade, hg, if_neg htop, hnewest]
      exact hb
    refine ⟨fun hlt => hanswer (by rw [if_pos hlt]; rfl), fun hle => ?_⟩
    intro new
    have hnew : (withVersion { effective := e, tiers := ts } g.versions).1 = new.1 ∧
        (withVersion { effective := e, tiers := ts } g.versions).2.getD 0 = new.2 := by
      rw [withVersion_eq hvs hold]
      simp only [new]
      split
      · exact ⟨rfl, rfl⟩
      · split <;> exact ⟨rfl, rfl⟩
    refine ⟨setGrade n (some { g with versions := new.1 }) (s.accepted ps.length), hanswer ?_, ?_, setGrade_self _ _ _,
      fun m hm => (setGrade_other hm _ _).trans (State.accepted_grade _ _ _)⟩
    · rw [if_neg (Nat.not_lt.2 hle), hnew.1, hnew.2]
      rfl
    · simpa using setGrade_shape n (some { g with versions := new.1 }) (s.accepted ps.length)

end

section
/-! The drawer's commands, the readings, the lookups and RELEASE FOREIGN. -/

namespace Sys2Proof.Machine

/-! ### Rows of the pay slot's commands -/

theorem payAlways_gated_refusal {code l : Nat} {ls : List Nat} {s : State} (hw : s.hasPay = true)
    (hr : s.flags.restarted = false) (hl : l ∈ ls) :
    ({ payAlways code ls with gated := true } : Acceptance).refusal l s = none :=
  Acceptance.refusal_none (placeRefusal_pay hw) (.inr hr) (by simp [payAlways, always]) hl

theorem payClosed_gated_refusal {code l : Nat} {ls : List Nat} {s : State} (hw : s.hasPay = true)
    (ho : s.day.isOpen = false) (hr : s.flags.restarted = false) (hl : l ∈ ls) :
    ({ payAlways code ls with whenOpen := false, gated := true } : Acceptance).refusal l s = none :=
  Acceptance.refusal_none (placeRefusal_pay hw) (.inr hr) (by simp [payAlways, always, ho]) hl

theorem gated_refusal {code l : Nat} {ls : List Nat} {s : State} (hr : s.flags.restarted = false) (hl : l ∈ ls) :
    ({ always code ls with gated := true } : Acceptance).refusal l s = none :=
  Acceptance.refusal_none rfl (.inr hr) (by simp [always]) hl

/-! ### The drawer's table (R152) -/

theorem findDenomination_count (v : Nat) (l : List Denomination) :
    ((findDenomination v l).map Denomination.count).getD 0 = match l.find? (fun d => decide (d.value = v)) with
      | some d => d.count
      | none => 0 := by
  rw [findDenomination]
  cases l.find? (fun d => decide (d.value = v)) <;> rfl

theorem insertDenomination_perm (p : Denomination) (l : List Denomination) : (insertDenomination p l).Perm (p :: l) := by
  rw [insertDenomination, List.append_assoc, List.singleton_append]
  refine List.perm_middle.trans (List.Perm.cons p ?_)
  rw [List.takeWhile_append_dropWhile]

/-- A value that the table does not hold goes in at its place. -/
theorem insertDenomination_pairwise {p : Denomination} {l : List Denomination} (hp : ∀ q ∈ l, q.value ≠ p.value)
    (hl : l.Pairwise (fun a b => b.value < a.value)) :
    (insertDenomination p l).Pairwise (fun a b => b.value < a.value) := by
  induction l with
  | nil => exact List.pairwise_singleton _ _
  | cons q l ih =>
    obtain ⟨hq, hrest⟩ := List.pairwise_cons.1 hl
    by_cases h : p.value < q.value
    · have hins : insertDenomination p (q :: l) = q :: insertDenomination p l := by simp [insertDenomination, h]
      rw [hins]
      refine List.pairwise_cons.2 ⟨fun x hx => ?_, ih (fun x hx => hp x (List.mem_cons_of_mem _ hx)) hrest⟩
      obtain rfl | hx := List.mem_cons.1 ((insertDenomination_perm p l).subset hx)
      · exact h
      · exact hq x hx
    · have hlt : q.value < p.value := Nat.lt_of_le_of_ne (Nat.le_of_not_lt h) (hp q List.mem_cons_self)
      have hins : insertDenomination p (q :: l) = p :: q :: l := by simp [insertDenomination, h]
      rw [hins]
      refine List.pairwise_cons.2 ⟨fun x hx => ?_, hl⟩
      obtain rfl | hx := List.mem_cons.1 hx
      · exact hlt
      · exact Nat.lt_trans (hq x hx) hlt

/-- Insertion of the rest of a list into a table. -/
theorem foldl_insert_perm (old : List Denomination) (l : List DenominationParams) (t : List Denomination) :
    (l.foldl (fun t p => insertDenomination (newDenomination old p) t) t).Perm (l.map (newDenomination old) ++ t) := by
  induction l generalizing t with
  | nil => exact List.Perm.refl _
  | cons p l ih =>
    rw [List.foldl_cons]
    refine (ih _).trans ?_
    refine ((insertDenomination_perm (newDenomination old p) t).append_left _).trans ?_
    exact List.perm_middle

theorem newDenominations_perm (old : List Denomination) (l : List DenominationParams) :
    (newDenominations old l).Perm (l.map (newDenomination old)) := by
  have h := foldl_insert_perm old l []
  rwa [List.append_nil] at h

theorem foldl_insert_pairwise (old : List Denomination) {l : List DenominationParams} {t : List Denomination}
    (hl : (l.map DenominationParams.value).Nodup) (hd : ∀ p ∈ l, ∀ q ∈ t, q.value ≠ p.value)
    (ht : t.Pairwise (fun a b => b.value < a.value)) :
    (l.foldl (fun t p => insertDenomination (newDenomination old p) t) t).Pairwise (fun a b => b.value < a.value) := by
  induction l generalizing t with
  | nil => exact ht
  | cons p l ih =>
    obtain ⟨hp, hl⟩ := List.nodup_cons.1 hl
    rw [List.foldl_cons]
    refine ih hl (fun q hq x hx => ?_) (insertDenomination_pairwise (fun q hq => hd p List.mem_cons_self q hq) ht)
    obtain rfl | hx := List.mem_cons.1 ((insertDenomination_perm _ t).subset hx)
    · exact fun h => hp (List.mem_map.2 ⟨q, hq, h.symm⟩)
    · exact hd q (List.mem_cons_of_mem _ hq) x hx

theorem newDenominations_pairwise (old : List Denomination) {l : List DenominationParams}
    (hl : (l.map DenominationParams.value).Nodup) :
    (newDenominations old l).Pairwise (fun a b => b.value < a.value) :=
  foldl_insert_pairwise old hl (fun _ _ _ hq => absurd hq List.not_mem_nil) List.Pairwise.nil

/-- A denomination's parameters in their 6 bytes. -/
def denominationBytes (p : DenominationParams) : List Byte := bytesOf 3 p.value ++ [byte p.enabled] ++ bytesOf 2 p.lowMark

theorem takeDenomination_bytes {p : DenominationParams} (h : 1 ≤ p.value ∧ p.value ≤ 1000000 ∧ p.enabled ≤ 1 ∧ p.lowMark ≤ 9999)
    (rest : List Byte) : takeDenomination (denominationBytes p ++ rest) = some (p, rest) := by
  obtain ⟨-, hv, he, hl⟩ := h
  simp only [takeDenomination, denominationBytes, List.append_assoc, List.cons_append, List.nil_append,
    takeNat_bytesOf (w := 3) (show p.value < 256 ^ 3 by omega), takeNat_one (show p.enabled < 256 by omega),
    takeNat_bytesOf (w := 2) (show p.lowMark < 256 ^ 2 by omega), Option.bind_eq_bind, Option.bind_some, Option.pure_def]

theorem denominations_length (l : List DenominationParams) : (l.flatMap denominationBytes).length = 6 * l.length := by
  induction l with
  | nil => rfl
  | cons p l ih =>
    rw [List.flatMap_cons, List.length_append, ih]
    simp [denominationBytes]
    omega

/-! ### Lookups -/

/-- The parameters that name a ticket and a byte. -/
theorem readTicketAndByte_ok {n : TicketNo} (hh : n.home < 256) (hs : n.serial < 65536) (b : Byte) :
    readTicketAndByte (ticketBytes n ++ [b]) = some (n, b.toNat) := by
  simp [readTicketAndByte, takeTicket_ticketBytes hh hs]

theorem readTicketOnly_ok {n : TicketNo} (hh : n.home < 256) (hs : n.serial < 65536) :
    readTicketOnly (ticketBytes n) = some n := by
  have h := takeTicket_ticketBytes hh hs []
  rw [List.append_nil] at h
  simp [readTicketOnly, h]

theorem ticketOk_iff {n : TicketNo} : ticketOk n = true ↔ 1 ≤ n.home ∧ n.home ≤ 15 ∧ 1 ≤ n.serial ∧ n.serial ≤ 65535 := by
  simp [ticketOk, and_assoc]

/-! ### RELEASE FOREIGN (R136) -/

theorem taker_eq_some {r : Record} {h : Nat} : r.taker = some h ↔ ∃ p, r.custody = .taken h p := by
  cases hc : r.custody <;> simp [Record.taker, hc]

theorem taker_eq_none {r : Record} : r.taker = none ↔ ∀ h p, r.custody ≠ .taken h p := by
  cases hc : r.custody <;> simp [Record.taker, hc]

theorem foreignHolder_taken {n : TicketNo} {r : Record} {h : Nat} {s : State} (hf : s.findRecord n = some r)
    (ht : r.taker = some h) : s.foreignHolder n = some h := by
  obtain ⟨p, hc⟩ := taker_eq_some.1 ht
  simp [State.foreignHolder, hf, hc]

/-- Without a TAKEN record the register entry says who holds the ticket. -/
theorem foreignHolder_entry {n : TicketNo} {s : State} (h : ∀ r ∈ s.findRecord n, r.taker = none) :
    s.foreignHolder n = (s.regEntry n).bind (fun e => if e.holder ≠ 0 ∧ e.holder ≠ s.myId then some e.holder else none) := by
  cases hf : s.findRecord n with
  | none => cases he : s.regEntry n <;> simp [State.foreignHolder, hf, he]
  | some r =>
    have hc := taker_eq_none.1 (h r hf)
    cases he : s.regEntry n <;> cases hcu : r.custody <;> simp_all [State.foreignHolder]

theorem freeTaken_of_not_taken {n : TicketNo} {s : State} (h : ∀ r ∈ s.findRecord n, r.taker = none) : freeTaken n s = s := by
  cases hf : s.findRecord n with
  | none => simp [freeTaken, hf]
  | some r =>
    have hc := taker_eq_none.1 (h r hf)
    cases hcu : r.custody <;> simp_all [freeTaken]

/-- Custody moves between values that are not this station's own: the record stays in its place. -/
theorem setCustody_not_own {n : TicketNo} {r : Record} {s : State} (c : Custody) (hf : s.findRecord n = some r)
    (ho : r.custody.isOwn = false) : setCustody n c s = modifyRecord n (fun r => { r with custody := c }) s := by
  simp [setCustody, hf, ho]

theorem freeTaken_of_taken {n : TicketNo} {r : Record} {h : Nat} {s : State} (hf : s.findRecord n = some r)
    (ht : r.taker = some h) : freeTaken n s = modifyRecord n (fun r => { r with custody := .free }) s := by
  obtain ⟨p, hc⟩ := taker_eq_some.1 ht
  simp only [freeTaken, hf, hc]
  exact setCustody_not_own _ hf (by rw [hc]; rfl)

/-- The register of a store once the entry of a ticket has this holder. -/
def Tickets.withHolder (n : TicketNo) (h : Nat) (k : Tickets) : List RegEntry :=
  if n.home = k.owner ∧ k.owner ≠ 0
    then k.register.map (fun e => if e.serial = n.serial then { e with holder := h } else e) else k.register

theorem setHolder_eq (n : TicketNo) (h : Nat) (s : State) :
    setHolder n h s = s.onTickets (fun k => { k with register := k.withHolder n h }) := by
  by_cases hs : n.home = s.tickets.owner ∧ s.tickets.owner ≠ 0 <;>
    simp [setHolder, modifyEntry, State.speaksFor, State.onTickets, Tickets.withHolder, hs]

theorem speaksFor_of_regEntry {n : TicketNo} {e : RegEntry} {s : State} (h : s.regEntry n = some e) :
    n.home = s.tickets.owner ∧ s.tickets.owner ≠ 0 := by
  unfold State.regEntry at h
  split at h
  · rename_i hs
    simpa [State.speaksFor] using hs
  · cases h

theorem accepted_foreignHolder (l : Nat) (n : TicketNo) (s : State) : (s.accepted l).foreignHolder n = s.foreignHolder n := by
  obtain ⟨_, h⟩ := s.accepted_shape l
  rw [h]
  rfl

theorem releaseTicket_held {n : TicketNo} {h : Nat} {s : State} (hok : ticketOk n = true) (hh : s.foreignHolder n = some h) :
    releaseTicket n s = if s.present h then reply .notAllowed s else reply .ok (setHolder n 0 (freeTaken n s)) := by
  have hknown : ((s.findRecord n).isNone && (s.regEntry n).isNone) = false := by
    cases hf : s.findRecord n <;> cases he : s.regEntry n <;> simp_all [State.foreignHolder]
  simp only [releaseTicket, hok, hknown, hh, Bool.not_true, Bool.false_eq_true, if_false]

theorem releaseTicket_free {n : TicketNo} {s : State} (hok : ticketOk n = true) (hk : s.findRecord n ≠ none ∨ s.regEntry n ≠ none)
    (hh : s.foreignHolder n = none) : releaseTicket n s = reply .notAllowed s := by
  have hknown : ((s.findRecord n).isNone && (s.regEntry n).isNone) = false := by
    cases hf : s.findRecord n <;> cases he : s.regEntry n <;> simp_all
  simp only [releaseTicket, hok, hknown, hh, Bool.not_true, Bool.false_eq_true, if_false]

end Sys2Proof.Machine

/-! ### The obligations -/

open Sys2Proof Sys2Proof.Machine

/-- Settles O38: the parameters read back, and each command's ranges. -/
theorem refillAndCashLimits : Obligations.RefillAndCashLimits := by
  constructor
  · intro v m c d s ps ht hp hr hoff hv hm hclo hchi hd
    have hread : readRefill ps = some { value := v, change := c, lowMark := if m = 0 then none else some m } := by
      have h2 := takeNat_bytesOf (w := 2) (show m < 256 ^ 2 by omega) []
      rw [List.append_nil] at h2
      have hi (rest : List Byte) : takeInt 2 (signedBytes 2 c ++ rest) = some (c, rest) := by
        rw [takeInt_bytes (signedBytes_length 2 c), intOf_signedBytes 2 (by omega) (by omega)]
      simp [ps, readRefill, takeNat_bytesOf (w := 3) (show v < 256 ^ 3 by omega), hi, h2]
    have hmark : ¬ (9999 < c.natAbs ∨ 9999 < (if m = 0 then none else some m : Option Nat).getD 0) := by
      split <;> simp <;> omega
    have hlen : ps.length = 7 := by simp [ps]
    have hanswer {t : State} {bs : List Byte} (hb : refill ⟨v, c, if m = 0 then none else some m⟩ (s.accepted 7) = (t, bs)) :
        exec (.refill ps) s = .next (t.answered bs) := by
      refine command_answers (by rwa [hlen]) (by decide : 34 ∈ commandCodes) (payAlways_gated_refusal hp hr (by simp [hlen])) ?_
      rw [hread, hlen]
      simpa [hoff, withParams] using hb
    have hfind : findDenomination v (s.accepted 7).drawer.denominations = some d := by
      rw [State.accepted_drawer]
      exact hd
    refine ⟨fun hbad => hanswer ?_, fun hlo hhi => ?_⟩
    · simp only [refill, hfind, if_neg hmark, if_pos hbad]
      rfl
    · intro n
      refine hanswer ?_
      have hin : ¬ ((d.count : Int) + c < 0 ∨ 9999 < (d.count : Int) + c) := by omega
      have hgetD (k : Nat) : (if m = 0 then none else some m : Option Nat).getD k = if m = 0 then k else m := by
        split <;> rfl
      simp only [refill, hfind, if_neg hmark, if_neg hin]
      simp only [okWith, setDenomination, State.onDrawer, State.accepted_drawer, hgetD]
      rfl
  · intro limit warn s ht hp hl hw ps
    have hread : readTwo 4 4 ps = some (limit, warn) := by
      have h2 := takeNat_bytesOf (w := 4) (show warn < 256 ^ 4 from hw) []
      rw [List.append_nil] at h2
      simp [ps, readTwo, takeNat_bytesOf (w := 4) (show limit < 256 ^ 4 from hl), h2]
    have hlen : ps.length = 8 := by simp [ps]
    have hanswer {t : State} {bs : List Byte} (hb : setCashLimits (limit, warn) (s.accepted 8) = (t, bs)) :
        exec (.setCashLimits ps) s = .next (t.answered bs) := by
      refine command_answers (by rwa [hlen]) (by decide : 36 ∈ commandCodes) (payAlways_refusal hp (by simp [hlen])) ?_
      rw [hread, hlen]
      exact hb
    refine ⟨fun hbad => hanswer ?_, fun h1 h2 => hanswer ?_⟩
    · rw [setCashLimits, if_pos hbad]
      rfl
    · rw [setCashLimits, if_neg (by dsimp only; omega)]
      simp [reply, State.onDrawer, Result.code, byte]

/-- Settles O39: the list's checks, and the table that insertion by value builds. -/
theorem setDenominationsReplacesTheTable : Obligations.SetDenominationsReplacesTheTable := by
  intro l s ps ht hp ho hr hoff hrange
  have hps : ps = byte l.length :: l.flatMap denominationBytes := rfl
  have hlen : ps.length = 6 * l.length + 1 := by rw [hps, List.length_cons, denominations_length]
  have h48 : ps.length ≤ 48 := ht.2.1
  have hread : readDenominations ps = some l := by
    have h := takeList_flatMap (show l.length < 256 by omega) (fun p hm => takeDenomination_bytes (hrange p hm)) []
    rw [List.append_nil] at h
    rw [readDenominations, hps, h]
    rfl
  have hanswer {t : State} {bs : List Byte} (hb : setDenominations l (s.accepted ps.length) = (t, bs)) :
      exec (.setDenominations ps) s = .next (t.answered bs) := by
    refine command_answers ht (by decide : 35 ∈ commandCodes) (payClosed_gated_refusal hp ho hr ?_) ?_
    · simp only [hlen, List.mem_cons, List.not_mem_nil, or_false]
      omega
    · simpa [hread, hoff, withParams] using hb
  have hok : denominationsOk l = decide (l.map DenominationParams.value).Nodup := by
    have hall : l.all (fun p => decide (1 ≤ p.value) && decide (p.value ≤ 1000000) && (boolOf p.enabled).isSome &&
        decide (p.lowMark ≤ 9999)) = true := by
      rw [List.all_eq_true]
      intro p hm
      obtain ⟨h1, h2, h3, h4⟩ := hrange p hm
      have hb : (boolOf p.enabled).isSome = true := by
        obtain h | h : p.enabled = 0 ∨ p.enabled = 1 := by omega
        all_goals rw [h]; rfl
      simp [h1, h2, h4, hb]
    have hcap : decide (l.length ≤ Config.drawerCapacity) = true := decide_eq_true (by simp only [Config.drawerCapacity]; omega)
    rw [denominationsOk, hall, hcap, Bool.true_and, Bool.true_and]
  have hkept : s.drawer.denominations.any (fun d => decide (0 < d.count) && !(l.any (fun p => decide (p.value = d.value)))) = true ↔
      ∃ d ∈ s.drawer.denominations, 0 < d.count ∧ ∀ p ∈ l, p.value ≠ d.value := by simp
  refine ⟨fun hnd => hanswer ?_, fun hnd hleft => hanswer ?_, fun hnd hin => ?_⟩
  · simp [setDenominations, hok, hnd, reply, Result.code, byte]
  · rw [setDenominations, hok, decide_eq_true hnd, State.accepted_drawer, if_neg (by simp), if_pos (hkept.2 hleft)]
    rfl
  · refine ⟨(s.accepted ps.length).onDrawer (fun d => { d with denominations := newDenominations d.denominations l }),
      hanswer ?_, ?_, ?_, ?_, fun p hm => ?_⟩
    · have hall : ¬ s.drawer.denominations.any (fun d => decide (0 < d.count) && !(l.any (fun p => decide (p.value = d.value)))) =
          true := by
        rw [hkept]
        rintro ⟨d, hd, hc, hno⟩
        obtain ⟨p, hm, hv⟩ := hin d hd hc
        exact hno p hm hv
      rw [setDenominations, hok, decide_eq_true hnd, State.accepted_drawer, if_neg (by simp), if_neg hall]
      rfl
    · simp [State.onDrawer]
    · simpa using (newDenominations_perm s.drawer.denominations l).length_eq
    · simpa using newDenominations_pairwise s.drawer.denominations hnd
    · have hmem := (newDenominations_perm s.drawer.denominations l).symm.subset (List.mem_map.2 ⟨p, hm, rfl⟩)
      rw [newDenomination, findDenomination_count] at hmem
      simp only [State.onDrawer_drawer, State.accepted_drawer]
      exact hmem

/-- Settles O41: the collections in their order, then the grade table's parts. -/
theorem lookupsAnswerFromTheStore : Obligations.LookupsAnswerFromTheStore := by
  intro n s h1 h15 hs1 hs ht
  have hok : ticketOk n = true := ticketOk_iff.2 ⟨h1, h15, hs1, hs⟩
  have hanswer {k : Byte} {bs : List Byte} (hb : readTicket (n, k.toNat) (s.accepted 4) = (s.accepted 4, bs)) :
      exec (.readTicket (ticketBytes n ++ [k])) s = .next ((s.accepted 4).answered bs) := by
    refine command_answers (ps := ticketBytes n ++ [k]) (by simpa using ht) (by decide : 50 ∈ commandCodes)
      (always_refusal (by simp)) ?_
    rw [readTicketAndByte_ok (by omega) (by omega)]
    simpa [withParams] using hb
  have hlow {k : Byte} (hk : k.toNat ≤ 9) : (!ticketOk n || decide (9 < k.toNat)) = false := by simp [hok, hk]
  refine ⟨fun r hf => ⟨hanswer ?_, hanswer ?_, fun k hk1 hk8 => hanswer ?_⟩, fun e k hf hc hk => hanswer ?_,
    fun e hf hc he => ⟨hanswer ?_, fun k hk1 hk9 => hanswer ?_⟩, fun hf hc he k hk => hanswer ?_, fun k hk => hanswer ?_,
    fun m hm1 hm32 ht2 => ?_⟩
  · simp [readTicket, hok, hf, Record.part, okWith, Result.code, byte]
  · simp [readTicket, hok, hf, Record.part, okWith, Result.code, byte, optTextBytes]
  · have hval : (byte k).toNat = k := by rw [byte_toNat, Nat.mod_eq_of_lt (by omega)]
    have hpart : r.part k = (r.lines[k - 1]?).map Line.bytes := by
      rw [Record.part, if_neg (by omega), if_neg (by omega)]
    have hno : ¬ (!ticketOk n || decide (9 < k)) = true := by
      simp only [hok, Bool.not_true, Bool.false_or, decide_eq_true_eq]
      omega
    simp only [hval, readTicket, if_neg hno, State.accepted_findRecord, hf, hpart]
    cases r.lines[k - 1]? <;> rfl
  · simp [readTicket, hlow hk, hf, hc, Result.code, byte]
  · simp [readTicket, hok, hf, hc, he, okWith, Result.code, byte, RegEntry.bytes]
  · have hne : ¬ k.toNat = 0 := by omega
    simp only [readTicket, hlow hk9, State.accepted_findRecord, State.accepted_closedEntry, State.accepted_regEntry, hf, hc, he,
      if_neg hne]
    rfl
  · simp [readTicket, hlow hk, hf, hc, he, reply, Result.code, byte]
  · simp [readTicket, hok, hk, reply, Result.code, byte]
  · have hgrade {k : Byte} {bs : List Byte} (hb : readGrade (m, k.toNat) (s.accepted 2) = (s.accepted 2, bs)) :
        exec (.readGrade [byte m, k]) s = .next ((s.accepted 2).answered bs) := by
      refine command_answers (ps := [byte m, k]) ht2 (by decide : 42 ∈ commandCodes) (always_refusal (by simp)) ?_
      have hread : readTwo 1 1 [byte m, k] = some (m, k.toNat) := by
        simp [readTwo, Nat.mod_eq_of_lt (show m < 256 by omega)]
      rw [hread]
      exact hb
    have hhead : ¬ (m = 0 ∨ 32 < m ∨ 3 < (0 : Byte).toNat) := by
      simp
      omega
    refine ⟨fun hg => hgrade ?_, fun g hg => ⟨hgrade ?_, fun k hk1 hk3 => hgrade ?_⟩⟩
    · rw [readGrade, if_neg hhead]
      simp [gradeHead, hg, okWith, Result.code, byte]
    · rw [readGrade, if_neg hhead]
      simp [gradeHead, hg, okWith, Result.code, byte]
    · have hval : (byte k).toNat = k := by rw [byte_toNat, Nat.mod_eq_of_lt (by omega)]
      rw [hval, readGrade, if_neg (by dsimp only; omega), if_neg (by dsimp only; omega)]
      simp only [State.accepted_grade, hg, Option.bind_some]
      cases g.versions[k - 1]? with
      | none => rfl
      | some v => simp [okWith, Version.bytes, Result.code, byte]

/-- Settles O42: the search's first hit is the oldest record with the tag. -/
theorem findByTagFindsTheOldest : Obligations.FindByTagFindsTheOldest := by
  intro tag s ht hlen hchars
  have htext : readTextOnly (textBytes tag) = some tag := by
    have h := takeText_textBytes (t := tag) (by omega) (fun c hc => by have := hchars c hc; omega) []
    rw [List.append_nil] at h
    simp [readTextOnly, h]
  have hl : (textBytes tag).length = tag.length + 1 := by simp [textBytes]
  have hanswer {bs : List Byte}
      (hb : findByTag tag (s.accepted (tag.length + 1)) = (s.accepted (tag.length + 1), bs)) :
      exec (.findByTag (textBytes tag)) s = .next ((s.accepted (tag.length + 1)).answered bs) := by
    refine command_answers (by rwa [hl]) (by decide : 51 ∈ commandCodes) (always_refusal (mem_upTo.2 (by omega))) ?_
    rw [htext, hl]
    exact hb
  refine ⟨fun hne hok => ?_, fun hbad => hanswer ?_⟩
  · have htag : textOk 1 12 tag = true := textOk_iff.2 ⟨List.length_pos_iff.2 hne, hlen, hok⟩
    refine ⟨fun before r after htable hr hbefore => hanswer ?_, fun hno => hanswer ?_⟩
    · have hfind : s.tickets.table.find? (fun r => decide (r.tag = some tag)) = some r := by
        rw [htable, List.find?_append, List.find?_eq_none.2 fun q hq => by simpa using hbefore q hq]
        simp [hr]
      rw [findByTag, if_pos htag, State.accepted_tickets, hfind]
      rfl
    · have hfind : s.tickets.table.find? (fun r => decide (r.tag = some tag)) = none :=
        List.find?_eq_none.2 fun q hq => by simpa using hno q hq
      rw [findByTag, if_pos htag, State.accepted_tickets, hfind]
      rfl
  · have htag : ¬ textOk 1 12 tag = true := by
      rw [textOk_iff]
      rintro ⟨h1, -, hall⟩
      rcases hbad with rfl | ⟨c, hc, hout⟩
      · simp at h1
      · have := hall c hc
        omega
    rw [findByTag, if_neg htag]
    rfl

/-- Settles O43: the walk from the cursor, and the two forms of RELEASE FOREIGN. -/
theorem listTicketsAndReleaseForeign : Obligations.ListTicketsAndReleaseForeign := by
  refine ⟨?_, fun x s ht hr => ?_, ?_⟩
  · intro s rest ht more t a
    have hwalk {b : Bool} (h : afterCursor (if b = true then none else s.tickets.cursor) s.tickets.table = rest) :
        listTickets b (s.accepted 1) = (t 1, a) := by
      simp only [listTickets, State.accepted_tickets, h, okWith, t, a, more, State.onTickets, Config.listStep]
      split <;> rfl
    have hanswer {b : Bool} {k : Byte} (hk : boolOf k.toNat = some b)
        (h : afterCursor (if b = true then none else s.tickets.cursor) s.tickets.table = rest) :
        exec (.listTickets [k]) s = .next ((t 1).answered a) := by
      refine command_answers (ps := [k]) ht (by decide : 52 ∈ commandCodes) (always_refusal (by simp)) ?_
      rw [readOne_byte, Option.bind_some, hk]
      exact hwalk h
    refine ⟨fun h => hanswer (b := true) rfl h, fun h hc => hanswer (b := false) rfl (by rw [hc]; exact h),
      fun before r h hc hbefore => hanswer (b := false) rfl ?_⟩
    rw [hc, h]
    simp only [afterCursor, Bool.false_eq_true, if_false]
    rw [List.dropWhile_append_of_pos fun q hq => by simpa using hbefore q hq]
    simp
  · have hanswer {t : State} {bs : List Byte} (hb : releaseStation x.toNat (s.accepted 1) = (t, bs)) :
        exec (.releaseForeign [x]) s = .next (t.answered bs) := by
      refine command_answers (ps := [x]) ht (by decide : 53 ∈ commandCodes) (gated_refusal hr (by simp)) ?_
      have hno : readTicketOnly [x] = none := by simp [readTicketOnly, takeTicket, takeNat, whole]
      rw [releaseForeign, hno, readOne_byte]
      exact hb
    have hzero (h : x ≠ 0) : x.toNat ≠ 0 := fun h' => h (BitVec.eq_of_toNat_eq h')
    refine ⟨fun h => hanswer ?_, fun h0 h15 hid hp => hanswer ?_, fun h0 h15 hid hp => hanswer ?_⟩
    · have hbad : x.toNat = 0 ∨ 15 < x.toNat ∨ x.toNat = (s.accepted 1).myId := by
        rw [State.accepted_myId]
        exact h.imp (fun h => by rw [h]; rfl) id
      rw [releaseStation, if_pos hbad]
      rfl
    · have hin : ¬ (x.toNat = 0 ∨ 15 < x.toNat ∨ x.toNat = (s.accepted 1).myId) := by
        rw [State.accepted_myId]
        have := hzero h0
        omega
      rw [releaseStation, if_neg hin, State.accepted_present, if_pos hp]
      rfl
    · have hin : ¬ (x.toNat = 0 ∨ 15 < x.toNat ∨ x.toNat = (s.accepted 1).myId) := by
        rw [State.accepted_myId]
        have := hzero h0
        omega
      rw [releaseStation, if_neg hin, State.accepted_present, hp, if_neg Bool.false_ne_true]
      simp only [okWith, State.heldBy, freeHolds, State.onTickets, State.accepted_tickets]
      rfl
  · intro n s ht hr hhome hserial c refused freed others
    have hanswer {t : State} {bs : List Byte} (hb : releaseTicket n (s.accepted 3) = (t, bs)) :
        exec c s = .next (t.answered bs) := by
      refine command_answers (ps := ticketBytes n) (by simpa using ht) (by decide : 53 ∈ commandCodes)
        (gated_refusal hr (by simp)) ?_
      rw [releaseForeign, readTicketOnly_ok (by omega) (by omega)]
      simpa using hb
    refine ⟨fun h => hanswer ?_, fun h1 h15 hs1 => ?_⟩
    · have hbad : ticketOk n = false := by
        rw [← Bool.not_eq_true, ticketOk_iff]
        omega
      simp [releaseTicket, hbad, reply, Result.code, byte]
    · have hok : ticketOk n = true := ticketOk_iff.2 ⟨h1, h15, hs1, hserial⟩
      refine ⟨fun hf he => hanswer ?_, fun r h hf htk => ⟨fun hp => hanswer ?_, fun hp => hanswer ?_⟩,
        fun r hf htk hno => hanswer ?_, fun e he hno => ⟨fun hf ho => hanswer ?_, fun ho hp => hanswer ?_, fun ho hp => hanswer ?_⟩⟩
      · simp [releaseTicket, hok, hf, he, reply, Result.code, byte]
      · have hh := foreignHolder_taken hf htk
        rw [releaseTicket_held hok ((accepted_foreignHolder 3 n s).trans hh), State.accepted_present, if_pos hp]
        rfl
      · have hh := foreignHolder_taken hf htk
        rw [releaseTicket_held hok ((accepted_foreignHolder 3 n s).trans hh), State.accepted_present, hp,
          if_neg Bool.false_ne_true, freeTaken_of_taken (by simpa using hf) htk, setHolder_eq]
        simp only [modifyRecord, State.onTickets, State.accepted_tickets]
        rfl
      · have hh : s.foreignHolder n = none := by
          rw [foreignHolder_entry (fun q hq => by rw [hf] at hq; cases hq; exact htk)]
          cases he : s.regEntry n with
          | none => rfl
          | some e => exact if_neg (hno e he)
        rw [releaseTicket_free hok (.inl (by simp [hf])) ((accepted_foreignHolder 3 n s).trans hh)]
        rfl
      · have hh : s.foreignHolder n = none := by
          rw [foreignHolder_entry hno, he]
          exact if_neg ho
        rw [releaseTicket_free hok (.inr (by simp [he])) ((accepted_foreignHolder 3 n s).trans hh)]
        rfl
      · have hh : s.foreignHolder n = some e.holder := by
          rw [foreignHolder_entry hno, he]
          exact if_pos ho
        rw [releaseTicket_held hok ((accepted_foreignHolder 3 n s).trans hh), State.accepted_present, if_pos hp]
        rfl
      · have hh : s.foreignHolder n = some e.holder := by
          rw [foreignHolder_entry hno, he]
          exact if_pos ho
        rw [releaseTicket_held hok ((accepted_foreignHolder 3 n s).trans hh), State.accepted_present, hp,
          if_neg Bool.false_ne_true, freeTaken_of_not_taken (by simpa using hno), setHolder_eq]
        simp only [State.onTickets, Tickets.withHolder, State.accepted_tickets, if_pos (speaksFor_of_regEntry he)]
        rfl

end

section
/-! The readings, the commands of the receipt unit, and the printer's lines. -/

namespace Sys2Proof.Machine

/-! ### Readings -/

@[simp] theorem State.accepted_heldFrames (l : Nat) (s : State) : (s.accepted l).heldFrames = s.heldFrames := by
  obtain ⟨_, h⟩ := s.accepted_shape l; rw [h]; rfl

@[simp] theorem State.accepted_closingPlaces (l : Nat) (s : State) : (s.accepted l).closingPlaces = s.closingPlaces := by
  obtain ⟨_, h⟩ := s.accepted_shape l; rw [h]; rfl

@[simp] theorem byte_one : byte 1 = 1 := rfl

theorem faultScope_code (x : FaultScope) : byte x.code = if x = .station then 1 else 2 := by cases x <;> rfl
theorem lockMode_code (x : LockMode) : byte x.code = if x = .line then 1 else 2 := by cases x <;> rfl
theorem dayStateCode_byte (b : Bool) : byte (dayStateCode b) = if b = true then 2 else 1 := by cases b <;> rfl

theorem byte_yes_no {b : Byte} (h : b.toNat ≤ 1) : b = 0 ∨ b = 1 := by
  have hcase : b.toNat = 0 ∨ b.toNat = 1 := by omega
  exact hcase.imp (BitVec.eq_of_toNat_eq ·) (BitVec.eq_of_toNat_eq ·)

theorem boolOf_none {n : Nat} (h : 2 ≤ n) : boolOf n = none := by
  match n with
  | 0 | 1 => omega
  | n + 2 => rfl

/-! ### Making jobs (R163) -/

theorem printRoom_iff {s : State} : s.printRoom = true ↔ s.printer.jobs.length < 8 := by
  simp only [State.printRoom, decide_eq_true_eq]
  rfl

theorem printRoom_false {s : State} (h : 8 ≤ s.printer.jobs.length) : s.printRoom = false := by
  rw [← Bool.not_eq_true, printRoom_iff]
  omega

/-! ### REPRINT (R179) -/

theorem copiesMade_eq (n : TicketNo) (k : ReceiptKind) (l : List Reprint) : copiesMade n k l =
    ((l.find? (fun e => decide (e.ticket = n ∧ e.kind = k))).map Reprint.copies).getD 0 := by
  rw [copiesMade]
  cases l.find? (fun e => decide (e.ticket = n ∧ e.kind = k)) <;> rfl

/-- The oldest entry leaves where the list is full and the copy's entry is new. -/
theorem withCopy_eq (n : TicketNo) (k : ReceiptKind) (l : List Reprint) : withCopy n k l =
    (l.filter (fun e => !decide (e.ticket = n ∧ e.kind = k))).drop
        (if l.find? (fun e => decide (e.ticket = n ∧ e.kind = k)) = none ∧ 8 ≤ l.length then 1 else 0)
      ++ [{ ticket := n, kind := k, copies := min 255 (copiesMade n k l + 1) }] := by
  have hiff : (l.filter (fun e => !decide (e.ticket = n ∧ e.kind = k))).length = l.length ↔
      l.find? (fun e => decide (e.ticket = n ∧ e.kind = k)) = none := by
    rw [List.length_filter_eq_length_iff, List.find?_eq_none]
    simp only [Bool.not_eq_true', decide_eq_false_iff_not, decide_eq_true_eq]
  simp only [withCopy, hiff, Config.reprintCapacity]
  split <;> simp

theorem accepted_copyLines (l : Nat) (n : TicketNo) (k : ReceiptKind) (copy : Nat) (s : State) :
    copyLines n k copy (s.accepted l) = copyLines n k copy s := by
  obtain ⟨_, h⟩ := s.accepted_shape l
  rw [h]
  rfl

/-- REPRINT refused by the rules on the kind. -/
theorem reprint_refused {n : TicketNo} {c : Nat} {k : ReceiptKind} {r : Result} {s : State} (hok : ticketOk n = true)
    (hk : copyKindOf c = some k) (h : ∀ copy, copyLines n k copy s = .error r) : reprint (n, c) s = reply r s := by
  simp only [reprint, hok, hk, h]

/-- REPRINT makes the copy, the print queue having room, and puts its entry at the newest place. -/
theorem reprint_made {n : TicketNo} {c : Nat} {k : ReceiptKind} {lines : List Text} {s : State} (hok : ticketOk n = true)
    (hk : copyKindOf c = some k)
    (h : copyLines n k (min 255 (copiesMade n k s.printer.reprints + 1)) s = .ok lines) :
    reprint (n, c) s =
      if s.printRoom then
        okWith [byte s.printer.nextNumber, byte (min 255 (copiesMade n k s.printer.reprints + 1))]
          ((makeJob k (some n) (min 255 (copiesMade n k s.printer.reprints + 1)) .queued lines s).onPrinter
            (fun q => { q with reprints := withCopy n k q.reprints }))
      else reply .printQueueFull s := by
  simp only [reprint, hok, hk, h]

/-! ### The printer's lines (R174 to R178) -/

theorem Printer.leave_printing {p : Printer} (h : p.port = .printing) (idle : PrinterState) :
    p.leave idle = { p with port := idle, stream := [], leadLine := false } := by
  simp [Printer.leave, h]

theorem Printer.leave_loanPending {p : Printer} (h : p.port = .loanPending) (idle : PrinterState) :
    p.leave idle = { p with port := .loaned, stream := [], leadLine := false, dataLines := none } := by
  simp [Printer.leave, h]

/-- The port leaves PRINTING, or LOAN PENDING. -/
theorem Printer.leave_eq {p : Printer} (h : p.port = .printing ∨ p.port = .loanPending) (idle : PrinterState) :
    p.leave idle = { p with
      stream := [], leadLine := false
      port := if p.port = .printing then idle else .loaned
      dataLines := if p.port = .printing then p.dataLines else none } := by
  rcases h with h | h
  · rw [Printer.leave_printing h]
    simp [h]
  · rw [Printer.leave_loanPending h]
    simp [h]

theorem suspendJob_off_port {b : Bool} {s : State} (h : ¬ (s.printer.port = .printing ∨ s.printer.port = .loanPending)) :
    suspendJob b s = s := by
  simp only [suspendJob, State.onPrinter, if_neg h]

theorem suspendJob_cut {b : Bool} {s : State} (h : s.printer.port = .printing ∨ s.printer.port = .loanPending)
    (hn : s.printer.printingJob = none) : suspendJob b s = s.onPrinter (Printer.leave .ready) := by
  simp only [suspendJob, State.onPrinter, if_pos h, hn]

theorem suspendJob_printing {b : Bool} {j : Job} {s : State} (h : s.printer.port = .printing ∨ s.printer.port = .loanPending)
    (hj : s.printer.printingJob = some j) : suspendJob b s = s.onPrinter (fun p => Printer.leave .stopped
      { p with jobs := p.jobs.map (fun x => if x.number = j.number then { x with state := .suspended, awaitsBusy := b } else x) }) := by
  simp only [suspendJob, State.onPrinter, if_pos h, hj]

theorem paperOut_off_port {s : State} (h : ¬ (s.printer.port = .printing ∨ s.printer.port = .loanPending)) : paperOut s = s := by
  cases hj : s.printer.printingJob with
  | none => simp only [paperOut, hj, suspendJob_off_port h]
  | some j => simp only [paperOut, hj, if_neg h, suspendJob_off_port h]

theorem paperOut_cut {s : State} (h : s.printer.port = .printing ∨ s.printer.port = .loanPending)
    (hn : s.printer.printingJob = none) : paperOut s = s.onPrinter (Printer.leave .ready) := by
  simp only [paperOut, hn, suspendJob_cut h hn]

theorem paperOut_printing {j : Job} {s : State} (h : s.printer.port = .printing ∨ s.printer.port = .loanPending)
    (hj : s.printer.printingJob = some j) : paperOut s =
      postNotice (.printed j.number j.kind j.ticket .paperOut) (s.onPrinter (fun p => Printer.leave .stopped
        { p with jobs := p.jobs.map (fun x =>
            if x.number = j.number then { x with state := .suspended, awaitsBusy := false } else x) })) := by
  simp only [paperOut, hj, if_pos h, suspendJob_printing h hj]

theorem countLine_plain {p : Printer} (h : p.leadLine = false) : countLine p =
    { p with jobs := p.jobs.map (fun j => if j.state = .printing then { j with sent := j.sent + 1 } else j) } := by
  rw [countLine, if_neg (by rw [h]; exact Bool.false_ne_true)]

/-- The next code is handed with one strobe; the codes of line end and end of receipt do more. -/
theorem handCode_eq {c : Nat} {rest : List Nat} {s : State}
    (hp : s.printer.port = .printing ∨ s.printer.port = .loanPending) (hb : s.printer.busy = false)
    (hs : s.printer.stream = c :: rest) : handCode s =
      if c = 12 then finishReceipt (s.onPrinter (fun p => { p with stream := rest, dataLines := some c, strobes := p.strobes + 1 }))
      else if c = 10 then (s.onPrinter (fun p =>
        { p with stream := rest, dataLines := some c, strobes := p.strobes + 1 })).onPrinter countLine
      else s.onPrinter (fun p => { p with stream := rest, dataLines := some c, strobes := p.strobes + 1 }) := by
  rcases hp with hp | hp <;> simp only [handCode, hp, hb, hs]

theorem handCode_idle {s : State}
    (h : s.printer.busy = true ∨ ¬ (s.printer.port = .printing ∨ s.printer.port = .loanPending)) : handCode s = s := by
  unfold handCode
  split <;> simp_all

/-- PRINTER FAULT is judged with its condition holding, the flag clear and room for its notice. -/
theorem judge_printerFault {s : State} (hl : s.latched .printerFault = false) (hn : s.notices.queue.length < 16)
    (hc : s.printer.fault = true ∨ s.printer.stalled = true) : judge .printerFault s =
      { s with
        flags := { s.flags with printerFault :=
          { latched := true, count := 0, detail := .printer (if s.printer.fault = true then .fault else .stall) } }
        notices := { s.notices with
          queue := s.notices.queue ++ [(s.notices.seq,
            .flag .printerFault (.printer (if s.printer.fault = true then .fault else .stall)))]
          seq := (s.notices.seq + 1) % 256 } } := by
  have hcond : condition .printerFault s = true := by simpa [condition] using hc
  have hd : conditionDetail .printerFault s = .printer (if s.printer.fault = true then .fault else .stall) := by
    simp only [conditionDetail]
    split <;> rfl
  rw [judge_holds hcond, latchCondition_clear hl, flagPosted_eq hn, hd]
  rfl

end Sys2Proof.Machine

/-! ### The obligations -/

open Sys2Proof Sys2Proof.Machine

/-- Settles O40: each reading's values, the state unchanged. -/
theorem readingsChangeNothing : Obligations.ReadingsChangeNothing := by
  intro s
  refine ⟨fun ht => ⟨?_, ?_, ?_⟩, fun ht b hb => ?_, fun ht => ⟨?_, fun b => ⟨fun h1 h4 => ?_, fun h5 => ?_, fun h2 => ?_⟩⟩,
    fun ht hp => ⟨?_, fun ho => ?_, fun o f ho hf => ?_⟩, fun ht hw => ⟨fun hl => ?_, fun l hl => ?_⟩⟩
  · refine command_answers (ps := []) ht (by decide : 7 ∈ commandCodes) (always_refusal (by simp)) ?_
    simp [readFlags, okWith, flagRecordBytes, faultScope_code, State.latched, State.flag, Result.code]
  · refine command_answers (ps := []) ht (by decide : 13 ∈ commandCodes) (always_refusal (by simp)) ?_
    simp [readConfig, okWith, Settings.bytes, faultScope_code, lockMode_code, dayStateCode_byte, Result.code]
  · refine command_answers (ps := []) ht (by decide : 61 ∈ commandCodes) (always_refusal (by simp)) ?_
    simp [readRoster, okWith, Result.code]
  · refine command_answers (ps := [b]) ht (by decide : 60 ∈ commandCodes) (always_refusal (by simp)) ?_
    obtain rfl | rfl := byte_yes_no hb
    · simp [withParams, boolOf, readLink, okWith, Result.code]
      obtain ⟨_, h⟩ := s.accepted_shape 1
      rw [h]
    · simp [withParams, boolOf, readLink, okWith, State.onLink, Result.code]
  · refine command_answers (ps := [0]) ht (by decide : 77 ∈ commandCodes) (always_refusal (by simp)) ?_
    simp [withParams, readPrinter, okWith, Result.code]
  · refine command_answers (ps := [b]) ht (by decide : 77 ∈ commandCodes) (always_refusal (by simp)) ?_
    rw [readOne_byte, withParams, readPrinter, if_neg (by omega), if_neg (by simp only [Config.headerCapacity]; omega),
      State.accepted_printer]
    dsimp only
    cases s.printer.header[b.toNat - 1]? <;> rfl
  · refine command_answers (ps := [b]) ht (by decide : 77 ∈ commandCodes) (always_refusal (by simp)) ?_
    rw [readOne_byte, withParams, readPrinter, if_neg (by omega), if_pos (by simp only [Config.headerCapacity]; omega)]
    rfl
  · refine command_answers (ps := [b]) ht (by decide : 60 ∈ commandCodes) (always_refusal (by simp)) ?_
    rw [readOne_byte, Option.bind_some, boolOf_none h2]
    rfl
  · refine command_answers (ps := []) ht (by decide : 37 ∈ commandCodes) (payAlways_refusal hp (by simp)) ?_
    simp [readDrawer, okWith, Result.code]
  · refine command_answers (ps := []) ht (by decide : 33 ∈ commandCodes) (payAlways_refusal hp (by simp)) ?_
    rw [readOffer, State.accepted_payOp]
    cases hop : s.payOp with
    | none => rfl
    | some o =>
      have hoff : o.offer = none := by simpa [State.offered, hop] using ho
      simp only [hoff]
      rfl
  · refine command_answers (ps := []) ht (by decide : 33 ∈ commandCodes) (payAlways_refusal hp (by simp)) ?_
    simp only [readOffer, State.accepted_payOp, ho, hf]
    simp [okWith, Result.code]
  · refine command_answers (ps := []) ht (by decide : 25 ∈ commandCodes) (weighAlways_refusal hw (by simp)) ?_
    simp only [readWeight, State.accepted_scale, hl]
    rfl
  · refine command_answers (ps := []) ht (by decide : 25 ∈ commandCodes) (weighAlways_refusal hw (by simp)) ?_
    simp only [readWeight, State.accepted_scale, hl]
    cases hst : l.status <;> simp [okWith, Result.code, sampleCode, isOverloaded, byte]

/-- Settles O54: the port's moves by its state, and the header's lines staged and set. -/
theorem loanReclaimAndHeader : Obligations.LoanReclaimAndHeader := by
  intro s
  have hloan {t : State} {bs : List Byte} (ht : s.takes 0) (hb : printerLoan (s.accepted 0) = (t, bs)) :
      exec (.printerLoan []) s = .next (t.answered bs) :=
    command_answers (ps := []) ht (by decide : 73 ∈ commandCodes) (always_refusal (by simp)) hb
  have hreclaim {t : State} {bs : List Byte} (ht : s.takes 0) (hb : reclaim (s.accepted 0) = (t, bs)) :
      exec (.reclaim []) s = .next (t.answered bs) :=
    command_answers (ps := []) ht (by decide : 74 ∈ commandCodes) (always_refusal (by simp)) hb
  have htextRead {text : Text} (hl : text.length ≤ 40) (hc : ∀ c ∈ text, 32 ≤ c ∧ c ≤ 126) :
      takeText (textBytes text) = some (text, []) ∧ textOk 0 40 text = true := by
    have h := takeText_textBytes (t := text) (by omega) (fun c hm => by have := hc c hm; omega) []
    rw [List.append_nil] at h
    exact ⟨h, textOk_iff.2 ⟨by omega, hl, hc⟩⟩
  have hbegin {n : Nat} {text : Text} {t : State} {bs : List Byte} (ht : s.takes (text.length + 2)) (ho : s.day.isOpen = false)
      (hl : text.length ≤ 40) (hc : ∀ c ∈ text, 32 ≤ c ∧ c ≤ 126) (hn : n < 256)
      (hb : headerBegin (n, text) (s.accepted (text.length + 2)) = (t, bs)) :
      exec (.headerBegin ([byte n] ++ textBytes text)) s = .next (t.answered bs) := by
    have hlen : ([byte n] ++ textBytes text).length = text.length + 2 := by simp [textBytes]
    have hread : readHeaderBegin ([byte n] ++ textBytes text) = some (n, text) := by
      have hfirst : takeNat 1 ([byte n] ++ textBytes text) = some (n, textBytes text) := takeNat_one hn _
      unfold readHeaderBegin
      rw [hfirst]
      split
      · rename_i heq
        cases heq
      · rename_i heq
        cases heq
        rw [(htextRead hl hc).1]
        rfl
      · rename_i heq
        cases heq
    refine command_answers (by rwa [hlen]) (by decide : 75 ∈ commandCodes) (whileClosed_refusal ho (mem_upTo.2 (by omega))) ?_
    rw [hread, hlen]
    exact hb
  have hcontinue {text : Text} {t : State} {bs : List Byte} (ht : s.takes (text.length + 1)) (hl : text.length ≤ 40)
      (hc : ∀ c ∈ text, 32 ≤ c ∧ c ≤ 126)
      (hb : headerContinue (some text) (s.acceptedOpen (text.length + 1)) = (t, bs)) :
      exec (.headerContinue (textBytes text)) s = .next (t.answered bs) := by
    have hlen : (textBytes text).length = text.length + 1 := by simp [textBytes]
    have hread : readTextOnly (textBytes text) = some text := by
      rw [readTextOnly, (htextRead hl hc).1]
      rfl
    have hpass : (always 76 (upTo 1 41)).refusal (textBytes text).length (s.acceptedOpen (textBytes text).length) = none :=
      always_refusal (mem_upTo.2 (by omega))
    show Host.Outcome.next (powered (endFrame (commandBits 76 (textBytes text)) (actOn (always 76 (upTo 1 41)) (textBytes text)
      (headerContinue (readTextOnly (textBytes text))))) s) = _
    rw [powered, if_pos ht.1, endFrame_taken (by rwa [hlen]) (by decide)]
    simp only [actOn, hpass]
    rw [hread, hlen, hb]
    rfl
  refine ⟨fun ht => ⟨fun hp => hloan ht ?_, fun hp => hloan ht ?_, fun hp => hloan ht ?_, fun hp hf hs => hreclaim ht ?_, fun hp hf =>
    ⟨endLoan (s.accepted 0), hreclaim ht ?_, ?_⟩, fun hp => hreclaim ht ?_, fun hp => hreclaim ht ?_⟩, fun ht ho => ?_,
    fun text ht ho hl hc => ?_, fun n text ht ho hl hc h2 h4 => hbegin ht ho hl hc (by omega) ?_,
    fun h text ht hload hl hc => ⟨fun h1 => hcontinue ht hl hc ?_, fun h1 => hcontinue ht hl hc ?_⟩,
    fun text ht hload hl hc => hcontinue ht hl hc ?_⟩
  · rcases hp with hp | hp <;> simp [printerLoan, hp, reply, State.onPrinter, Result.code, byte]
  · simp [printerLoan, hp, reply, State.onPrinter, Result.code, byte]
  · rcases hp with hp | hp <;> simp [printerLoan, hp, reply, Result.code, byte]
  · have hc : condition .printerFault ((s.accepted 0).onPrinter (fun p =>
        { p with port := if p.hasSuspended then .stopped else .ready, dataLines := some 0 })) = false := by
      simp [condition, hf, hs]
    simp only [reclaim, State.accepted_printer, hp, endLoan, judge_fails hc]
    simp [reply, State.onPrinter, Printer.hasSuspended, Result.code, byte]
  · simp only [reclaim, State.accepted_printer, hp]
    rfl
  · have hposts := judge_posts .printerFault ((s.accepted 0).onPrinter (fun p =>
      { p with port := if p.hasSuspended then .stopped else .ready, dataLines := some 0 }))
    have hcond : condition .printerFault ((s.accepted 0).onPrinter (fun p =>
        { p with port := if p.hasSuspended then .stopped else .ready, dataLines := some 0 })) = true := by
      rcases hf with hf | hf <;> simp [condition, hf]
    have hlat : ((s.accepted 0).onPrinter (fun p =>
        { p with port := if p.hasSuspended then .stopped else .ready, dataLines := some 0 })).latched .printerFault =
        s.latched .printerFault := by
      obtain ⟨_, h⟩ := s.accepted_shape 0
      rw [h]
      rfl
    refine ⟨?_, ?_, fun hl => ?_, fun hl hn => ?_⟩
    · refine hposts.shape.trans ?_
      simp only [State.onPrinter, State.accepted_printer, endLoan, Printer.hasSuspended]
    · rw [endLoan, latched_judge (by simp), hcond]
      simp
    · rw [endLoan, judge_latched (hlat.trans hl)]
      simp
    · rw [endLoan, judge_printerFault (hlat.trans hl) (by simpa using hn) (by simpa using hf)]
      simp
  · simp only [reclaim, State.accepted_printer, hp]
    simp [reply, State.onPrinter, Result.code, byte]
  · rcases hp with hp | hp | hp <;> simp [reclaim, hp, reply, Result.code, byte]
  · refine command_answers (ps := [0]) ht (by decide : 75 ∈ commandCodes) (whileClosed_refusal ho (by decide)) ?_
    have hread : readHeaderBegin [0] = some (0, []) := rfl
    rw [hread]
    simp [withParams, headerBegin, Config.headerCapacity, textOk, setHeader, State.onPrinter, reply, Result.code, byte]
  · refine hbegin (n := 1) ht ho hl hc (by omega) ?_
    simp [headerBegin, Config.headerCapacity, (htextRead hl hc).2, setHeader, State.onPrinter, reply, Result.code, byte]
  · have h0 : ¬ n = 0 := by omega
    have h1 : ¬ n = 1 := by omega
    have h4' : ¬ Config.headerCapacity < n := by simp only [Config.headerCapacity]; omega
    simp only [headerBegin, h0, h1, h4', (htextRead hl hc).2, if_false, false_or, Bool.true_eq_false]
    simp [okWith, State.onPrinter, Result.code, byte]
  · simp only [headerContinue, State.acceptedOpen_printer, hload, (htextRead hl hc).2, h1, if_true, Nat.le_refl]
    simp [okWith, setHeader, State.onPrinter, Result.code, byte]
  · simp only [headerContinue, State.acceptedOpen_printer, hload, (htextRead hl hc).2, if_true, if_neg (Nat.not_le.2 h1)]
    simp [okWith, State.onPrinter, Result.code, byte]
  · simp only [headerContinue, State.acceptedOpen_printer, hload, (htextRead hl hc).2, if_true]
    rfl

/-- Settles O53: the copy's source by its kind, the jobs made, and what leaves the queue with a cancelled job. -/
theorem reprintPrintTextCancelJob : Obligations.ReprintPrintTextCancelJob := by
  intro s next
  refine ⟨?_, fun text ht h1 h40 hc => ?_, ?_⟩
  · intro n c ht hhome hserial cmd refused kind was rest copy made
    have hanswer {t : State} {bs : List Byte} (hb : reprint (n, c.toNat) (s.accepted 4) = (t, bs)) :
        exec cmd s = .next (t.answered bs) := by
      refine command_answers (ps := ticketBytes n ++ [c]) (by simpa using ht) (by decide : 70 ∈ commandCodes)
        (always_refusal (by simp)) ?_
      rw [readTicketAndByte_ok (by omega) (by omega)]
      simpa [withParams] using hb
    have hcopy : copy = min 255 (copiesMade n kind s.printer.reprints + 1) := by rw [copiesMade_eq]
    refine ⟨fun hbad => hanswer ?_, fun h1 h15 hs1 => ?_⟩
    · have hno : ticketOk n = false ∨ copyKindOf c.toNat = none := by
        have hkind (h : c.toNat = 0 ∨ 4 < c.toNat) : copyKindOf c.toNat = none := by
          unfold copyKindOf
          split <;> simp_all
        rcases hbad with h | h | h | h | h
        · exact .inl (by rw [← Bool.not_eq_true, ticketOk_iff]; omega)
        · exact .inl (by rw [← Bool.not_eq_true, ticketOk_iff]; omega)
        · exact .inl (by rw [← Bool.not_eq_true, ticketOk_iff]; omega)
        · exact .inr (hkind (.inl (by rw [h]; rfl)))
        · exact .inr (hkind (.inr h))
      unfold reprint
      split
      · simp_all
      · rfl
    · have hok : ticketOk n = true := ticketOk_iff.2 ⟨h1, h15, hs1, hserial⟩
      have hrefused {k : ReceiptKind} {r : Result} (hk : copyKindOf c.toNat = some k)
          (h : ∀ copy, copyLines n k copy s = .error r) : refused (byte r.code) :=
        hanswer (reprint_refused hok hk fun copy => (accepted_copyLines 4 n k copy s).trans (h copy))
      have hmade {lines : List Text} (hk : copyKindOf c.toNat = some kind) (h : copyLines n kind copy s = .ok lines) :
          made lines := by
        have hstep := reprint_made (s := s.accepted 4) hok hk
          ((accepted_copyLines 4 n kind _ s).trans (by rw [State.accepted_printer]; exact hcopy ▸ h))
        rw [State.accepted_printer, ← hcopy] at hstep
        refine ⟨fun hfull => hanswer ?_, fun hroom => hanswer ?_⟩
        · rw [hstep, State.accepted_printRoom, printRoom_false hfull, if_neg Bool.false_ne_true]
          rfl
        · rw [hstep, State.accepted_printRoom, if_pos (printRoom_iff.2 hroom)]
          simp only [okWith, makeJob, State.onPrinter, State.accepted_printer, withCopy_eq, hcopy]
          rfl
      refine ⟨?_, ?_, fun r hc hf => ⟨?_, ?_, ?_⟩, ?_, fun e he => ⟨?_, fun cash transfer station seller hcl => ⟨?_, ?_⟩,
        fun cash transfer station seller hcl => ⟨?_, ?_⟩⟩⟩
      · intro hc hsome
        obtain ⟨e, he⟩ := Option.isSome_iff_exists.1 hsome
        rcases hc with rfl | rfl
        · exact hrefused (k := .weighSlip) (r := .closed) rfl fun _ => by simp only [copyLines, he]
        · exact hrefused (k := .ticket) (r := .closed) rfl fun _ => by simp only [copyLines, he]
      · intro hc hcl hf
        rcases hc with rfl | rfl
        · exact hrefused (k := .weighSlip) (r := .noTicket) rfl fun _ => by simp only [copyLines, hcl, hf]
        · exact hrefused (k := .ticket) (r := .noTicket) rfl fun _ => by simp only [copyLines, hcl, hf]
      · rintro rfl
        exact hmade rfl (by simp only [copyLines, kind, hc, hf, if_true])
      · rintro rfl hlife
        exact hrefused (k := .ticket) (r := .notAllowed) rfl fun _ => by simp [copyLines, hc, hf, hlife]
      · rintro rfl hlife
        exact hmade rfl (by simp [copyLines, kind, hc, hf, hlife])
      · intro hc hcl
        rcases hc with rfl | rfl
        · exact hrefused (k := .voucher) (r := .noTicket) rfl fun _ => by simp only [copyLines, hcl]
        · exact hrefused (k := .voidSlip) (r := .noTicket) rfl fun _ => by simp only [copyLines, hcl]
      · intro hc hcl
        rcases hc with rfl | rfl
        · exact hrefused (k := .voucher) (r := .notAllowed) rfl fun _ => by simp only [copyLines, he, hcl]
        · exact hrefused (k := .voidSlip) (r := .notAllowed) rfl fun _ => by simp only [copyLines, he, hcl]
      · rintro rfl
        exact hmade rfl (by simp [copyLines, kind, he, hcl])
      · rintro rfl
        exact hrefused (k := .voidSlip) (r := .notAllowed) rfl fun _ => by simp only [copyLines, he, hcl]
      · rintro rfl
        exact hrefused (k := .voucher) (r := .notAllowed) rfl fun _ => by simp only [copyLines, he, hcl]
      · rintro rfl
        exact hmade rfl (by simp [copyLines, kind, he, hcl])
  · have hlen : (textBytes text).length = text.length + 1 := by simp [textBytes]
    have hread : readTextOnly (textBytes text) = some text := by
      have h := takeText_textBytes (t := text) (by omega) (fun c hm => by have := hc c hm; omega) []
      rw [List.append_nil] at h
      rw [readTextOnly, h]
      rfl
    have hok : textOk 1 40 text = true := textOk_iff.2 ⟨h1, h40, hc⟩
    have hanswer {t : State} {bs : List Byte} (hb : printText text (s.accepted (text.length + 1)) = (t, bs)) :
        exec (.printText (textBytes text)) s = .next (t.answered bs) := by
      refine command_answers (by rwa [hlen]) (by decide : 71 ∈ commandCodes) (always_refusal (mem_upTo.2 (by omega))) ?_
      rw [hread, hlen]
      exact hb
    refine ⟨fun hfull => hanswer ?_, fun hroom => hanswer ?_⟩
    · rw [printText, if_pos hok, State.accepted_printRoom, printRoom_false hfull, if_neg Bool.false_ne_true]
      rfl
    · have hlines : textLines text (s.accepted (text.length + 1)) = openingLines 0 s ++ [text] := by
        obtain ⟨_, h⟩ := s.accepted_shape (text.length + 1)
        rw [h]
        rfl
      rw [printText, if_pos hok, State.accepted_printRoom, if_pos (printRoom_iff.2 hroom), hlines]
      simp only [okWith, makeJob, State.onPrinter, State.accepted_printer]
      rfl
  · intro n ht removed cancelled
    have hanswer {t : State} {bs : List Byte} (hb : cancelJob n.toNat (s.accepted 1) = (t, bs)) :
        exec (.cancelJob [n]) s = .next (t.answered bs) := by
      refine command_answers (ps := [n]) ht (by decide : 72 ∈ commandCodes) (always_refusal (by simp)) ?_
      rw [readOne_byte]
      exact hb
    refine ⟨fun hno => hanswer ?_, fun j hj => ⟨fun hst => hanswer ?_, fun hst => hanswer ?_, fun hst => hanswer ?_,
      fun hst => hanswer ?_⟩⟩
    · have hnone : s.printer.jobs.find? (fun j => decide (j.number = n.toNat)) = none :=
        List.find?_eq_none.2 fun j hj => by simpa using hno j hj
      simp only [cancelJob, State.accepted_printer, hnone]
      rfl
    all_goals simp only [cancelJob, State.accepted_printer, hj, hst, if_true, reduceCtorEq, if_false]
    · rfl
    · simp only [reply, removeJob, State.onPrinter, State.accepted_printer]
      rfl
    · simp only [reply, removeJob, State.onPrinter, State.accepted_printer]
      rfl
    · simp only [reply, removeJob, State.onPrinter, State.accepted_printer, afterCancel, removed]
      by_cases hp : s.printer.port = .stopped
      · simp only [hp, if_true]
        rfl
      · simp only [hp, if_false]
        rfl

/-- Settles O55: the code handed, the pins, and what suspends a printing job, by the lemmas on each operation. -/
theorem printerPortLines : Obligations.PrinterPortLines := by
  intro s hpow posted left onPort printing
  have hpowered (f : State → State) : powered f s = settle (f s) := if_pos hpow
  have hpin (f : Printer → Printer) (after : State → State) :
      printerPin f after s = settle (after (s.onPrinter f)) := if_pos hpow
  have hleave {p : Printer} (hp : p.port = s.printer.port) (ho : onPort) (idle : PrinterState) : p.leave idle = left idle p := by
    have ho' : p.port = .printing ∨ p.port = .loanPending := by rw [hp]; exact ho
    rw [Printer.leave_eq ho', hp]
  refine ⟨?_, fun hb => ?_, fun ho => ?_, congrArg _ (hpin _ _), congrArg _ (hpin _ _), congrArg _ (hpin _ _), congrArg _ (hpin _ _),
    fun hpo ho => ?_, fun hl => ?_, fun hst => ?_, ?_, fun ho hpo => ⟨fun hn => ?_, fun j hj hroom => ?_⟩⟩
  · intro c rest ho hb hst handed
    have hhand : exec .handCode s = .next (settle (handCode s)) := congrArg _ (hpowered _)
    rw [hhand, handCode_eq ho hb hst]
    refine ⟨fun h10 h12 => ?_, fun h10 hlead => ?_, fun h10 hlead => ?_, fun j h12 hj hroom => ?_, fun h12 hn => ?_⟩
    · rw [if_neg h12, if_neg h10]
      rfl
    · subst h10
      rw [if_neg (by decide), if_pos rfl]
      simp only [State.onPrinter]
      rw [countLine_plain (by exact hlead)]
    · subst h10
      rw [if_neg (by decide), if_pos rfl]
      simp only [State.onPrinter, countLine, hlead, if_true]
      rfl
    · subst h12
      have hjob : (s.onPrinter (fun p => { p with stream := rest, dataLines := some 12, strobes := p.strobes + 1 })).printer.printingJob
          = some j := hj
      rw [if_pos rfl, finishReceipt, hjob]
      dsimp only
      rw [postNotice_room (by exact hroom)]
      simp only [removeJob, State.onPrinter, State.onNotices]
      rw [hleave (by rfl) ho]
    · subst h12
      have hjob : (s.onPrinter (fun p => { p with stream := rest, dataLines := some 12, strobes := p.strobes + 1 })).printer.printingJob
          = none := hn
      rw [if_pos rfl, finishReceipt, hjob]
      simp only [State.onPrinter]
      rw [hleave (by rfl) ho]
  · exact congrArg _ ((hpowered _).trans (by rw [handCode_idle (.inl hb)]))
  · exact congrArg _ ((hpowered _).trans (by rw [handCode_idle (.inr ho)]))
  · show Host.Outcome.next (if s.printer.paperOut then s else _) = _
    rw [hpo, if_neg Bool.false_ne_true, hpin, paperOut_off_port (by exact ho)]
    rfl
  · refine congrArg _ ((hpin _ _).trans ?_)
    rw [if_pos (by exact hl)]
    rfl
  · show Host.Outcome.next _ = _
    rw [hst]
  · intro hlatched hroom latchedBy
    have hfault (hport : s.printer.port ≠ .loaned) : exec .faultActive s =
        .next (settle (suspendJob true (judge .printerFault (s.onPrinter (fun p => { p with fault := true }))))) :=
      congrArg _ ((hpin _ _).trans (by rw [if_neg (by exact hport)]))
    have hstall {ms : Nat} (hms : s.printer.stall = some ms) : exec .stallTimerExpiry s =
        .next (settle (suspendJob true (judge .printerFault
          ((elapse ms s).onPrinter (fun p => { p with stall := none, stalled := true }))))) := by
      show Host.Outcome.next _ = _
      rw [hms]
      exact congrArg _ (hpowered _)
    have hon (ho : onPort) : s.printer.port ≠ .loaned := by rcases ho with h | h <;> simp [h]
    refine ⟨fun hp => ?_, fun ho hn => ⟨?_, fun ms hms hf => ?_⟩, fun j ho hj => ⟨?_, fun ms hms hf => ?_⟩⟩
    · have hoff : ¬ onPort := by rcases hp with h | h <;> simp [onPort, h]
      rw [hfault (by rcases hp with h | h <;> simp [h]), judge_printerFault (by exact hlatched) (by exact hroom)
        (by exact .inl rfl), suspendJob_off_port (by exact hoff)]
      rfl
    · rw [hfault (hon ho), judge_printerFault (by exact hlatched) (by exact hroom) (by exact .inl rfl),
        suspendJob_cut (by exact ho) (by exact hn)]
      simp only [State.onPrinter]
      rw [hleave (by rfl) ho]
      rfl
    · rw [hstall hms, judge_printerFault (by exact hlatched) (by exact hroom) (by exact .inr rfl),
        suspendJob_cut (by exact ho) (by exact hn)]
      simp only [State.onPrinter]
      rw [hleave (by rfl) ho]
      simp only [elapse, hf, Bool.false_eq_true, if_false]
      rfl
    · rw [hfault (hon ho), judge_printerFault (by exact hlatched) (by exact hroom) (by exact .inl rfl),
        suspendJob_printing (by exact ho) (by exact hj)]
      simp only [State.onPrinter]
      rw [hleave (by rfl) ho]
      rfl
    · rw [hstall hms, judge_printerFault (by exact hlatched) (by exact hroom) (by exact .inr rfl),
        suspendJob_printing (by exact ho) (by exact hj)]
      simp only [State.onPrinter]
      rw [hleave (by rfl) ho]
      simp only [elapse, hf, Bool.false_eq_true, if_false]
      rfl
  · show Host.Outcome.next (if s.printer.paperOut then s else _) = _
    rw [hpo, if_neg Bool.false_ne_true, hpin, paperOut_cut (by exact ho) (by exact hn)]
    simp only [State.onPrinter]
    rw [hleave (by rfl) ho]
  · show Host.Outcome.next (if s.printer.paperOut then s else _) = _
    rw [hpo, if_neg Bool.false_ne_true, hpin, paperOut_printing (by exact ho) (by exact hj), postNotice_room (by exact hroom)]
    simp only [State.onPrinter, State.onNotices]
    rw [hleave (by rfl) ho]

end

section
/-! PROOFS. The bits of a frame and what is shifted out; the frames that are rejected and those that are none. -/

namespace Sys2Proof.Machine

/-! ### Bits and bytes -/

theorem byteBits_of_bits : ∀ a b c d e f g h : Bool,
    byteBits (byte (128 * a.toNat + 64 * b.toNat + 32 * c.toNat + 16 * d.toNat + 8 * e.toNat + 4 * f.toNat + 2 * g.toNat + h.toNat))
      = [a, b, c, d, e, f, g, h] := by decide

/-- Whole bytes hold every bit where no bit is left over. -/
theorem bytesBits_wholeBytes : ∀ {n : Nat} {bits : List Bool}, bits.length = 8 * n →
    bytesBits (wholeBytes bits) = bits ∧ (wholeBytes bits).length = n
  | 0, [], _ => ⟨rfl, rfl⟩
  | n + 1, a :: b :: c :: d :: e :: f :: g :: h :: rest, hl => by
    obtain ⟨h1, h2⟩ := bytesBits_wholeBytes (n := n) (bits := rest) (by simp only [List.length_cons] at hl; omega)
    have hcons (x : Byte) (xs : List Byte) : bytesBits (x :: xs) = byteBits x ++ bytesBits xs := rfl
    simp only [wholeBytes, hcons, byteBits_of_bits, h1, List.length_cons, h2]
    exact ⟨rfl, trivial⟩

theorem bytesBits_getElem? {i k : Nat} {b : Byte} (hk : k < 8) : ∀ {bs : List Byte}, bs[i]? = some b →
    (bytesBits bs)[8 * i + k]? = some (b.getLsbD (7 - k)) := by
  have hbit : ∀ (b : Byte) (k : Fin 8), (byteBits b)[k.1]? = some (b.getLsbD (7 - k.1)) := by decide
  have hlen (x : Byte) : (byteBits x).length = 8 := rfl
  induction i with
  | zero =>
    intro bs h
    cases bs with
    | nil => cases h
    | cons x xs =>
      cases h
      show (byteBits b ++ bytesBits xs)[8 * 0 + k]? = _
      rw [List.getElem?_append_left (by rw [hlen]; omega)]
      simpa using hbit b ⟨k, hk⟩
  | succ i ih =>
    intro bs h
    cases bs with
    | nil => cases h
    | cons x xs =>
      show (byteBits x ++ bytesBits xs)[8 * (i + 1) + k]? = _
      rw [List.getElem?_append_right (by rw [hlen]; omega), hlen, show 8 * (i + 1) + k - 8 = 8 * i + k by omega]
      exact ih h

/-- The tests of R196 pass the frames spelt by the table, and no other bits. -/
theorem frameParams_eq_some_iff {bits : List Bool} {code : Nat} {ps : List Byte} : frameParams bits = some (code, ps) ↔
    bits = commandBits code ps ∧ ps.length ≤ 48 ∧ code ∈ commandCodes := by
  refine ⟨fun h => ?_, fun ⟨hb, hl, hc⟩ => hb ▸ frameParams_commandBits hc hl⟩
  unfold frameParams at h
  split at h
  · rename_i first l rest hw
    split at h
    · rename_i hpass
      obtain ⟨hlen, hmax, _, _, hcode⟩ := hpass
      cases h
      obtain ⟨hbits, hbytes⟩ := bytesBits_wholeBytes hlen
      rw [hw] at hbits hbytes
      have hps : ps.length = l.toNat := by simp only [List.length_cons] at hbytes; omega
      refine ⟨?_, hps ▸ hmax, hcode⟩
      rw [← hbits, commandBits, hps]
      simp [byte]
    · cases h
  · cases h

/-! ### Clocking a frame in -/

theorem frameIn_release_none {s : State} (h : s.port.frame = .none) (bits : List Bool) :
    releaseSelect (frameIn bits s) = { s with port := { s.port with
      select := false, frame := .none
      dataOut := (bytesBits s.shiftedOut ++ List.replicate bits.length false).take bits.length } } := by
  simp [releaseSelect, frameIn, State.onPort, Port.frameIn, h, Port.activate, Port.clockIn, PortFrame.out]

theorem frameIn_release_running {s : State} {copied : List Byte} {timer : Nat} (h : s.port.frame = .running copied [] timer)
    (bits : List Bool) : releaseSelect (frameIn bits s) = { s with port := { s.port with
      select := false, frame := .none
      dataOut := s.port.dataOut ++ (bytesBits copied ++ List.replicate bits.length false).take bits.length } } := by
  simp [releaseSelect, frameIn, State.onPort, Port.frameIn, h, Port.clockIn, PortFrame.out]

theorem frameIn_idle {s : State} (h : s.port.frame = .abandoned ∨ s.port.frame = .notAFrame) (bits : List Bool) :
    frameIn bits s = { s with port := { s.port with dataOut := s.port.dataOut ++ List.replicate bits.length false } } := by
  rcases h with h | h <;>
    simp [frameIn, State.onPort, Port.frameIn, h, Port.clockIn, PortFrame.out, PortFrame.clock]

theorem endFrame_notAFrame {s : State} (h : s.port.frame = .notAFrame) (bits : List Bool) (act : State → State) :
    endFrame bits act s = releaseSelect (frameIn bits s) := by
  have hf : (frameIn bits s).port.frame = .notAFrame := by rw [frameIn_idle (.inr h)]; exact h
  simp only [endFrame, hf]

theorem PortFrame.begins_iff {f : PortFrame} : f.begins = true ↔ f = .none ∨ ∃ copied timer, f = .running copied [] timer := by
  cases f with
  | running c b t => cases b <;> simp [PortFrame.begins]
  | _ => simp [PortFrame.begins]

theorem judgeRejected_abandoned {s : State} (h : s.port.frame = .abandoned) :
    judgeRejected s = rejectFrame (releaseSelect (takeBits s)) := by
  have hf : (takeBits s).port.frame = .abandoned := by rw [takeBits, frameIn_idle (.inl h)]; exact h
  simp only [judgeRejected, hf]

theorem judgeRejected_notAFrame {s : State} (h : s.port.frame = .notAFrame) :
    judgeRejected s = releaseSelect (takeBits s) := by
  have hf : (takeBits s).port.frame = .notAFrame := by rw [takeBits, frameIn_idle (.inr h)]; exact h
  simp only [judgeRejected, hf]

theorem judgeRejected_begins {s : State} (h : s.port.frame.begins = true) :
    judgeRejected s = if (frameParams s.dataIn).isSome then s else rejectFrame (releaseSelect (takeBits s)) := by
  obtain ⟨c, t, hf⟩ := frameIn_begins (bits := s.dataIn) h
  have hf' : (takeBits s).port.frame = .running c s.dataIn t := hf
  simp only [judgeRejected, hf']

end Sys2Proof.Machine

open Sys2Proof Sys2Proof.Machine

/-- Settles O5: the bits of a frame, then each way a frame can end, by what is shifted out until its release. -/
theorem nopSelectAndRejectedFrames : Obligations.NopSelectAndRejectedFrames := by
  refine ⟨fun bits code ps => frameParams_eq_some_iff, fun bs i k b h hk => bytesBits_getElem? hk h, ?_⟩
  intro s copied out filler ended
  have hbegins {bits : List Bool} (h : s.port.frame.begins = true) :
      releaseSelect (frameIn bits s) = { s with port := ended (out bits.length) } := by
    obtain hn | ⟨c, t, hr⟩ := PortFrame.begins_iff.1 h
    · rw [frameIn_release_none hn]
      simp only [ended, out, copied, hn, if_true, List.nil_append]
      rfl
    · rw [frameIn_release_running hr]
      simp only [ended, out, copied, hr, reduceCtorEq, if_false]
  have hidle {bits : List Bool} (h : s.port.frame = .abandoned ∨ s.port.frame = .notAFrame) :
      releaseSelect (frameIn bits s) = { s with port := ended (filler bits.length) } := by
    rw [frameIn_idle h]
    rfl
  have htake : releaseSelect (takeBits s) = { releaseSelect (frameIn s.dataIn s) with dataIn := [] } := rfl
  have hrejected (h : s.powered = true) : exec .frameRejected s = .next (settle (judgeRejected s)) := congrArg _ (if_pos h)
  refine ⟨fun ps ht => ⟨?_, ?_⟩, fun hp hs => ?_, fun timer hp hf => ?_, fun hp hf => ?_, fun hp hb hf => ?_, fun hp hb hf => ?_,
    fun hp hf => ?_, fun c r hp hrow => ?_⟩
  · show Host.Outcome.next (powered _ s) = _
    rw [powered, if_pos ht.1, endFrame_taken ht (by decide)]
    rfl
  · rw [State.accepted, hbegins ht.2.2, List.length_replicate]
    simp only [acceptFrame, State.onPort, Port.readOn, abandonLoad, State.onPrinter, ended]
    split <;> rfl
  · show Host.Outcome.next _ = _
    rw [hs, if_neg Bool.false_ne_true, if_pos hp]
    rfl
  · have hexec : exec .selectTimeout s =
        .next (settle ((takeBits (elapse timer s)).onPort (fun p => { p with frame := .abandoned }))) := by
      show Host.Outcome.next _ = _
      rw [hf]
      exact congrArg _ (if_pos hp)
    rw [hexec]
    simp [takeBits, frameIn, State.onPort, elapse, hf, PortFrame.elapse, Port.frameIn, Port.clockIn, PortFrame.out, out]
  · rw [hrejected hp, judgeRejected_abandoned hf, htake, hidle (.inl hf)]
    rfl
  · rw [hrejected hp, judgeRejected_begins hb, hf, if_neg (by simp), htake, hbegins hb]
    rfl
  · rw [hrejected hp, judgeRejected_begins hb, if_pos (Option.isSome_iff_ne_none.2 hf)]
  · rw [hrejected hp, judgeRejected_notAFrame hf, htake, hidle (.inr hf)]
  · have hexec : ∃ act, exec c s = .next (settle (endFrame (commandBits r.code r.params) act s)) := by
      obtain ⟨body, h⟩ | ⟨body, h⟩ := exec_of_portRow hrow
      · exact ⟨_, (h s).trans (congrArg _ (if_pos hp))⟩
      · exact ⟨_, (h s).trans (congrArg _ (if_pos hp))⟩
    obtain ⟨act, hexec⟩ := hexec
    rw [hexec]
    refine ⟨fun hf => ?_, fun hf => ?_, fun hb hl => ?_⟩
    · rw [endFrame_notAFrame hf, hidle (.inr hf), commandBits_length]
    · rw [endFrame_rejected (.inl hf), hidle (.inl hf), commandBits_length]
      rfl
    · rw [endFrame_rejected (.inr ⟨hb, hl⟩), hbegins hb, commandBits_length]
      rfl

end

section
/-! PROOFS. Power, the soft reset and SET IDENTITY: the conditions judged at a start, the link that joins again, and the records
that a new identity keeps. -/

namespace Sys2Proof.Machine

/-! ### The conditions judged at a start (R195) -/

/-- Notices queued behind those present, numbered on from the sequence, which does not pass its top. -/
def Notices.extended (ns : List Notice) (q : Notices) : Notices :=
  { q with queue := q.queue ++ (List.range' q.seq ns.length).zip ns, seq := q.seq + ns.length }

theorem Notices.extended_nil (q : Notices) : q.extended [] = q := by simp [Notices.extended]

theorem Notices.extended_append (a b : List Notice) (q : Notices) :
    (q.extended a).extended b = q.extended (a ++ b) := by
  have hzip : (List.range' q.seq (a.length + b.length)).zip (a ++ b)
      = (List.range' q.seq a.length).zip a ++ (List.range' (q.seq + a.length) b.length).zip b := by
    rw [← List.range'_append_1, List.zip_append (by simp)]
  simp [Notices.extended, hzip, Nat.add_assoc]

theorem Notices.extended_start (ns : List Notice) : Notices.start.extended ns =
    { queue := (List.range ns.length).zip ns, seq := ns.length, attnEnable := true } := by
  simp [Notices.extended, Notices.start, List.range_eq_range']

/-- The FLAG notice of a condition that holds. -/
def conditionNotice (s : State) (f : Flag) : List Notice :=
  if condition f s = true then [.flag f (conditionDetail f s)] else []

/-- The record of a condition flag that is clear before it is judged. -/
def judgedRecord (f : Flag) (s : State) : FlagRecord :=
  if condition f s = true then { latched := true, count := 0, detail := conditionDetail f s } else s.flag f

theorem judge_room {f : Flag} {s : State} (hl : s.latched f = false) (hq : s.notices.queue.length < 16)
    (hseq : s.notices.seq < 255) : judge f s =
      { s with flags := s.flags.set f (judgedRecord f s), notices := s.notices.extended (conditionNotice s f) } := by
  unfold conditionNotice judgedRecord
  by_cases hc : condition f s = true
  · rw [judge_holds hc, latchCondition_clear hl, flagPosted_eq hq, if_pos hc, if_pos hc]
    simp [Notices.extended, Nat.mod_eq_of_lt (show s.notices.seq + 1 < 256 by omega)]
  · rw [judge_fails (Bool.eq_false_iff.2 hc), if_neg hc, if_neg hc, Notices.extended_nil]
    have hset : s.flags.set f (s.flag f) = s.flags := by cases f <;> rfl
    rw [hset]

/-- What judging these clear condition flags does: each that holds is latched and posts its notice, in their order. -/
structure Judged (fs : List Flag) (s t : State) : Prop where
  shape : t = { s with flags := t.flags, notices := t.notices }
  notices : t.notices = s.notices.extended (fs.flatMap (conditionNotice s))
  flag : ∀ g, t.flag g = if g ∈ fs then judgedRecord g s else s.flag g
  restarted : t.flags.restarted = s.flags.restarted

theorem Judged.latched {fs : List Flag} {s t : State} {g : Flag} (h : Judged fs s t) (hg : s.latched g = false) :
    t.latched g = (decide (g ∈ fs) && condition g s) := by
  rw [State.latched, h.flag g]
  by_cases hm : g ∈ fs
  · rw [if_pos hm, judgedRecord]
    split
    · simp_all
    · rename_i hc
      exact hg.trans (by simp [hc])
  · rw [if_neg hm]
    exact hg.trans (by simp [hm])

theorem condition_congr {f : Flag} {s t : State} (hl : t.link = s.link) (hd : t.drawer = s.drawer) (hp : t.printer = s.printer) :
    condition f t = condition f s ∧ conditionDetail f t = conditionDetail f s := by
  cases f <;> simp only [condition, conditionDetail, hl, hd, hp, and_self]

theorem conditionNotice_congr {s t : State} (hl : t.link = s.link) (hd : t.drawer = s.drawer) (hp : t.printer = s.printer) :
    conditionNotice t = conditionNotice s := by
  funext f
  simp only [conditionNotice, condition_congr hl hd hp]

theorem judgeAll_judged : ∀ (fs : List Flag) (s : State), fs.Nodup → (∀ f ∈ fs, s.latched f = false) →
    s.notices.queue.length + fs.length ≤ 16 → s.notices.seq + fs.length ≤ 255 →
    Judged fs s (fs.foldl (fun s f => judge f s) s)
  | [], s, _, _, _, _ => ⟨rfl, (Notices.extended_nil _).symm, fun _ => by simp, rfl⟩
  | f :: fs, s, hn, hl, hq, hseq => by
    obtain ⟨hf, hn⟩ := List.nodup_cons.1 hn
    simp only [List.length_cons] at hq hseq
    have hstep := judge_room (hl f (by simp)) (by omega) (by omega)
    have hone : (conditionNotice s f).length ≤ 1 := by unfold conditionNotice; split <;> simp
    have hflag (g : Flag) (hg : g ≠ f) : (judge f s).flag g = s.flag g := by
      rw [hstep]
      exact Flags.get_set_other hg _ _
    obtain ⟨hshape, hnotices, hflags, hrestarted⟩ := judgeAll_judged fs (judge f s) hn
      (fun g hg => by
        rw [State.latched, hflag g (fun h => hf (h ▸ hg))]
        exact hl g (by simp [hg]))
      (by rw [hstep]; simp [Notices.extended]; omega) (by rw [hstep]; simp [Notices.extended]; omega)
    have hcond := conditionNotice_congr (s := s) (t := judge f s) (by rw [hstep]) (by rw [hstep]) (by rw [hstep])
    rw [List.foldl_cons]
    refine ⟨?_, ?_, fun g => ?_, ?_⟩
    · rw [hshape]
      simp only [hstep]
    · rw [hnotices, hcond, hstep, List.flatMap_cons, ← Notices.extended_append]
    · rw [hflags g]
      by_cases hg : g = f
      · subst hg
        rw [if_neg hf, if_pos (by simp), hstep]
        exact Flags.get_set_self _ _ _
      · have hrecord : judgedRecord g (judge f s) = judgedRecord g s := by
          have := condition_congr (f := g) (s := s) (t := judge f s) (by rw [hstep]) (by rw [hstep]) (by rw [hstep])
          simp only [judgedRecord, this, hflag g hg]
        simp only [List.mem_cons, hg, false_or, hrecord, hflag g hg]
    · rw [hrestarted, hstep]
      exact Flags.set_restarted _ _ _

/-- The flags judged when the blocks have started. -/
def startFlags : List Flag := [.printerFault, .cashWarn, .cashLimit, .drawerLow]

theorem startFlags_condition : ∀ f ∈ startFlags, f.isCondition = true := by decide

theorem judgeStart_judged {s : State} (hl : ∀ f ∈ startFlags, s.latched f = false) (hq : s.notices.queue.length ≤ 12)
    (hseq : s.notices.seq ≤ 251) : Judged startFlags s (judgeStart s) :=
  judgeAll_judged startFlags s (by decide) hl (by simp [startFlags]; omega) (by simp [startFlags]; omega)

/-- The lowest-valued denomination below its mark is the last one: the table is kept largest first. -/
theorem lowestBelowMark_eq (l : List Denomination) :
    lowestBelowMark l = (l.filter (fun p => p.enabled && decide (p.count < p.lowMark))).getLast?.map Denomination.value := by
  induction l with
  | nil => rfl
  | cons p rest ih =>
    rw [List.filter_cons]
    cases hr : lowestBelowMark rest with
    | none =>
      have hnil : rest.filter (fun p => p.enabled && decide (p.count < p.lowMark)) = [] := by
        rw [hr] at ih
        exact List.getLast?_eq_none_iff.1 (Option.map_eq_none_iff.1 ih.symm)
      simp only [lowestBelowMark, hr, hnil]
      split <;> simp
    | some v =>
      obtain ⟨q, hq, hv⟩ := Option.map_eq_some_iff.1 (ih.symm.trans hr)
      simp only [lowestBelowMark, hr]
      split
      · rw [List.getLast?_cons, hq]
        simp [hv]
      · rw [hq]
        simp [hv]

theorem lowestBelowMark_isSome (l : List Denomination) :
    (lowestBelowMark l).isSome = l.any (fun p => p.enabled && decide (p.count < p.lowMark)) := by
  rw [lowestBelowMark_eq, Option.isSome_map, Bool.eq_iff_iff, List.any_eq_true, Option.isSome_iff_ne_none, ne_eq,
    List.getLast?_eq_none_iff, List.filter_eq_nil_iff]
  simp only [Classical.not_forall, Classical.not_not, exists_prop]

/-- The FLAG notices of a start, in the order of R184's table. -/
def startNotices (s : State) : List Notice :=
  (if s.printer.fault = true then [Notice.flag .printerFault (.printer .fault)] else [])
    ++ (if s.drawer.warn ≤ s.drawer.totals.cash then [.flag .cashWarn (.cashPaid s.drawer.totals.cash)] else [])
    ++ (if s.drawer.limit ≤ s.drawer.totals.cash then [.flag .cashLimit (.cashPaid s.drawer.totals.cash)] else [])
    ++ ((lowestBelowMark s.drawer.denominations).map (fun v => .flag .drawerLow (.denomination v))).toList

theorem startNotices_eq {s : State} (hs : s.printer.stalled = false) :
    startFlags.flatMap (conditionNotice s) = startNotices s := by
  have hfault : conditionNotice s .printerFault =
      if s.printer.fault = true then [Notice.flag .printerFault (.printer .fault)] else [] := by
    cases hf : s.printer.fault <;> simp [conditionNotice, condition, conditionDetail, hs, hf]
  have hlow : conditionNotice s .drawerLow =
      ((lowestBelowMark s.drawer.denominations).map (fun v => Notice.flag .drawerLow (.denomination v))).toList := by
    cases h : lowestBelowMark s.drawer.denominations <;> simp [conditionNotice, condition, conditionDetail, h]
  simp only [startNotices, startFlags, List.flatMap_cons, List.flatMap_nil, List.append_nil, hfault, hlow, List.append_assoc]
  simp [conditionNotice, condition, conditionDetail]

theorem startNotices_length (s : State) : (startNotices s).length ≤ 4 := by
  have hone {p : Prop} [Decidable p] {n : Notice} : (if p then [n] else []).length ≤ 1 := by split <;> simp
  have hopt {o : Option Notice} : o.toList.length ≤ 1 := by cases o <;> simp
  simp only [startNotices, List.length_append]
  exact Nat.add_le_add (Nat.add_le_add (Nat.add_le_add hone hone) hone) hopt

/-- The conditions judged with every flag clear and no notice queued. -/
structure Started (s t : State) : Prop where
  shape : t = { s with flags := t.flags, notices := t.notices }
  notices : t.notices = Notices.start.extended (startNotices s)
  restarted : t.flags.restarted = true
  event : ∀ f : Flag, f.isCondition = false → t.flag f = ⟨false, 0, .none⟩
  printerFault : t.latched .printerFault = s.printer.fault
  cashWarn : t.latched .cashWarn = decide (s.drawer.warn ≤ s.drawer.totals.cash)
  cashLimit : t.latched .cashLimit = decide (s.drawer.limit ≤ s.drawer.totals.cash)
  drawerLow : t.latched .drawerLow = s.drawer.denominations.any (fun p => p.enabled && decide (p.count < p.lowMark))
  linkDown : t.latched .linkDown = false
  idConflict : t.latched .idConflict = false

theorem judgeStart_started {s : State} (hf : s.flags = .start) (hn : s.notices = .start) (hs : s.printer.stalled = false) :
    Started s (judgeStart s) := by
  have hclear (f : Flag) : s.flag f = ⟨false, 0, .none⟩ := by
    rw [State.flag, hf]
    cases f <;> rfl
  have hjudged : Judged startFlags s (judgeStart s) :=
    judgeStart_judged (fun f _ => by rw [State.latched, hclear f]) (by simp [hn, Notices.start]) (by simp [hn, Notices.start])
  have hlatched (f : Flag) : (judgeStart s).latched f = (decide (f ∈ startFlags) && condition f s) :=
    hjudged.latched (by rw [State.latched, hclear f])
  refine ⟨hjudged.shape, ?_, ?_, fun f hc => ?_, ?_, ?_, ?_, ?_, ?_, ?_⟩
  · rw [hjudged.notices, startNotices_eq hs, hn]
  · rw [hjudged.restarted, hf]
    rfl
  · rw [hjudged.flag f, if_neg (fun h => Bool.false_ne_true (hc.symm.trans (startFlags_condition f h))), hclear]
  · simp [hlatched, startFlags, condition, hs]
  · simp [hlatched, startFlags, condition]
  · simp [hlatched, startFlags, condition]
  · simp [hlatched, startFlags, condition, lowestBelowMark_isSome]
  · simp [hlatched, startFlags]
  · simp [hlatched, startFlags]

/-- A part with nothing to print and nothing queued for the link is settled. -/
theorem settle_idle {s : State} (hj : s.printer.jobs = []) (hp : s.printer.port = .ready) (hs : s.printer.stream = [])
    (ht : s.printer.stall = none) (hq : s.link.queue = []) : settle s = s := by
  have htake : takeJobs s = s := takeJobs_ready_none hp (by simp [hj])
  have hprinter : (settle s).printer = s.printer := by
    rw [settle_printer, htake]
    simp only [settleStall, State.onPrinter, hs, List.isEmpty_nil, Bool.not_true, Bool.and_false, Bool.false_and,
      Bool.false_eq_true, if_false]
    rw [← ht, ← hs]
  have hqueue : (settle s).link.queue = s.link.queue := by
    rw [settle_queue, Link.onHead, hq]
    simp [modifyFirst]
  rw [settle_shape, hprinter, hqueue]

/-! ### Power arrives -/

/-- The blocks started from the retained store, before anything is judged. -/
def poweredStore (straps : Straps) (storeAgrees : Bool) (s : State) : State :=
  startBlocks (claimRegister (State.onTickets Tickets.onPower
    { (if storeAgrees then { dropPower s with powered := true } else clearStore { dropPower s with powered := true }) with
      identity := { straps := straps, override := if storeAgrees then s.identity.override else none } }))

theorem startUp_agrees (straps : Straps) (s : State) :
    startUp straps true s = closeDayInWaitId (judgeStart (poweredStore straps true s)) := rfl

theorem startUp_lost (straps : Straps) (s : State) :
    startUp straps false s = closeDayInWaitId (judgeStart (latchEvent .retainedLost .none (poweredStore straps false s))) := rfl

theorem claimRegister_eq (s : State) : claimRegister s =
    { s with tickets := if s.myId = 0 ∨ s.tickets.owner = s.myId then s.tickets
      else { s.tickets with register := [], owner := s.myId, nextSerial := 1 } } := by
  unfold claimRegister
  split <;> rfl

/-- The scale unit, the link, the printer and the port at power-on, by the identity in force. -/
def startedBlocks (s : State) : State :=
  { s with
    powered := true
    scale := { ScaleUnit.start s.scale.zero s.settings.toScaleItems with silence := if s.hasWeigh then some Config.silenceMs else none }
    weigh := none
    link := { Link.start with joinTimer := if s.waitId then none else some Config.joinMs }
    weighTimer := .start
    payTimer := .start
    payOp := none
    printer := .start s.printer.header s.printer.busy s.printer.paperOut s.printer.fault
    flags := .start
    notices := .start
    port := .start s.port.select }

theorem poweredStore_kept (straps : Straps) (s : State) : poweredStore straps true s =
    startedBlocks (claimRegister (State.onTickets Tickets.onPower { s with identity := ⟨straps, s.identity.override⟩ })) := by
  simp only [poweredStore, claimRegister_eq]
  rfl

/-- The factory store, its register taken by the station. -/
theorem poweredStore_lost (straps : Straps) (s : State) : poweredStore straps false s =
    startedBlocks { clearStore s with
      identity := ⟨straps, none⟩
      tickets := { Tickets.factory with owner := ({ s with identity := ⟨straps, none⟩ } : State).myId } } := by
  have hself : (State.onTickets Tickets.onPower { clearStore { dropPower s with powered := true } with
      identity := { straps := straps, override := none } }).myId = ({ s with identity := ⟨straps, none⟩ } : State).myId := rfl
  simp only [poweredStore, claimRegister_eq, Bool.false_eq_true, if_false]
  rw [hself]
  split
  · rename_i h
    have howner : ({ s with identity := ⟨straps, none⟩ } : State).myId = 0 := h.elim id Eq.symm
    rw [howner]
    rfl
  · rfl

theorem closeDayInWaitId_room {s : State} (h : s.notices.queue.length < 16) (hseq : s.notices.seq < 255) :
    closeDayInWaitId s = { s with
      day := if s.identity.inForce = none ∧ s.day.isOpen = true then { s.day with isOpen := false, tick := none } else s.day
      notices := s.notices.extended
        (if s.identity.inForce = none ∧ s.day.isOpen = true then [.day s.day.number .closed 0] else []) } := by
  unfold closeDayInWaitId
  by_cases hc : s.identity.inForce = none ∧ s.day.isOpen = true
  · rw [if_pos (by simpa [waitId_iff] using hc), if_pos hc, if_pos hc, postNotice_room (by exact h)]
    simp [State.onNotices, State.onDay, Notices.extended, Nat.mod_eq_of_lt (show s.notices.seq + 1 < 256 by omega)]
  · rw [if_neg (by simpa [waitId_iff] using hc), if_neg hc, if_neg hc, Notices.extended_nil]

end Sys2Proof.Machine

open Sys2Proof Sys2Proof.Machine

/-- Settles O13: what the start of each block leaves, and the conditions judged on the factory store. -/
theorem powerLossAndALostStore : Obligations.PowerLossAndALostStore := by
  refine ⟨fun s hp => ?_, fun s hp => ⟨dropPower s, ?_, ?_⟩, fun i r l s hi hr hl => ?_⟩
  · exact congrArg _ (if_neg (by simp [hp]))
  · exact congrArg _ (if_pos hp)
  · refine ⟨rfl, rfl, rfl, rfl, rfl, rfl, rfl, fun f => ?_, rfl, rfl, rfl⟩
    cases f <;> rfl
  · let straps : Straps := { id := i % 16, role := r % 4, rate := l % 4 }
    have hw := poweredStore_lost straps s
    let v := latchEvent .retainedLost .none (poweredStore straps false s)
    have hv : v = { poweredStore straps false s with
        flags := Flags.start.set .retainedLost { latched := true, count := 1, detail := .none }
        notices := { queue := [(0, .flag .retainedLost .none)], seq := 1, attnEnable := true } } := by
      simp only [v]
      rw [hw]
      rfl
    have hclear : ∀ f : Flag, f ≠ .retainedLost → v.flag f = ⟨false, 0, .none⟩ := by
      intro f hf
      rw [hv]
      exact (Flags.get_set_other hf _ _).trans (by cases f <;> rfl)
    have hjudged : Judged startFlags v (judgeStart v) := by
      refine judgeStart_judged (fun f hf => ?_) (by rw [hv]; simp) (by rw [hv]; simp)
      rw [State.latched, hclear f (by rintro rfl; exact absurd hf (by decide))]
    have hnotices : startFlags.flatMap (conditionNotice v) =
        if s.printer.fault = true then [.flag .printerFault (.printer .fault)] else [] := by
      rw [startNotices_eq (by rw [hv, hw]; rfl), hv, hw]
      simp [startNotices, startedBlocks, clearStore, Printer.start, Drawer.factory, WindowTotals.zero, lowestBelowMark]
      rfl
    have hshape := hjudged.shape
    refine ⟨judgeStart v, ?_, ?_⟩
    · refine congrArg Host.Outcome.next ?_
      have hclose : closeDayInWaitId (judgeStart v) = judgeStart v := by
        refine if_neg ?_
        rw [hshape, hv, hw]
        simp [startedBlocks, clearStore, YardDay.factory]
      show settle (startUp straps false s) = _
      rw [startUp_lost, hclose]
      exact settle_idle (by rw [hshape, hv, hw]; rfl) (by rw [hshape, hv, hw]; rfl) (by rw [hshape, hv, hw]; rfl)
        (by rw [hshape, hv, hw]; rfl) (by rw [hshape, hv, hw]; rfl)
    · have hlatched (f : Flag) (hf : f ≠ .retainedLost) : (judgeStart v).latched f = (decide (f ∈ startFlags) && condition f v) :=
        hjudged.latched (by rw [State.latched, hclear f hf])
      have hfault : (judgeStart v).latched .printerFault = s.printer.fault := by
        rw [hlatched _ (by decide), hv, hw]
        simp [startFlags, condition, startedBlocks, clearStore, Printer.start]
      have hother (f : Flag) (hr : f ≠ .retainedLost) (hp : f ≠ .printerFault) : (judgeStart v).latched f = false := by
        rw [hlatched _ hr, hv, hw]
        cases f <;> simp [startFlags, condition, startedBlocks, clearStore, Drawer.factory, WindowTotals.zero, lowestBelowMark] at hp ⊢
      have hlost : (judgeStart v).flags.retainedLost = { latched := true, count := 1, detail := .none } :=
        (hjudged.flag .retainedLost).trans (by rw [if_neg (by decide), hv]; rfl)
      have hnotice : (judgeStart v).notices =
          ⟨[(0, Notice.flag .retainedLost .none)]
            ++ (if s.printer.fault = true then [(1, .flag .printerFault (.printer .fault))] else []),
            if s.printer.fault = true then 2 else 1, true⟩ := by
        rw [hjudged.notices, hnotices, hv]
        cases s.printer.fault <;> rfl
      have hmark : (judgeStart v).flags.restarted = true := by rw [hjudged.restarted, hv]; rfl
      have hid : straps = ⟨i, r, l⟩ := by
        simp only [straps, Nat.mod_eq_of_lt (show i < 16 by omega), Nat.mod_eq_of_lt (show r < 4 by omega),
          Nat.mod_eq_of_lt (show l < 4 by omega)]
      have hidentity : (judgeStart v).identity = ⟨⟨i, r, l⟩, none⟩ := by
        rw [hshape, hv, hw, ← hid]
        rfl
      refine ⟨?_, hidentity, ?_, ?_, ?_, ?_, ?_, ?_, ?_, ?_, ?_, ?_, ?_, ?_, ?_, ?_, ?_, ?_, ?_, ?_, ?_, ?_, ?_, ?_, hlost, hfault,
        hother, hnotice, hmark⟩
      all_goals rw [hshape, hv, hw]; rfl

/-- Settles O12: the retained store with its marks cleared, the blocks started, and the conditions judged on it. -/
theorem powerOnKeepsTheRetainedStore : Obligations.PowerOnKeepsTheRetainedStore := by
  intro i r l s hi hr hl
  obtain ⟨w, hw⟩ : ∃ w, w = poweredStore { id := i % 16, role := r % 4, rate := l % 4 } true s := ⟨_, rfl⟩
  have hexec : exec (.powerOn i r l true) s = .next (settle (closeDayInWaitId (judgeStart w))) := by
    rw [hw, ← startUp_agrees]
    rfl
  rw [poweredStore_kept, Nat.mod_eq_of_lt (show i < 16 by omega), Nat.mod_eq_of_lt (show r < 4 by omega),
      Nat.mod_eq_of_lt (show l < 4 by omega), claimRegister_eq] at hw
  have hstarted : Started w (judgeStart w) := judgeStart_started (by rw [hw]; rfl) (by rw [hw]; rfl) (by rw [hw]; rfl)
  have hnotices := hstarted.notices
  have hlength := startNotices_length w
  have hstanding : startNotices w = startNotices s := by rw [hw]; rfl
  let closing : List Notice := if w.identity.inForce = none ∧ s.day.isOpen = true then [.day s.day.number .closed 0] else []
  have hday : w.day = s.day := by rw [hw]; rfl
  have ht : closeDayInWaitId (judgeStart w) = { w with
      day := if w.identity.inForce = none ∧ s.day.isOpen = true then { s.day with isOpen := false, tick := none } else s.day
      flags := (judgeStart w).flags
      notices := Notices.start.extended (startNotices s ++ closing) } := by
    rw [closeDayInWaitId_room (by rw [hnotices, Notices.extended_start]; simp; omega)
      (by rw [hnotices, Notices.extended_start]; simp; omega), hnotices, Notices.extended_append, hstarted.shape, hstanding, hday]
  obtain ⟨t, htt⟩ : ∃ t, t = closeDayInWaitId (judgeStart w) := ⟨_, rfl⟩
  rw [← htt] at hexec ht
  have hlatched (f : Flag) : t.latched f = (judgeStart w).latched f := by rw [ht]; rfl
  have hflag (f : Flag) : t.flag f = (judgeStart w).flag f := by rw [ht]; rfl
  have hqueue : t.notices = ⟨(List.range (startNotices s ++ closing).length).zip (startNotices s ++ closing),
      (startNotices s ++ closing).length, true⟩ := by
    rw [ht]
    exact Notices.extended_start _
  have hstore : t.tickets = if t.myId = 0 ∨ s.tickets.owner = t.myId then s.tickets.onPower
      else { s.tickets.onPower with register := [], owner := t.myId, nextSerial := 1 } := by
    rw [ht, hw]
    rfl
  have hmarks : t.tickets.table = s.tickets.table.map (fun r => { r with custody := .free }) ∧
      t.tickets.closed = s.tickets.closed ∧ t.tickets.cursor = none := by
    rw [hstore]
    split <;> exact ⟨rfl, rfl, rfl⟩
  obtain ⟨htable, hclosed, hcursor⟩ := hmarks
  have hforce : w.identity.inForce = t.identity.inForce := by rw [ht]
  rw [settle_idle (by rw [ht, hw]; rfl) (by rw [ht, hw]; rfl) (by rw [ht, hw]; rfl) (by rw [ht, hw]; rfl) (by rw [ht, hw]; rfl)] at hexec
  have hsame (h : t.myId = 0 ∨ t.myId = s.tickets.owner) :
      t.tickets.register = s.tickets.register.map (fun e => { e with holder := 0 }) ∧
        t.tickets.owner = s.tickets.owner ∧ t.tickets.nextSerial = s.tickets.nextSerial := by
    rw [hstore, if_pos (h.imp_right Eq.symm)]
    exact ⟨rfl, rfl, rfl⟩
  have hother (h : t.myId ≠ 0) (h' : t.myId ≠ s.tickets.owner) :
      t.tickets.register = [] ∧ t.tickets.owner = t.myId ∧ t.tickets.nextSerial = 1 := by
    rw [hstore, if_neg (fun hc => hc.elim h fun h1 => h' h1.symm)]
    exact ⟨rfl, rfl, rfl⟩
  have hjoin : t.link.joinTimer = if t.identity.inForce = none then none else some 500 := by
    have h : t.link.joinTimer = if t.waitId then none else some 500 := by rw [ht, hw]; rfl
    rw [h]
    simp only [waitId_iff]
  have hrestarted : t.flags.restarted = true := by
    rw [ht]
    exact hstarted.restarted
  have hlow : t.latched .drawerLow = true ↔ ∃ p ∈ s.drawer.denominations, p.enabled = true ∧ p.count < p.lowMark := by
    have hdrawer : w.drawer = s.drawer := by rw [hw]; rfl
    rw [hlatched, hstarted.drawerLow, hdrawer]
    simp
  have hsnd : t.notices.queue.map Prod.snd = startNotices s ++ closing := by
    rw [hqueue]
    exact List.map_snd_zip (by simp)
  have hfst : t.notices.queue.map Prod.fst = List.range t.notices.queue.length := by
    rw [hqueue]
    simp [List.map_fst_zip]
  have hseq : t.notices.seq = t.notices.queue.length := by
    rw [hqueue]
    simp
  have hposted : t.notices.queue.map Prod.snd =
        (if s.printer.fault = true then [Notice.flag .printerFault (.printer .fault)] else [])
        ++ (if s.drawer.warn ≤ s.drawer.totals.cash then [.flag .cashWarn (.cashPaid s.drawer.totals.cash)] else [])
        ++ (if s.drawer.limit ≤ s.drawer.totals.cash then [.flag .cashLimit (.cashPaid s.drawer.totals.cash)] else [])
        ++ (match (s.drawer.denominations.filter (fun p => p.enabled && decide (p.count < p.lowMark))).getLast? with
            | some p => [.flag .drawerLow (.denomination p.value)]
            | none => [])
        ++ (if t.identity.inForce = none ∧ s.day.isOpen = true then [.day s.day.number .closed 0] else []) := by
    rw [hsnd, startNotices, lowestBelowMark_eq]
    simp only [closing, hforce]
    cases (s.drawer.denominations.filter (fun p => p.enabled && decide (p.count < p.lowMark))).getLast? <;> rfl
  refine ⟨t, hexec, ?_, ?_, ?_, ?_, ?_, ?_, ?_, htable, hclosed, hcursor, hsame, hother, ?_,
    ?_, ?_, ?_, ?_, ?_, ?_, ?_, ?_, ?_, ?_, ?_, ?_, ?_, ?_, ?_, ?_, ?_, hjoin, ?_, ?_, ?_, ?_, ?_, ?_, ?_, ?_, ?_, ?_, ?_, ?_, ?_, ?_, ?_, ?_, ?_,
    hrestarted, fun f hf => (hflag f).trans (hstarted.event f hf), (hlatched _).trans (hstarted.printerFault.trans (by rw [hw]; rfl)),
    (hlatched _).trans (hstarted.cashWarn.trans (by rw [hw]; rfl)), (hlatched _).trans (hstarted.cashLimit.trans (by rw [hw]; rfl)), hlow,
    (hlatched _).trans hstarted.linkDown, (hlatched _).trans hstarted.idConflict, ?_, hposted, hfst, hseq, ?_⟩
  all_goals rw [ht, hw] <;> rfl

end

section
/-! PROOFS. The link that joins again, the soft reset, and SET IDENTITY. -/

namespace Sys2Proof.Machine

/-! ### The link passes to JOINING (R113) -/

/-- A burst of the record that was under way and holds no CLAIM of a slot. -/
def Link.burstBroken (l : Link) (t : TicketNo) : Bool :=
  l.queue.any (fun i => decide (i.burst = some t) && i.slot.isNone && (i.started || i.onWire))

theorem QueueItem.isKept_burst {i : QueueItem} {t : TicketNo} (h : i.burst = some t) :
    i.isKept = (!i.started && !i.onWire) := by simp [QueueItem.isKept, h]

theorem QueueItem.isKept_frame {i : QueueItem} (h : i.burst = none) :
    i.isKept = decide (i.frames.head?.map Frame.kind = some .closed) := by
  rw [Bool.eq_iff_iff]
  simp [QueueItem.isKept, QueueItem.kind?, h]

theorem claimDropped_idle {s : State} (hw : s.weigh = none) (hp : s.payOp = none) (slot : SlotId) : claimDropped slot s = s := by
  cases slot <;> simp [claimDropped, State.slotTicket, hw, hp]

/-- Records of these tickets last written here are marked pending broadcast. -/
def Tickets.marked (self : Nat) (p : TicketNo → Bool) (k : Tickets) : Tickets :=
  { k with table := k.table.map (fun r =>
      { r with pendingBroadcast := r.pendingBroadcast || (p r.number && decide (r.lastWriter = self)) }) }

theorem removed_idle {s : State} (hw : s.weigh = none) (hp : s.payOp = none) (i : QueueItem) : removed i s =
    { s with tickets := s.tickets.marked s.myId (fun t => decide (i.burst = some t) && i.slot.isNone) } := by
  cases hslot : i.slot with
  | some slot =>
    simp [removed, hslot, claimDropped_idle hw hp, Tickets.marked]
  | none =>
    cases hburst : i.burst with
    | none => simp [removed, hslot, hburst, Tickets.marked]
    | some t =>
      simp only [removed, hslot, hburst, markPending, modifyRecord, State.onTickets, Tickets.marked]
      refine congrArg (fun table => { s with tickets := { s.tickets with table := table } }) (List.map_congr_left fun r _ => ?_)
      by_cases hn : r.number = t
      · subst hn
        by_cases hl : r.lastWriter = s.myId <;> simp [hl]
      · simp [hn, Ne.symm hn]

theorem removeAll_idle : ∀ (items : List QueueItem) (s : State), s.weigh = none → s.payOp = none →
    items.foldl (fun s i => removed i s) s =
      { s with tickets := s.tickets.marked s.myId (fun t => items.any (fun i => decide (i.burst = some t) && i.slot.isNone)) }
  | [], s, _, _ => by simp [Tickets.marked]
  | i :: items, s, hw, hp => by
    rw [List.foldl_cons, removed_idle hw hp, removeAll_idle items _ (by exact hw) (by exact hp)]
    refine congrArg (fun k => { s with tickets := k }) ?_
    have hself (k : Tickets) : ({ s with tickets := k } : State).myId = s.myId := rfl
    simp only [Tickets.marked, hself, List.map_map, List.any_cons]
    refine congrArg (fun table => { s.tickets with table := table }) (List.map_congr_left fun r _ => ?_)
    simp only [Function.comp, Bool.and_or_distrib_right, Bool.or_assoc]

/-- With both slots idle a restart of the link only marks the records whose burst was under way. -/
theorem rejoin_idle {s : State} (hw : s.weigh = none) (hp : s.payOp = none) : rejoin s =
    { s with
      tickets := s.tickets.marked s.myId s.link.burstBroken
      link := { s.link with
        state := .joining, restartOwed := true, undelivered := 0, wire := none, probe := none
        joinTimer := if s.identity.inForce = none then none else some 500
        announceTimer := none, upAlone := none, contexts := []
        queue := (s.link.queue.filter QueueItem.isKept).map (fun i =>
          { i with onWire := false, attempts := 0, timeout := none, timedOut := false }) } } := by
  have hbroken : (fun t => (s.link.queue.filter (fun i => !i.isKept && i.burst.isSome)).any
      (fun i => decide (i.burst = some t) && i.slot.isNone)) = s.link.burstBroken := by
    funext t
    rw [List.any_filter, Link.burstBroken]
    refine congrArg (fun f => s.link.queue.any f) (funext fun i => ?_)
    cases hb : i.burst with
    | none => simp
    | some t' => simp [QueueItem.isKept, hb, Bool.and_comm]
  simp only [rejoin]
  rw [removeAll_idle _ _ (by exact hw) (by exact hp), hbroken]
  simp only [State.onLink, waitId_iff]
  rfl

theorem Tickets.onReset_eq (self : Nat) (k : Tickets) : k.onReset self =
    { k with
      table := k.table.map (fun r => { r with custody := if r.custody.isOwn then .free else r.custody })
      register := k.register.map (fun e => if e.holder = self then { e with holder := 0 } else e)
      cursor := none } := by
  have hmark (r : Record) : (if r.custody.isOwn then { r with custody := .free } else r)
      = { r with custody := if r.custody.isOwn then .free else r.custody } := by
    split <;> rfl
  simp only [Tickets.onReset, hmark]

theorem Port.readOn_eq (l : Nat) (p : Port) :
    p.readOn l = { p with position := (p.readOn l).position, answerNew := (p.readOn l).answerNew } := by
  unfold Port.readOn
  split <;> rfl

/-! ### The receipt unit at the soft reset (R183) -/

theorem Printer.onReset_jobs (p : Printer) : p.onReset.jobs =
    (p.jobs.filter (fun j => decide (j.state ≠ .waiting))).map (fun j =>
      { j with state := if j.state = .printing then .suspended else j.state, awaitsBusy := false }) := rfl

/-- What the soft reset leaves of the receipt unit. -/
theorem Printer.onReset_eq (p : Printer) : p.onReset =
    { p with jobs := p.onReset.jobs, port := p.onReset.port, stall := none, stalled := false, load := none,
             stream := p.onReset.stream, leadLine := p.onReset.leadLine, dataLines := p.onReset.dataLines } := by
  cases hp : p.port <;> simp [Printer.onReset, Printer.leave, hp]

theorem Printer.onReset_stopped {p : Printer} (h : p.port = .printing ∨ p.port = .stopped) : p.onReset.port = .stopped := by
  rcases h with h | h <;> simp [Printer.onReset, Printer.leave, h]

theorem Printer.onReset_stream {p : Printer} (h : p.port = .printing) : p.onReset.stream = [] := by
  simp [Printer.onReset, Printer.leave, h]

/-- The job on the port, or the suspended one, is the one that waits to restart. -/
theorem Printer.onReset_suspended {p : Printer} {j : Job}
    (h : p.jobs.find? (fun j => decide (j.state = .printing ∨ j.state = .suspended)) = some j) :
    p.onReset.jobs.find? (fun j => decide (j.state = .suspended)) =
      some { j with state := .suspended, awaitsBusy := false } := by
  have hsame (i : Job) : decide (decide (i.state ≠ .waiting) = true ∧
      decide ((if i.state = .printing then JobState.suspended else i.state) = .suspended) = true)
      = decide (i.state = .printing ∨ i.state = .suspended) := by
    cases i.state <;> decide
  rw [Printer.onReset_jobs, List.find?_map, List.find?_filter]
  simp only [Function.comp, hsame, h, Option.map_some]
  have hfound := List.find?_some h
  rcases of_decide_eq_true hfound with hs | hs <;> simp [hs]

/-! ### A new identity (R206) -/

theorem renameWriter_eq (old new : Nat) (s : State) : renameWriter old new s =
    { s with tickets := { s.tickets with table := s.tickets.table.map (fun r =>
        if r.lastWriter = old ∧ old ≠ 0 ∧ new ≠ 0 then { r with lastWriter := new } else r) } } := by
  unfold renameWriter
  by_cases h : old = 0 ∨ new = 0
  · have hno (r : Record) : ¬ (r.lastWriter = old ∧ old ≠ 0 ∧ new ≠ 0) := by omega
    simp only [if_pos h, if_neg (hno _), List.map_id']
  · have hsame (r : Record) : (r.lastWriter = old ∧ old ≠ 0 ∧ new ≠ 0) ↔ r.lastWriter = old := by omega
    simp only [if_neg h, hsame]
    rfl

/-- A record leaves the table at most; the cursor may move. -/
theorem applyFilter_shape (t : TicketNo) (s : State) : applyFilter t s =
    { s with tickets := { s.tickets with table := (applyFilter t s).tickets.table, cursor := (applyFilter t s).tickets.cursor } } := by
  unfold applyFilter
  split
  · split <;> rfl
  · rfl

/-- What the two tests leave of the table, with no ticket in it twice. -/
theorem applyFilter_table {t : TicketNo} {s : State} (hn : (s.tickets.table.map Record.number).Nodup) :
    (applyFilter t s).tickets.table =
      s.tickets.table.filter (fun r => decide (r.number ≠ t) || (r.custody.isOwn || s.keeps r)) := by
  unfold applyFilter
  cases hf : s.findRecord t with
  | none =>
    refine (List.filter_eq_self.2 fun r hr => ?_).symm
    have := List.find?_eq_none.1 hf r hr
    simp_all
  | some r =>
    have hr : r.number = t := by simpa using List.find?_some hf
    have hmem : r ∈ s.tickets.table := List.mem_of_find?_eq_some hf
    have hunique {q : Record} (hq : q ∈ s.tickets.table) (h : q.number = t) : q = r :=
      eq_of_nodup_map hn hq hmem (h.trans hr.symm)
    by_cases hk : (r.custody.isOwn || s.keeps r) = true
    · simp only [hk, if_true]
      refine (List.filter_eq_self.2 fun q hq => ?_).symm
      by_cases h : q.number = t
      · rw [hunique hq h, hk, Bool.or_true]
      · simp [h]
    · simp only [hk, if_false, Bool.false_eq_true, removeRecord, State.onTickets]
      refine List.filter_congr fun q hq => ?_
      by_cases h : q.number = t
      · rw [hunique hq h, Bool.eq_false_iff.2 hk, Bool.or_false]
      · simp [h]

theorem filterEach_table : ∀ (l : List TicketNo) (s : State), (s.tickets.table.map Record.number).Nodup →
    (l.foldl (fun s t => applyFilter t s) s).tickets.table =
      s.tickets.table.filter (fun r => decide (r.number ∉ l) || (r.custody.isOwn || s.keeps r))
  | [], s, _ => (List.filter_eq_self.2 fun r _ => by simp).symm
  | t :: l, s, hn => by
    have hkeeps : (applyFilter t s).keeps = s.keeps := by rw [applyFilter_shape]; rfl
    have hsub : ((applyFilter t s).tickets.table.map Record.number).Nodup := by
      rw [applyFilter_table hn]
      exact hn.sublist (List.filter_sublist.map _)
    rw [List.foldl_cons, filterEach_table l _ hsub, applyFilter_table hn, List.filter_filter, hkeeps]
    refine List.filter_congr fun r _ => ?_
    by_cases h : r.number = t
    · subst h
      by_cases h' : r.number ∈ l <;> simp [h']
    · simp [h]

theorem filterEach_shape : ∀ (l : List TicketNo) (s : State), l.foldl (fun s t => applyFilter t s) s =
    { s with tickets := { s.tickets with
        table := (l.foldl (fun s t => applyFilter t s) s).tickets.table
        cursor := (l.foldl (fun s t => applyFilter t s) s).tickets.cursor } }
  | [], _ => rfl
  | t :: l, s => by
    rw [List.foldl_cons, filterEach_shape l (applyFilter t s)]
    rw [applyFilter_shape t s]

theorem filterAll_shape (s : State) : filterAll s =
    { s with tickets := { s.tickets with table := (filterAll s).tickets.table, cursor := (filterAll s).tickets.cursor } } :=
  filterEach_shape _ s

theorem filterAll_tickets (s : State) : filterAll s = { s with tickets := (filterAll s).tickets } :=
  (filterAll_shape s).trans (congrArg (fun k => { s with tickets := k }) (congrArg State.tickets (filterAll_shape s)).symm)

theorem filterAll_table {s : State} (hn : (s.tickets.table.map Record.number).Nodup) :
    (filterAll s).tickets.table = s.tickets.table.filter (fun r => r.custody.isOwn || decide (s.roleKeeps r)) := by
  rw [filterAll, filterEach_table _ s hn]
  refine List.filter_congr fun r hr => ?_
  have hmem : r.number ∈ s.tickets.table.map Record.number := List.mem_map_of_mem hr
  have hkeeps : s.keeps r = decide (s.roleKeeps r) := by rw [Bool.eq_iff_iff, s.keeps_iff]; simp
  simp only [hmem, not_true_eq_false, decide_false, Bool.false_or, hkeeps]

/-- The state under another override, nothing else changed yet. -/
def State.withOverride (override : Option (Nat × Role)) (s : State) : State :=
  { s with identity := { s.identity with override := override } }

/-- The register settled and the last writers renamed under the new identity. -/
def identityRenamed (override : Option (Nat × Role)) (s : State) : State :=
  claimRegister (renameWriter s.myId (s.withOverride override).myId (s.withOverride override))

theorem identityRenamed_eq (override : Option (Nat × Role)) (s : State) :
    identityRenamed override s = { s.withOverride override with tickets := (identityRenamed override s).tickets } := by
  rw [identityRenamed, claimRegister_eq, renameWriter_eq]

/-- The ticket store under the new identity, before the link joins again. -/
def identityTickets (override : Option (Nat × Role)) (s : State) : Tickets :=
  if (s.withOverride override).role = s.role then (identityRenamed override s).tickets
  else (filterAll (identityRenamed override s)).tickets

theorem changeIdentity_idle {s : State} (hw : s.weigh = none) (hp : s.payOp = none) (override : Option (Nat × Role)) :
    changeIdentity override s = { s.withOverride override with
      tickets := (identityTickets override s).marked (s.withOverride override).myId s.link.burstBroken
      scale := s.scale.onRole s.hasWeigh (s.withOverride override).hasWeigh
      weighTimer := .start
      payTimer := .start
      link := { s.link with
        state := .joining, restartOwed := true, undelivered := 0, wire := none, probe := none
        joinTimer := if (s.withOverride override).identity.inForce = none then none else some 500
        announceTimer := none, upAlone := none, contexts := []
        roster := s.link.roster.filter (fun p => decide (p.id ≠ (s.withOverride override).myId))
        queue := (s.link.queue.filter QueueItem.isKept).map (fun i =>
          { i with onWire := false, attempts := 0, timeout := none, timedOut := false }) } } := by
  have hkept : (if (identityRenamed override s).role = s.role then identityRenamed override s
      else filterAll (identityRenamed override s)) = { s.withOverride override with tickets := identityTickets override s } := by
    have hrole : (identityRenamed override s).role = (s.withOverride override).role := by rw [identityRenamed_eq]; rfl
    rw [hrole, identityTickets]
    split
    · exact identityRenamed_eq override s
    · exact (filterAll_tickets _).trans (congrArg
        (fun z : State => { z with tickets := (filterAll (identityRenamed override s)).tickets }) (identityRenamed_eq override s))
  have hunfold : changeIdentity override s = (rejoin { (if (identityRenamed override s).role = s.role then identityRenamed override s
      else filterAll (identityRenamed override s)).onScale (ScaleUnit.onRole s.hasWeigh
        (if (identityRenamed override s).role = s.role then identityRenamed override s
          else filterAll (identityRenamed override s)).hasWeigh) with weighTimer := .start, payTimer := .start }).onLink
      (fun l => { l with roster := l.roster.filter (fun p => decide (p.id ≠ (if (identityRenamed override s).role = s.role
        then identityRenamed override s else filterAll (identityRenamed override s)).myId)) }) := rfl
  rw [hunfold, hkept, rejoin_idle (by exact hw) (by exact hp)]
  rfl

theorem identityRenamed_store (override : Option (Nat × Role)) (s : State) : (identityRenamed override s).tickets =
    { s.tickets with
      table := s.tickets.table.map (fun r => if r.lastWriter = s.myId ∧ s.myId ≠ 0 ∧ (s.withOverride override).myId ≠ 0
        then { r with lastWriter := (s.withOverride override).myId } else r)
      register := if (s.withOverride override).myId = 0 ∨ s.tickets.owner = (s.withOverride override).myId
        then s.tickets.register else []
      owner := if (s.withOverride override).myId = 0 ∨ s.tickets.owner = (s.withOverride override).myId
        then s.tickets.owner else (s.withOverride override).myId
      nextSerial := if (s.withOverride override).myId = 0 ∨ s.tickets.owner = (s.withOverride override).myId
        then s.tickets.nextSerial else 1 } := by
  rw [identityRenamed, claimRegister_eq, renameWriter_eq]
  by_cases h : (s.withOverride override).myId = 0 ∨ s.tickets.owner = (s.withOverride override).myId
  · simp only [h, if_true]
    exact if_pos h
  · simp only [h, if_false]
    exact if_neg h

/-- Only table and cursor depend on the role. -/
theorem identityTickets_store (override : Option (Nat × Role)) (s : State) : identityTickets override s =
    { (identityRenamed override s).tickets with
      table := (identityTickets override s).table, cursor := (identityTickets override s).cursor } := by
  unfold identityTickets
  split
  · rfl
  · exact congrArg State.tickets (filterAll_shape _)

/-- The records renamed, and with a new role those that the two tests keep. -/
theorem identityTickets_table {override : Option (Nat × Role)} {s : State} (hn : (s.tickets.table.map Record.number).Nodup) :
    (identityTickets override s).table =
      if (s.withOverride override).role = s.role then (identityRenamed override s).tickets.table
      else (identityRenamed override s).tickets.table.filter
        (fun r => r.custody.isOwn || decide ((s.withOverride override).roleKeeps r)) := by
  have hnumbers : (identityRenamed override s).tickets.table.map Record.number = s.tickets.table.map Record.number := by
    rw [identityRenamed_store]
    simp only [List.map_map]
    refine List.map_congr_left fun r _ => ?_
    simp only [Function.comp]
    split <;> rfl
  have hkeeps (r : Record) : (identityRenamed override s).roleKeeps r ↔ (s.withOverride override).roleKeeps r := by
    rw [identityRenamed_eq]
    rfl
  unfold identityTickets
  split
  · rfl
  · rw [filterAll_table (by rw [hnumbers]; exact hn)]
    exact List.filter_congr fun r _ => by rw [decide_eq_decide.2 (hkeeps r)]

end Sys2Proof.Machine

open Sys2Proof Sys2Proof.Machine

/-- Settles O15: the new identity's tickets and link by `changeIdentity_idle`. -/
theorem setIdentity : Obligations.SetIdentity := by
  intro x r s ht ho
  have hanswer {u : State} {bs : List Byte}
      (hb : (if (s.accepted 2).slotBusy .weigh || (s.accepted 2).slotBusy .pay then reply .busy (s.accepted 2)
        else withParams (readTwo 1 1 [x, r]) (fun p s =>
          if p.1 = 0 then okWith (identityBytes (changeIdentity none s).identity.inForce) (changeIdentity none s)
          else
            match decide (p.1 ≤ 15), roleOf p.2 with
            | true, some r =>
              okWith (identityBytes (changeIdentity (some (p.1, r)) s).identity.inForce) (changeIdentity (some (p.1, r)) s)
            | _, _ => reply .range s) (s.accepted 2)) = (u, bs)) :
      exec (.setIdentity [x, r]) s = .next (u.answered bs) :=
    command_answers (ps := [x, r]) ht (by decide : 10 ∈ commandCodes) (whileClosed_refusal ho (by simp)) hb
  have hread : readTwo 1 1 [x, r] = some (x.toNat, r.toNat) := by simp [readTwo]
  have hbusy : ((s.accepted 2).slotBusy .weigh || (s.accepted 2).slotBusy .pay) = (s.weigh.isSome || s.payOp.isSome) := by
    rw [State.accepted_slotBusy, State.accepted_slotBusy]
    rfl
  have hzero : x.toNat = 0 ↔ x = 0 := by rw [← BitVec.toNat_inj]; rfl
  have hrole (h1 : 1 ≤ r.toNat) (h3 : r.toNat ≤ 3) : ∃ role, roleOf r.toNat = some role ∧ role.code = r.toNat := by
    have : r.toNat = 1 ∨ r.toNat = 2 ∨ r.toNat = 3 := by omega
    rcases this with h | h | h <;> rw [h] <;> exact ⟨_, rfl, rfl⟩
  refine ⟨fun hwork => hanswer ?_, fun hw hp hx hr => hanswer ?_, fun hw hp hx => ?_⟩
  · rw [hbusy, if_pos (by simpa [Option.isSome_iff_ne_none] using hwork)]
    rfl
  · rw [hbusy, if_neg (by simp [hw, hp]), hread, withParams, if_neg (by rwa [hzero])]
    have hnone (h : r.toNat = 0 ∨ 3 < r.toNat) : roleOf r.toNat = none := by
      unfold roleOf
      split <;> simp_all
    rcases hr with h | h
    · simp only [decide_eq_false (Nat.not_le.2 h)]
      rfl
    · simp only [hnone h]
      cases decide (x.toNat ≤ 15) <;> rfl
  · obtain ⟨override, hov, hexec⟩ : ∃ override : Option (Nat × Role),
        override.map (fun o => (o.1, o.2.code)) = (if x = 0 then none else some (x.toNat, r.toNat)) ∧
        exec (.setIdentity [x, r]) s = .next (State.answered (1 :: identityBytes (changeIdentity override (s.accepted 2)).identity.inForce)
          (changeIdentity override (s.accepted 2))) := by
      by_cases h0 : x = 0
      · refine ⟨none, by rw [if_pos h0]; rfl, hanswer ?_⟩
        rw [hbusy, if_neg (by simp [hw, hp]), hread, withParams, if_pos (hzero.2 h0)]
        rfl
      · obtain ⟨h15, h1, h3⟩ := hx.resolve_left h0
        obtain ⟨role, hr, hcode⟩ := hrole h1 h3
        refine ⟨some (x.toNat, role), by rw [if_neg h0, Option.map_some, hcode], hanswer ?_⟩
        rw [hbusy, if_neg (by simp [hw, hp]), hread, withParams, if_neg (by rwa [hzero])]
        simp only [hr, h15, decide_true]
        rfl
    obtain ⟨p, hshape⟩ := s.accepted_shape 2
    obtain ⟨a, ha⟩ : ∃ a, a = s.accepted 2 := ⟨_, rfl⟩
    rw [← ha] at hexec hshape
    have hchanged := changeIdentity_idle (s := a) (by rw [hshape]; exact hw) (by rw [hshape]; exact hp) override
    have hstore := identityTickets_store override a
    have hrenamed := identityRenamed_store override a
    have htable := fun hn => identityTickets_table (override := override) (s := a) hn
    obtain ⟨t, ht'⟩ : ∃ t, t = changeIdentity override a := ⟨_, rfl⟩
    rw [← ht'] at hexec hchanged
    have hself : (a.withOverride override).myId = t.myId := by rw [hchanged]; rfl
    have hrole' : (a.withOverride override).role = t.role := by rw [hchanged]; rfl
    have hweigh : (a.withOverride override).hasWeigh = t.hasWeigh := by rw [hchanged]; rfl
    have htickets : t.tickets = (identityTickets override a).marked t.myId s.link.burstBroken := by
      rw [← hself, hchanged, hshape]
    have hold : a.myId = s.myId ∧ a.role = s.role ∧ a.tickets = s.tickets := by rw [hshape]; exact ⟨rfl, rfl, rfl⟩
    obtain ⟨hself', hrole'', htickets'⟩ := hold
    rw [hself, hself', htickets'] at hrenamed
    have hclosed : t.tickets.closed = s.tickets.closed := by rw [htickets, Tickets.marked, hstore, hrenamed]
    have howner : t.tickets.owner = if t.myId = 0 ∨ s.tickets.owner = t.myId then s.tickets.owner else t.myId := by
      rw [htickets, Tickets.marked, hstore, hrenamed]
    have hregister : t.tickets.register = if t.myId = 0 ∨ s.tickets.owner = t.myId then s.tickets.register else [] := by
      rw [htickets, Tickets.marked, hstore, hrenamed]
    have hserial : t.tickets.nextSerial = if t.myId = 0 ∨ s.tickets.owner = t.myId then s.tickets.nextSerial else 1 := by
      rw [htickets, Tickets.marked, hstore, hrenamed]
    have hscale : t.scale = s.scale.onRole s.hasWeigh t.hasWeigh := by
      rw [← hweigh, hchanged, hshape]
      rfl
    have hlinked : t.link = { s.link with
          state := .joining, restartOwed := true, undelivered := 0, wire := none, probe := none
          joinTimer := if t.identity.inForce = none then none else some 500
          announceTimer := none, upAlone := none, contexts := []
          roster := s.link.roster.filter (fun p => decide (p.id ≠ t.myId))
          queue := (s.link.queue.filter QueueItem.isKept).map (fun i =>
              { i with onWire := false, attempts := 0, timeout := none, timedOut := false }) } := by
      rw [← hself, hchanged, hshape]
    refine ⟨t, ?_, ?_, ?_, ?_, ?_, ?_, ?_, ?_, ?_, hclosed, fun h0 => ?_, fun h0 h1 => ?_, fun h => ?_, ?_, ?_, ?_, ?_, fun hn => ?_⟩
    · rw [hexec]
      cases t.identity.inForce <;> rfl
    · rw [hchanged, hshape]; rfl
    · rw [← hov, hchanged]; rfl
    · rw [hchanged, hshape]; rfl
    · rw [hchanged, hshape]; rfl
    · rw [hchanged, hshape]; rfl
    · rw [hchanged, hshape]; rfl
    · rw [hchanged, hshape]; rfl
    · rw [hchanged, hshape]; rfl
    · rw [howner]
      split
      · rename_i h
        exact h.resolve_left h0
      · rfl
    · have hnew : ¬ (t.myId = 0 ∨ s.tickets.owner = t.myId) := fun hc => hc.elim h0 fun h => h1 h.symm
      rw [hregister, hserial, if_neg hnew, if_neg hnew]
      exact ⟨rfl, rfl⟩
    · have hsame : t.myId = 0 ∨ s.tickets.owner = t.myId := h.imp_right Eq.symm
      rw [hregister, hserial, if_pos hsame, if_pos hsame]
      exact ⟨rfl, rfl⟩
    · rw [hchanged]; rfl
    · rw [hchanged]; rfl
    · rw [hlinked]
      refine congrArg (fun keep => ({ s.link with
          state := .joining, restartOwed := true, undelivered := 0, wire := none, probe := none
          joinTimer := if t.identity.inForce = none then none else some 500
          announceTimer := none, upAlone := none, contexts := []
          roster := s.link.roster.filter (fun p => decide (p.id ≠ t.myId))
          queue := (s.link.queue.filter keep).map (fun i =>
              { i with onWire := false, attempts := 0, timeout := none, timedOut := false }) } : Link)) (funext fun i => ?_)
      cases hb : i.burst with
      | none => rw [QueueItem.isKept_frame hb]
      | some n => rw [QueueItem.isKept_burst hb]
    · rw [hscale, ScaleUnit.onRole]
      rfl
    · intro renamed failed
      have hkeeps (q : Record) : decide ((a.withOverride override).roleKeeps q) = decide (t.roleKeeps q) := by
        rw [decide_eq_decide, hchanged]
        rfl
      have hkept : (identityTickets override a).table = if t.role = s.role then renamed
          else renamed.filter (fun q => q.custody.isOwn || decide (t.roleKeeps q)) := by
        have h := htable (by rw [htickets']; exact hn)
        rw [hrenamed, hrole''] at h
        simp only [hrole', hkeeps] at h
        exact h
      have htable' : t.tickets.table = _ := congrArg Tickets.table htickets
      rw [htable', Tickets.marked, hkept]
      rfl

end

section
/-! How an operation of a slot ends: its slot closed, its hold given back. And what a sample does, with ZERO's window, silence
and the capture timer. -/

namespace Sys2Proof.Machine

/-! ### The slot closes (R39, R45, R115, R156, R166) -/

theorem closeSlot_weigh {o : WeighOp} {s : State} (h : s.weigh = some o) (p : Phase) : closeSlot .weigh p s =
    { s with
      weigh := none
      scale := { s.scale with context := none }
      weighTimer := if o.target.isSome then { s.weighTimer with phase := p, count := none } else s.weighTimer } := by
  unfold closeSlot
  simp only [h]
  split <;> rfl

/-- The print queue without a placeholder. -/
def Printer.withoutJob (n : Option Nat) (p : Printer) : Printer :=
  { p with jobs := match n with
      | some n => p.jobs.filter (fun j => decide (j.number ≠ n))
      | none => p.jobs }

theorem Printer.withoutJob_none (p : Printer) : p.withoutJob none = p := rfl

theorem closeSlot_pay {o : PayOp} {s : State} (h : s.payOp = some o) (p : Phase) : closeSlot .pay p s =
    { s with
      payOp := none
      payTimer := { s.payTimer with phase := p, count := none }
      printer := s.printer.withoutJob o.placeholder } := by
  unfold closeSlot
  simp only [h]
  cases o.placeholder <;> rfl

/-! ### The closing place (R51) -/

/-- The transmit queue once a slot's closing place, where it has one, is taken by a frame. -/
def Link.closing (has : Bool) (f : Frame) (l : Link) : Link :=
  { l with queue := if has = true then placed (.single f) l.queue else l.queue }

theorem sendOnClosing_weigh {o : WeighOp} {s : State} (h : s.weigh = some o) (f : Frame) : sendOnClosing .weigh f s =
    { s with weigh := some { o with closing := false }, link := s.link.closing o.closing f } := by
  cases hc : o.closing with
  | true => simp [sendOnClosing, State.closingHeld, h, hc, enqueue, setClosing, State.onWeigh, State.onLink, Link.closing]
  | false =>
    have ho : ({ o with closing := false } : WeighOp) = o := by rw [← hc]
    simp only [sendOnClosing, State.closingHeld, h, hc, Bool.false_eq_true, if_false, Link.closing, ho]
    rw [← h]

theorem sendOnClosing_pay {o : PayOp} {s : State} (h : s.payOp = some o) (f : Frame) : sendOnClosing .pay f s =
    { s with payOp := some { o with closing := false }, link := s.link.closing o.closing f } := by
  cases hc : o.closing with
  | true => simp [sendOnClosing, State.closingHeld, h, hc, enqueue, setClosing, State.onPay, State.onLink, Link.closing]
  | false =>
    have ho : ({ o with closing := false } : PayOp) = o := by rw [← hc]
    simp only [sendOnClosing, State.closingHeld, h, hc, Bool.false_eq_true, if_false, Link.closing, ho]
    rw [← h]

/-! ### A hold is given back (R12, R17, R52) -/

theorem modifyRecord_shape (t : TicketNo) (f : Record → Record) (s : State) :
    modifyRecord t f s = { s with tickets := (modifyRecord t f s).tickets } := rfl

theorem setCustody_shape (t : TicketNo) (c : Custody) (s : State) :
    setCustody t c s = { s with tickets := (setCustody t c s).tickets } := by
  unfold setCustody
  split
  · rfl
  · dsimp only
    split
    · rw [applyFilter_shape]
      rfl
    · rfl

theorem modifyEntry_shape (t : TicketNo) (f : RegEntry → RegEntry) (s : State) :
    modifyEntry t f s = { s with tickets := (modifyEntry t f s).tickets } := by
  unfold modifyEntry
  split <;> rfl

/-- Custody leaves this station's slots, and the register entry takes its holder. -/
theorem handOver_eq {t : TicketNo} {c : Custody} {r : Record} {s : State} (h : Nat) (hf : s.findRecord t = some r)
    (ho : r.custody.isOwn = true) (hc : c.isOwn = false) :
    setHolder t h (setCustody t c s) = { s with tickets := s.tickets.handedOver r c h (s.roleKeeps r) } := by
  rw [← handedOver_tickets h hf ho hc, setHolder, modifyEntry_shape]
  exact congrArg (fun u : State =>
    { u with tickets := (modifyEntry t (fun e => { e with holder := h }) (setCustody t c s)).tickets }) (setCustody_shape t c s)

theorem releaseHold_weigh {o : WeighOp} {t : TicketNo} {r : Record} {s : State} (hw : s.weigh = some o)
    (hf : s.findRecord t = some r) (ho : r.custody.isOwn = true) : releaseHold .weigh t s =
      { s with
        weigh := some { o with closing := false }
        link := s.link.closing o.closing (.release t)
        tickets := s.tickets.handedBack r (s.roleKeeps r) } := by
  rw [releaseHold, sendOnClosing_weigh hw, handOver_eq 0 (by exact hf) ho rfl]
  rfl

theorem releaseHold_pay {o : PayOp} {t : TicketNo} {r : Record} {s : State} (hp : s.payOp = some o)
    (hf : s.findRecord t = some r) (ho : r.custody.isOwn = true) : releaseHold .pay t s =
      { s with
        payOp := some { o with closing := false }
        link := s.link.closing o.closing (.release t)
        tickets := s.tickets.handedBack r (s.roleKeeps r) } := by
  rw [releaseHold, sendOnClosing_pay hp, handOver_eq 0 (by exact hf) ho rfl]
  rfl

/-- A weigh slot's operation ends and gives its hold back, before its DONE notice. -/
def State.weighReleased (o : WeighOp) (r : Record) (s : State) : State :=
  { s with
    weigh := none
    scale := { s.scale with context := none }
    weighTimer := { s.weighTimer with phase := .ended, count := none }
    link := s.link.closing o.closing (.release r.number)
    tickets := s.tickets.handedBack r (s.roleKeeps r) }

/-- The same in the pay slot. -/
def State.payReleased (o : PayOp) (r : Record) (s : State) : State :=
  { s with
    payOp := none
    payTimer := { s.payTimer with phase := .ended, count := none }
    printer := s.printer.withoutJob o.placeholder
    link := s.link.closing o.closing (.release r.number)
    tickets := s.tickets.handedBack r (s.roleKeeps r) }

theorem findRecord_number {t : TicketNo} {r : Record} {s : State} (h : s.findRecord t = some r) : r.number = t := by
  simpa using List.find?_some h

theorem endHold_weigh {o : WeighOp} {t : TicketNo} {r : Record} {s : State} (hw : s.weigh = some o) (ht : o.target = some t)
    (hf : s.findRecord t = some r) (ho : r.custody.isOwn = true) (outcome : Result) (loss : Option LossReason) (holder : Nat) :
    endHold .weigh t outcome loss holder s =
      postNotice (.done .weigh outcome (some t) loss holder 0) (s.weighReleased o r) := by
  have hslot : ({ s with weigh := some { o with closing := false }, link := s.link.closing o.closing (.release t)
                         tickets := s.tickets.handedBack r (s.roleKeeps r) } : State).slotTicket .weigh = some t := ht
  rw [endHold, releaseHold_weigh hw hf ho, endOp, hslot, closeSlot_weigh (o := { o with closing := false }) (by rfl),
    State.weighReleased, findRecord_number hf]
  simp only [ht, Option.isSome_some, if_true]

theorem endHold_pay {o : PayOp} {t : TicketNo} {r : Record} {s : State} (hp : s.payOp = some o) (ht : o.target = t)
    (hf : s.findRecord t = some r) (ho : r.custody.isOwn = true) (outcome : Result) (loss : Option LossReason) (holder : Nat) :
    endHold .pay t outcome loss holder s =
      postNotice (.done .pay outcome (some t) loss holder 0) (s.payReleased o r) := by
  have hslot : ({ s with payOp := some { o with closing := false }, link := s.link.closing o.closing (.release t)
                         tickets := s.tickets.handedBack r (s.roleKeeps r) } : State).slotTicket .pay = some t := by
    rw [← ht]
    rfl
  rw [endHold, releaseHold_pay hp hf ho, endOp, hslot, closeSlot_pay (o := { o with closing := false }) (by rfl),
    State.payReleased, findRecord_number hf]

/-- An operation without a ticket ends: a NEW TICKET or a ZERO. -/
theorem endOp_weigh_ticketless {o : WeighOp} {s : State} (hw : s.weigh = some o) (ht : o.target = none) (outcome : Result)
    (loss : Option LossReason) (holder : Nat) : endOp .weigh outcome loss holder s =
      postNotice (.done .weigh outcome none loss holder 0) { s with weigh := none, scale := { s.scale with context := none } } := by
  have hslot : s.slotTicket .weigh = none := by rw [State.slotTicket, hw]; exact ht
  rw [endOp, hslot, closeSlot_weigh hw]
  simp only [ht, Option.isSome_none, Bool.false_eq_true, if_false]

theorem failCapture_ticketless {o : WeighOp} {s : State} (hw : s.weigh = some o) (ht : o.target = none) (outcome : Result) :
    failCapture outcome s =
      postNotice (.done .weigh outcome none none 0 0) { s with weigh := none, scale := { s.scale with context := none } } := by
  have hslot : s.slotTicket .weigh = none := by rw [State.slotTicket, hw]; exact ht
  rw [← endOp_weigh_ticketless hw ht]
  simp only [failCapture, hslot]

theorem failCapture_ticket {t : TicketNo} {s : State} (h : s.slotTicket .weigh = some t) (outcome : Result) :
    failCapture outcome s = endHold .weigh t outcome none 0 s := by
  simp only [failCapture, h]

theorem failCapture_held {o : WeighOp} {r : Record} {s : State} (hw : s.weigh = some o) (ht : o.target = some r.number)
    (hf : s.findRecord r.number = some r) (ho : r.custody.isOwn = true) (outcome : Result) :
    failCapture outcome s = postNotice (.done .weigh outcome (some r.number) none 0 0) (s.weighReleased o r) := by
  have hslot : s.slotTicket .weigh = some r.number := by rw [State.slotTicket, hw]; exact ht
  rw [← endHold_weigh hw ht hf ho]
  simp only [failCapture, hslot]

/-! ### Samples (R28 to R31) -/

theorem exec_sample {st : SampleStatus} {raw : Int} {s : State} (hp : s.powered = true) (hw : s.hasWeigh = true)
    (h1 : -99999 ≤ raw) (h2 : raw ≤ 199999) : exec (.sampleMessage st raw) s = .next (settle (sample st raw s)) :=
  congrArg _ ((if_pos hp).trans (congrArg settle (if_pos ⟨hw, h1, h2⟩)))

/-- The deck is clear with this sample or was so before (R31). -/
def State.deckClearWith (raw : Int) (s : State) : Bool :=
  if raw - s.scale.zero ≤ (s.settings.clearThreshold * s.settings.division : Int) then true else s.scale.deckClear

/-- An OK sample that is no overload goes into the window as good. -/
theorem sample_ok_good {raw : Int} {s : State}
    (h : raw - s.scale.zero ≤ (s.settings.capacity + 9 * s.settings.division : Int)) : sample .ok raw s =
      windowStep ⟨raw, true⟩ { s with scale := { s.sampled .ok raw with deckClear := s.deckClearWith raw } } := by
  have hover : isOverloaded s.settings.toScaleItems .ok (raw - s.scale.zero) = false := by
    simp only [isOverloaded, decide_eq_false_iff_not]
    omega
  simp only [sample, takeSample_eq, weighSample, State.sampled_zero, State.sampled_inForce, hover, Bool.false_eq_true, if_false,
    true_and, decide_true, Bool.not_false, Bool.and_true, State.deckClearWith, Int.natCast_mul]
  split <;> rfl

theorem postNotice_onScale (n : Notice) (g : ScaleUnit → ScaleUnit) (s : State) :
    (postNotice n s).onScale g = postNotice n (s.onScale g) := by
  rcases Nat.lt_or_ge s.notices.queue.length 16 with h | h
  · rw [postNotice_room h, postNotice_room (by exact h)]
    rfl
  · rw [postNotice_full h, postNotice_full (by exact h)]
    rfl

/-- Latching an event flag leaves the scale unit to itself. -/
theorem latchEvent_onScale (f : Flag) (d : Detail) (g : ScaleUnit → ScaleUnit) (s : State) :
    (latchEvent f d s).onScale g = latchEvent f d (s.onScale g) := by
  by_cases h : (!s.latched f || decide (f = .conflict)) = true
  · have hs : latchEvent f d s = postNotice (.flag f d) (s.setFlag f ((s.flag f).grown d)) := if_pos h
    have ht : latchEvent f d (s.onScale g) = postNotice (.flag f d) ((s.onScale g).setFlag f ((s.flag f).grown d)) := if_pos h
    rw [hs, ht, postNotice_onScale]
    rfl
  · have hs : latchEvent f d s = s.setFlag f ((s.flag f).grown d) := if_neg h
    have ht : latchEvent f d (s.onScale g) = (s.onScale g).setFlag f ((s.flag f).grown d) := if_neg h
    rw [hs, ht]
    rfl

/-- Latching an event flag changes flags and notices, one notice at most joining the queue. -/
theorem latchEvent_shape (f : Flag) (d : Detail) (s : State) : ∃ flags notices,
    latchEvent f d s = { s with flags := flags, notices := notices } ∧ (flags.get f).latched = true ∧
      notices.queue.length ≤ s.notices.queue.length + 1 := by
  have hposts := latchEvent_posts f d s
  refine ⟨_, _, hposts.shape, ?_, hposts.length⟩
  have hgrown : ((s.setFlag f ((s.flag f).grown d)).flag f).latched = true := by
    simp [State.setFlag, State.flag, grown_latched]
  simp only [latchEvent]
  split
  · exact (postNotice_posts _ _).latched f hgrown
  · exact hgrown

/-- An OK sample beyond the overload limit latches OVERLOAD and goes into the window as not good (R30). -/
theorem sample_ok_over {raw : Int} {s : State}
    (h : (s.settings.capacity + 9 * s.settings.division : Int) < raw - s.scale.zero) : sample .ok raw s =
      windowStep ⟨raw, false⟩ (latchEvent .overload (.overload .net (raw - s.scale.zero))
        { s with scale := { s.sampled .ok raw with deckClear := s.deckClearWith raw } }) := by
  have hover : isOverloaded s.settings.toScaleItems .ok (raw - s.scale.zero) = true := by
    simp only [isOverloaded, decide_eq_true_eq]
    omega
  have hlatch (d : Bool) : latchEvent .overload (.overload .net (raw - s.scale.zero))
        { s with scale := { s.sampled .ok raw with deckClear := d } } =
      (latchEvent .overload (.overload .net (raw - s.scale.zero)) { s with scale := s.sampled .ok raw }).onScale
        (fun u => { u with deckClear := d }) :=
    (latchEvent_onScale _ _ (fun u => { u with deckClear := d }) { s with scale := s.sampled .ok raw }).symm
  obtain ⟨flags, notices, hl, -⟩ := latchEvent_shape .overload (.overload .net (raw - s.scale.zero))
    { s with scale := s.sampled .ok raw }
  rw [hlatch, hl]
  simp only [sample, takeSample_eq, weighSample, State.sampled_zero, State.sampled_inForce, hover, if_true, reduceCtorEq, if_false,
    true_and, decide_true, Bool.not_true, Bool.and_false, State.deckClearWith, Int.natCast_mul, hl]
  split <;> rfl

/-- A sample of status OVERLOAD latches the flag and goes into the window as not good (R30). -/
theorem sample_overload (raw : Int) (s : State) : sample .overload raw s =
    windowStep ⟨raw, false⟩ (latchEvent .overload (.overload .status (raw - s.scale.zero))
      { s with scale := s.sampled .overload raw }) := by
  simp [sample, takeSample_eq, weighSample, isOverloaded]

theorem sample_fault {st : SampleStatus} (h : st = .cellFault ∨ st = .converterFault) (raw : Int) (s : State) :
    sample st raw s = faultCapture (latchEvent .scaleFault (.scale (if st = .cellFault then .cellFault else .converterFault))
      { s with scale := s.sampled st raw }) := by
  rcases h with rfl | rfl <;> rfl

theorem windowStep_none {s : State} (h : s.scale.context = none) (w : WindowSample) : windowStep w s = s := by
  simp [windowStep, h]

/-! ### The window (R35) -/

theorem windowWith_length {raw : Int} {good : Bool} {c : CaptureContext} {s : State}
    (h : s.settings.windowLength ≤ c.window.length + 1) : (s.windowWith raw good c).length = s.settings.windowLength := by
  simp only [State.windowWith, List.length_drop, List.length_append, List.length_singleton]
  omega

/-- A window that is short, holds a sample that is not good, or spreads too far does not pass. -/
theorem windowPasses_false {m band : Nat} {l : List WindowSample} (h : l.length < m ∨ (∃ x ∈ l, x.good = false) ∨
    (∃ x ∈ l, ∃ y ∈ l, (band : Int) < x.raw - y.raw)) : windowPasses m band l = false := by
  rcases Classical.em (l = []) with rfl | hne
  · rfl
  · rw [Bool.eq_false_iff]
    intro hpass
    obtain ⟨hlength, hgood, hband⟩ := (windowPasses_iff m band l hne).1 hpass
    rcases h with h | ⟨x, hx, hbad⟩ | ⟨x, hx, y, hy, hfar⟩
    · omega
    · exact Bool.false_ne_true (hbad.symm.trans (hgood x hx))
    · have := hband x hx y hy
      omega

/-- A sample that is not good stands at the end of the window, where the window holds any. -/
theorem windowPasses_bad (m band : Nat) (raw : Int) (l : List WindowSample) :
    windowPasses m band (slide m ⟨raw, false⟩ l) = false := by
  rcases Nat.eq_zero_or_pos m with rfl | hm
  · have hnil : slide 0 ⟨raw, false⟩ l = [] := by simp [slide]
    rw [hnil]
    rfl
  · refine windowPasses_false (.inr (.inl ⟨⟨raw, false⟩, ?_, rfl⟩))
    rw [slide, List.drop_append_of_le_length (by omega)]
    simp

/-- A latch before a window step that does not pass: only the window changes besides. -/
theorem windowStep_latched {f : Flag} {d : Detail} {raw : Int} {c : CaptureContext} {s : State} (hc : s.scale.context = some c) :
    windowStep ⟨raw, false⟩ (latchEvent f d s) = latchEvent f d { s with scale := { s.scale with
      context := some { c with window := slide s.scale.inForce.windowLength ⟨raw, false⟩ c.window } } } := by
  have hscale : (latchEvent f d s).scale = s.scale := by simp
  have hshort := windowStep_short ⟨raw, false⟩ c (latchEvent f d s) (by rw [hscale]; exact hc)
    (by rw [hscale]; exact windowPasses_bad _ _ _ _)
  rw [hshort, latchEvent_onScale, hscale]
  rfl

theorem windowPasses_of_completes {raw : Int} {c : CaptureContext} {s : State} (h : s.windowCompletes raw c) :
    windowPasses s.settings.windowLength s.settings.motionBand (s.windowWith raw true c) = true := by
  obtain ⟨-, -, -, -, -, -, hpos, hfull, hgood, hband⟩ := h
  have hlength := windowWith_length (raw := raw) (good := true) hfull
  have hne : s.windowWith raw true c ≠ [] := by
    intro h
    rw [h] at hlength
    simp at hlength
    omega
  exact (windowPasses_iff _ _ _ hne).2 ⟨Nat.le_of_eq hlength.symm, hgood, hband⟩

theorem windowStep_zeroing {w : WindowSample} {c : CaptureContext} {s : State} (hc : s.scale.context = some c)
    (hk : c.kind = .zeroing) (hp : windowPasses s.scale.inForce.windowLength s.scale.inForce.motionBand
      (slide s.scale.inForce.windowLength w c.window) = true) :
    windowStep w s = finishZero (windowSum (slide s.scale.inForce.windowLength w c.window)) s := by
  simp only [windowStep, hc, hp, hk, if_true]

theorem windowStep_capture {w : WindowSample} {c : CaptureContext} {target : Target} {s : State} (hc : s.scale.context = some c)
    (hk : c.kind = .capture target) (hp : windowPasses s.scale.inForce.windowLength s.scale.inForce.motionBand
      (slide s.scale.inForce.windowLength w c.window) = true) : windowStep w s =
      if deckAllows s.scale target = true
      then finishCapture target (windowSum (slide s.scale.inForce.windowLength w c.window)) s
      else s.onScale (fun u => { u with
        context := some { c with window := slide s.scale.inForce.windowLength w c.window, stableSeen := true } }) := by
  simp only [windowStep, hc, hp, hk, if_true]

theorem deckAllows_iff {u : ScaleUnit} {target : Target} :
    deckAllows u target = true ↔ u.deckClear = true ∨ (target ≠ .newTicket ∧ u.captured = some target) := by
  simp [deckAllows]

/-- The sample that completes a window: the state its outcome starts from. -/
theorem sample_completes {raw : Int} {c : CaptureContext} {s : State} (h : s.windowCompletes raw c) :
    exec (.sampleMessage .ok raw) s = .next (settle (windowStep ⟨raw, true⟩
      { s with scale := { s.sampled .ok raw with deckClear := s.deckClearWith raw } })) := by
  obtain ⟨hp, hw, h1, h2, hnet, -⟩ := h
  rw [exec_sample hp hw h1 h2, sample_ok_good hnet]

/-- A fault sample or a silence ends the capture, where one is in progress. -/
theorem faultCapture_none {s : State} (h : s.scale.context = none) : faultCapture s = s := by
  simp [faultCapture, h]

theorem faultCapture_some {c : CaptureContext} {s : State} (h : s.scale.context = some c) :
    faultCapture s = failCapture .scaleFault (dropCapture s) := by
  simp [faultCapture, h]

/-- A notice posted with room in the queue stands there. -/
theorem mem_postNotice {n : Notice} {s : State} (h : s.notices.queue.length < 16) :
    (s.notices.seq, n) ∈ (postNotice n s).notices.queue := by
  rw [postNotice_room h]
  simp [State.onNotices]

/-! ### A hold given back whatever the record's custody -/

/-- No record of the ticket is left with another custody, and the closed list stays. -/
theorem setCustody_free_table (t : TicketNo) (s : State) :
    (∀ x ∈ (setCustody t .free s).tickets.table, x.number = t → x.custody = .free) ∧
      (setCustody t .free s).tickets.closed = s.tickets.closed := by
  unfold setCustody
  cases hf : s.findRecord t with
  | none =>
    refine ⟨fun x hx hn => ?_, rfl⟩
    have := List.find?_eq_none.1 hf x hx
    simp [hn] at this
  | some r =>
    have hset : ∀ x ∈ (modifyRecord t (fun r => { r with custody := .free }) s).tickets.table, x.number = t → x.custody = .free := by
      intro x hx hn
      obtain ⟨q, hq, rfl⟩ := List.mem_map.1 hx
      by_cases hqt : q.number = t
      · simp [hqt]
      · simp [hqt] at hn
    dsimp only
    split
    · refine ⟨fun x hx => hset x ?_, by rw [applyFilter_shape]; rfl⟩
      unfold applyFilter at hx
      split at hx
      · split at hx
        · exact hx
        · exact (List.mem_filter.1 hx).1
      · exact hx
    · exact ⟨hset, rfl⟩

theorem setHolder_records (t : TicketNo) (h : Nat) (s : State) :
    (setHolder t h s).tickets.table = s.tickets.table ∧ (setHolder t h s).tickets.closed = s.tickets.closed := by
  unfold setHolder modifyEntry
  split <;> exact ⟨rfl, rfl⟩

theorem endHold_weigh_any {o : WeighOp} {t : TicketNo} {s : State} (hw : s.weigh = some o) (ht : o.target = some t)
    (outcome : Result) (loss : Option LossReason) (holder : Nat) : ∃ k : Tickets,
      endHold .weigh t outcome loss holder s = postNotice (.done .weigh outcome (some t) loss holder 0)
        { s with
          weigh := none
          scale := { s.scale with context := none }
          weighTimer := { s.weighTimer with phase := .ended, count := none }
          link := s.link.closing o.closing (.release t)
          tickets := k } ∧
      k.closed = s.tickets.closed ∧ ∀ x ∈ k.table, x.number = t → x.custody = .free := by
  obtain ⟨u, hu⟩ : ∃ u, u = sendOnClosing .weigh (.release t) s := ⟨_, rfl⟩
  have hgive : setHolder t 0 (setCustody t .free u) = { u with tickets := (setHolder t 0 (setCustody t .free u)).tickets } := by
    rw [setHolder, modifyEntry_shape]
    exact congrArg (fun v : State =>
      { v with tickets := (modifyEntry t (fun e => { e with holder := 0 }) (setCustody t .free u)).tickets }) (setCustody_shape t .free u)
  obtain ⟨htable, hclosed⟩ := setHolder_records t 0 (setCustody t .free u)
  obtain ⟨hfree, hclosed'⟩ := setCustody_free_table t u
  refine ⟨(setHolder t 0 (setCustody t .free u)).tickets, ?_, ?_, ?_⟩
  · rw [endHold, releaseHold, ← hu, hgive, hu, sendOnClosing_weigh hw]
    have hslot (k : Tickets) : ({ s with weigh := some { o with closing := false }, link := s.link.closing o.closing (.release t)
                                         tickets := k } : State).slotTicket .weigh = some t := ht
    rw [endOp, hslot, closeSlot_weigh (o := { o with closing := false }) (by rfl)]
    simp only [ht, Option.isSome_some, if_true]
  · rw [hclosed, hclosed', hu, sendOnClosing_weigh hw]
  · rw [htable]
    exact hfree

theorem mem_placed (i : QueueItem) (q : List QueueItem) : i ∈ placed i q := by simp [placed]

end Sys2Proof.Machine

open Sys2Proof Sys2Proof.Machine

/-- Settles O28: the completed window's sum against 2 % of capacity. -/
theorem zeroSetsTheOffset : Obligations.ZeroSetsTheOffset := by
  intro raw c o s hcomplete hkind hweigh htarget hroom sum z clear
  have hctx : s.scale.context = some c := by
    obtain ⟨-, -, -, -, -, hctx, -⟩ := hcomplete
    exact hctx
  have hstep : exec (.sampleMessage .ok raw) s = .next (settle (finishZero sum
      { s with scale := { s.sampled .ok raw with deckClear := clear } })) := by
    rw [sample_completes hcomplete, windowStep_zeroing (by exact hctx) hkind
      (by exact windowPasses_of_completes hcomplete)]
    rfl
  refine ⟨fun h => ?_, fun h => ?_⟩ <;> rw [hstep] <;> refine congrArg (fun u => Host.Outcome.next (settle u)) ?_
  · rw [finishZero, if_pos (by simp only [State.sampled_inForce]; omega)]
    dsimp only
    rw [closeSlot_weigh (o := o) (by exact hweigh)]
    simp only [htarget, Option.isSome_none, Bool.false_eq_true, if_false]
    rw [postNotice_room (by exact hroom)]
    rfl
  · rw [finishZero, if_neg (by simp only [State.sampled_inForce]; omega),
      endOp_weigh_ticketless (o := o) (by exact hweigh) htarget, postNotice_room (by exact hroom)]
    rfl

/-- Settles O29: the flag, then the capture's failure, by whether its operation holds a ticket. -/
theorem silenceAndCaptureTimer : Obligations.SilenceAndCaptureTimer := by
  intro s hpow
  have hpowered (f : State → State) : powered f s = settle (f s) := if_pos hpow
  have hsilence {r : Nat} (hr : s.scale.silence = some r) : exec .silenceTimerExpiry s =
      .next (settle (faultCapture (latchEvent .scaleFault (.scale .silence)
        ((elapse r s).onScale (fun u => { u with silence := some 500 }))))) := by
    show Host.Outcome.next _ = _
    rw [hr]
    exact congrArg _ (hpowered _)
  have hcapture {c : CaptureContext} (hc : s.scale.context = some c) : exec .captureTimerExpiry s =
      .next (settle (failCapture (timedOutOutcome c) (dropCapture (elapse c.timer s)))) := by
    show Host.Outcome.next _ = _
    rw [hc]
    exact congrArg _ (hpowered _)
  have hcontext (n : Nat) {c : CaptureContext} (hc : s.scale.context = some c) :
      ∃ c', (elapse n s).scale.context = some c' :=
    ⟨_, (show (elapse n s).scale.context = Option.map _ s.scale.context from rfl).trans (by rw [hc]; rfl)⟩
  have hlatch (r : Nat) : ∃ flags notices, latchEvent .scaleFault (.scale .silence)
      ((elapse r s).onScale (fun u => { u with silence := some 500 })) =
        { elapse r s with scale := { (elapse r s).scale with silence := some 500 }, flags := flags, notices := notices } ∧
      flags.scaleFault.latched = true ∧ notices.queue.length ≤ s.notices.queue.length + 1 := by
    exact latchEvent_shape .scaleFault (.scale .silence) ((elapse r s).onScale (fun u => { u with silence := some 500 }))
  refine ⟨fun r hr hc => ?_, fun r o c hr hc hw ht hroom => ?_, fun o c hc hw ht hroom => ?_,
    fun o c record hc hw ht hf ho => ?_⟩
  · obtain ⟨flags, notices, hl, -⟩ := hlatch r
    rw [hsilence hr, faultCapture_none]
    · rfl
    · rw [hl]
      show Option.map _ s.scale.context = none
      rw [hc]
      rfl
  · obtain ⟨c', hc'⟩ := hcontext r hc
    obtain ⟨flags, notices, hl, hflag, hlength⟩ := hlatch r
    rw [hsilence hr, hl, faultCapture_some (c := c') (by exact hc'), failCapture_ticketless (o := o) (by exact hw) ht,
      postNotice_room (by exact Nat.lt_of_le_of_lt hlength (Nat.succ_lt_succ hroom))]
    exact ⟨_, rfl, rfl, rfl, hflag, ⟨notices.seq, List.mem_append_right _ (List.mem_singleton.2 rfl)⟩, rfl, rfl⟩
  · rw [hcapture hc, failCapture_ticketless (o := o) (by exact hw) ht, postNotice_room (by exact hroom)]
    rfl
  · intro released
    refine ⟨fun r hr hroom => ?_, fun hroom => ?_⟩
    · obtain ⟨c', hc'⟩ := hcontext r hc
      obtain ⟨flags, notices, hl, hflag, hlength⟩ := hlatch r
      rw [hsilence hr, hl, faultCapture_some (c := c') (by exact hc'), failCapture_held (o := o) (r := record) (by exact hw) ht
        (by exact hf) (by rw [ho]; rfl), postNotice_room (by exact Nat.lt_of_le_of_lt hlength (Nat.succ_lt_succ hroom))]
      exact ⟨_, rfl, rfl, hflag, notices.seq, List.mem_append_right _ (List.mem_singleton.2 rfl)⟩
    · rw [hcapture hc, failCapture_held (o := o) (by exact hw) ht (by exact hf) (by rw [ho]; rfl),
        postNotice_room (by exact hroom)]
      rfl

/-- Settles O25: each status of a sample, without a capture and in one. -/
theorem samplesOutsideAndInsideACapture : Obligations.SamplesOutsideAndInsideACapture := by
  refine ⟨?_, ?_⟩
  · intro raw s hp h1 h2 net clear
    refine ⟨fun st hw => ?_, congrArg _ (if_pos hp), fun hw hc => ⟨?_, ?_, ?_, fun h => ?_, fun h => ?_⟩⟩
    · exact congrArg _ ((if_pos hp).trans (congrArg settle (if_neg (by simp [hw]))))
    · rw [exec_sample hp hw h1 h2, sample_fault (.inl rfl), faultCapture_none (by simpa using hc)]
      rfl
    · rw [exec_sample hp hw h1 h2, sample_fault (.inr rfl), faultCapture_none (by simpa using hc)]
      rfl
    · rw [exec_sample hp hw h1 h2, sample_overload, windowStep_none (by simpa using hc)]
    · rw [exec_sample hp hw h1 h2, sample_ok_over h, windowStep_none (by simpa using hc)]
      rfl
    · rw [exec_sample hp hw h1 h2, sample_ok_good h, windowStep_none (by exact hc)]
      rfl
  · intro raw c s hp hw h1 h2 hc net window clear
    refine ⟨fun h hshort => ?_, fun target h hpos hfull hgood hband hk hclear htarget => ?_, fun h => ?_, ?_, fun st o hst ho hroom => ?_⟩
    · rw [exec_sample hp hw h1 h2, sample_ok_good h, windowStep_short _ c _ (by exact hc) (by exact windowPasses_false hshort)]
      rfl
    · have hdeck : s.scale.deckClear = false ∧ s.deckClearWith raw = false := by
        have h : s.deckClearWith raw = false := hclear
        refine ⟨?_, h⟩
        unfold State.deckClearWith at h
        split at h
        · cases h
        · exact h
      have hno : deckAllows { s.sampled .ok raw with deckClear := s.deckClearWith raw } target = false := by
        rw [Bool.eq_false_iff, ne_eq, deckAllows_iff, hdeck.2]
        rintro (h | ⟨hnew, hcap⟩)
        · cases h
        · exact htarget.elim hnew (fun h => h hcap)
      rw [exec_sample hp hw h1 h2, sample_ok_good h, windowStep_capture (by exact hc) hk (by
        exact windowPasses_of_completes ⟨hp, hw, h1, h2, h, hc, hpos, hfull, hgood, hband⟩), if_neg (by rw [hno]; exact Bool.false_ne_true),
        hdeck.2, ← hdeck.1]
      rfl
    · rw [exec_sample hp hw h1 h2, sample_ok_over h, windowStep_latched (by exact hc)]
      rfl
    · rw [exec_sample hp hw h1 h2, sample_overload, windowStep_latched (by exact hc)]
      rfl
    · obtain ⟨flags, notices, hl, hflag, hlength⟩ : ∃ flags notices,
          latchEvent .scaleFault (.scale (if st = .cellFault then .cellFault else .converterFault)) { s with scale := s.sampled st raw } =
            { s with scale := s.sampled st raw, flags := flags, notices := notices } ∧
          flags.scaleFault.latched = true ∧ notices.queue.length ≤ s.notices.queue.length + 1 :=
        latchEvent_shape .scaleFault _ { s with scale := s.sampled st raw }
      have hnotice : notices.queue.length < 16 := by omega
      rw [exec_sample hp hw h1 h2, sample_fault hst, hl, faultCapture_some (c := c) (by exact hc)]
      cases ht : o.target with
      | none =>
        rw [failCapture_ticketless (o := o) (by exact ho) ht, postNotice_room (by exact hnotice)]
        exact ⟨_, rfl, rfl, rfl, hflag, ⟨notices.seq, List.mem_append_right _ (List.mem_singleton.2 rfl)⟩, rfl, rfl, rfl, rfl,
          fun _ => ⟨rfl, rfl⟩, fun n h => by cases h⟩
      | some n =>
        obtain ⟨k, hk, hclosed, hfree⟩ := endHold_weigh_any (o := o) (t := n)
          (s := dropCapture { s with scale := s.sampled st raw, flags := flags, notices := notices }) (by exact ho) ht .scaleFault none 0
        have hfail : failCapture .scaleFault (dropCapture { s with scale := s.sampled st raw, flags := flags, notices := notices }) = _ :=
          (failCapture_ticket (by rw [State.slotTicket]; exact (congrArg (·.bind WeighOp.target) ho).trans ht) .scaleFault).trans hk
        rw [hfail, postNotice_room (by exact hnotice)]
        refine ⟨_, rfl, rfl, rfl, hflag, ⟨notices.seq, List.mem_append_right _ (List.mem_singleton.2 rfl)⟩, rfl, rfl, rfl, hclosed,
          fun h => (by cases h), fun m hm => ?_⟩
        obtain rfl := Option.some.inj hm
        refine ⟨hfree, fun hcl => ⟨.single (.release n), ?_, rfl⟩⟩
        show _ ∈ (s.link.closing o.closing (.release n)).queue
        rw [Link.closing, if_pos hcl]
        exact mem_placed _ _

end

section
/-! PROOFS. What a capture commits: the creation of a ticket and the line of a weigh step, with their burst and receipt. -/

namespace Sys2Proof.Machine

/-! ### A burst queued whole (R94) -/

theorem closingPlaces_weighIdle {s : State} (h : s.weigh = none ∨ ∃ o, s.weigh = some o ∧ o.closing = false) :
    s.closingPlaces = if s.payOp.any PayOp.closing = true then 1 else 0 := by
  rcases h with h | ⟨o, h, hc⟩
  · cases hp : s.payOp with
    | none => simp [State.closingPlaces, h, hp]
    | some p => cases hq : p.closing <;> simp [State.closingPlaces, h, hp, hq]
  · cases hp : s.payOp with
    | none => simp [State.closingPlaces, h, hp, hc]
    | some p => cases hq : p.closing <;> simp [State.closingPlaces, h, hp, hc, hq]

/-- The link takes frames of every kind, and the burst fits beside what is queued. -/
abbrev State.burstFits (r : Record) (s : State) : Prop :=
  s.link.state ≠ .down ∧ s.link.state ≠ .silent ∧ s.placesUsed (s.queueWithout r.number) + r.burst.length ≤ 24

theorem queueBurst_eq {r : Record} {s : State} (h : s.weigh = none ∨ ∃ o, s.weigh = some o ∧ o.closing = false) :
    queueBurst r s = if s.burstFits r
      then some { s with link := { s.link with queue := placed (burstItem r) (s.queueWithout r.number) } } else none := by
  have hlength : 1 ≤ r.burst.length := by simp [Record.burst]
  have hoccupied : (s.onLink (fun l => { l with queue := l.queue.filter (fun i => !i.isUnstarted r.number) })).occupied
      = s.placesUsed (s.queueWithout r.number) := by
    show _ + s.closingPlaces = _
    rw [closingPlaces_weighIdle h]
    rfl
  have hfits : r.burst.length ≤ (s.onLink (fun l => { l with queue := l.queue.filter (fun i => !i.isUnstarted r.number) })).freePlaces
      ↔ s.placesUsed (s.queueWithout r.number) + r.burst.length ≤ 24 := by
    simp only [State.freePlaces, hoccupied, Config.queuePlaces]
    omega
  have hholds : s.linkHolds = true ↔ ¬ (s.link.state ≠ .down ∧ s.link.state ≠ .silent) := by
    cases h : s.link.state <;> simp [State.linkHolds, h]
  unfold queueBurst
  by_cases hh : s.linkHolds = true
  · rw [if_pos hh, if_neg (fun hf => hholds.1 hh ⟨hf.1, hf.2.1⟩)]
  · obtain ⟨h1, h2⟩ := Classical.not_not.1 (fun hn => hh (hholds.2 hn))
    rw [if_neg hh]
    dsimp only
    by_cases hf : s.placesUsed (s.queueWithout r.number) + r.burst.length ≤ 24
    · rw [if_pos (hfits.2 hf), if_pos ⟨h1, h2, hf⟩]
      rfl
    · rw [if_neg (fun h => hf (hfits.1 h)), if_neg (fun h => hf h.2.2)]

theorem broadcast_eq {r : Record} {s : State} (h : s.weigh = none) : broadcast r s =
    if s.burstFits r then { s with link := { s.link with queue := placed (burstItem r) (s.queueWithout r.number) } }
    else modifyRecord r.number (fun r => { r with pendingBroadcast := true }) s := by
  unfold broadcast
  rw [queueBurst_eq (.inl h)]
  by_cases hf : s.burstFits r
  · rw [if_pos hf, if_pos hf]
  · rw [if_neg hf, if_neg hf]

/-! ### A receipt with room in the print queue (R163 to R165) -/

/-- The job a receipt makes. -/
def receiptJob (kind : ReceiptKind) (t : Option TicketNo) (lines : List Text) (p : Printer) : Job :=
  { number := p.nextNumber, kind := kind, ticket := t, copy := 0, restarts := 0, state := .queued, lines := lines, sent := 0,
    awaitsBusy := false }

theorem makeReceipt_room {kind : ReceiptKind} {t : Option TicketNo} {lines : List Text} {s : State}
    (h : s.printer.jobs.length < 8) : makeReceipt kind t lines s = { s with printer := { s.printer with
      jobs := s.printer.jobs ++ [receiptJob kind t lines s.printer], nextJob := jobAfter s.printer.nextNumber } } := by
  rw [makeReceipt, if_pos (printRoom_iff.2 h)]
  rfl

theorem receiptBlocked_iff {s : State} :
    s.receiptBlocked = true ↔ s.settings.receiptRequired = true ∧ 8 ≤ s.printer.jobs.length := by
  rw [State.receiptBlocked, Bool.and_eq_true, Bool.not_eq_true', Bool.eq_false_iff, ne_eq, printRoom_iff, Nat.not_lt]

/-! ### The capture that a completed window makes (R36, R37) -/

theorem finishCapture_negative {target : Target} {sum : Int} {s : State}
    (h : capturedWeight s.scale.inForce s.scale.zero sum < 0) :
    finishCapture target sum s = failCapture .underZero (dropCapture s) := if_pos h

theorem finishCapture_weight {target : Target} {sum : Int} {s : State}
    (h : 0 ≤ capturedWeight s.scale.inForce s.scale.zero sum) :
    finishCapture target sum s = deliverWeight (capturedWeight s.scale.inForce s.scale.zero sum).toNat
      (s.onScale (fun u => { u with context := none, deckClear := false, captured := some target })) :=
  if_neg (Int.not_lt.2 h)

/-- The deck condition holds with this sample (R37). -/
abbrev State.deckReady (target : Target) (raw : Int) (s : State) : Prop :=
  s.deckClearWith raw = true ∨ (target ≠ .newTicket ∧ s.scale.captured = some target)

theorem sample_captures {target : Target} {raw : Int} {c : CaptureContext} {s : State} (h : s.captureCompletes target raw c)
    (hdeck : s.deckReady target raw) : exec (.sampleMessage .ok raw) s = .next (settle (finishCapture target
      (s.windowSumWith raw c) { s with scale := { s.sampled .ok raw with deckClear := s.deckClearWith raw } })) := by
  obtain ⟨hcomplete, hkind⟩ := h
  have hctx : s.scale.context = some c := by
    obtain ⟨-, -, -, -, -, hctx, -⟩ := hcomplete
    exact hctx
  rw [sample_completes hcomplete, windowStep_capture (by exact hctx) hkind (by exact windowPasses_of_completes hcomplete),
    if_pos (deckAllows_iff.2 (by exact hdeck))]
  rfl

/-- The link or the pending mark, by whether the burst fits. -/
theorem broadcast_cases {r : Record} {s : State} (h : s.weigh = none) : ∃ l table,
    broadcast r s = { s with link := l, tickets := { s.tickets with table := table } } ∧
      (if s.burstFits r
        then l = { s.link with queue := placed (burstItem r) (s.queueWithout r.number) } ∧ table = s.tickets.table
        else l = s.link ∧ table = s.tickets.table.map (fun x =>
          if x.number = r.number then { x with pendingBroadcast := true } else x)) := by
  rw [broadcast_eq h]
  by_cases hf : s.burstFits r
  · rw [if_pos hf]
    exact ⟨_, _, rfl, by rw [if_pos hf]; exact ⟨rfl, rfl⟩⟩
  · rw [if_neg hf]
    exact ⟨_, _, rfl, by rw [if_neg hf]; exact ⟨rfl, rfl⟩⟩

/-! ### The serial of a new ticket (R2) -/

/-- The search passes over live serials alone. -/
theorem allocateFrom_first {s : State} : ∀ {fuel n : Nat}, 1 ≤ n → n ≤ 65535 →
    ∃ k, allocateFrom s fuel n = serialAfter n k ∧ ∀ j < k, s.serialLive (serialAfter n j) = true
  | 0, n, h1, h2 => ⟨0, (serialAfter_zero h1 h2).symm, fun j hj => absurd hj (Nat.not_lt_zero j)⟩
  | fuel + 1, n, h1, h2 => by
    rw [allocateFrom]
    split
    · rename_i hlive
      obtain ⟨h1', h2'⟩ := nextSerialAfter_range h2
      obtain ⟨k, hk, hall⟩ := allocateFrom_first (s := s) (fuel := fuel) h1' h2'
      refine ⟨k + 1, by rw [hk, serialAfter_next h1 h2], fun j hj => ?_⟩
      cases j with
      | zero => rw [serialAfter_zero h1 h2]; exact hlive
      | succ j => rw [← serialAfter_next h1 h2]; exact hall j (by omega)
    · exact ⟨0, (serialAfter_zero h1 h2).symm, fun j hj => absurd hj (Nat.not_lt_zero j)⟩

theorem serialLive_iff {s : State} {m : Nat} : s.serialLive m = true ↔ (∃ e ∈ s.tickets.register, e.serial = m) ∨
    (∃ r ∈ s.tickets.table, r.number = ⟨s.myId, m⟩) ∨ (∃ e ∈ s.tickets.closed, e.number = ⟨s.myId, m⟩) := by
  simp only [State.serialLive, Bool.or_eq_true, List.any_eq_true, decide_eq_true_eq, State.findRecord, State.closedEntry,
    List.find?_isSome, or_assoc]

/-- While a NEW TICKET runs its place is reserved, so fewer serials are live than the search tests. -/
theorem serialsHeld_length {o : WeighOp} {tag seller : Option Text} {s : State} (h : s.ticketsOk) (hw : s.weigh = some o)
    (hk : o.kind = .newTicket tag seller) : s.serialsHeld.length ≤ Config.serialTests := by
  obtain ⟨htable, hregister, hclosed, -, -, -, -, hop, -⟩ := h
  have hreserved : s.reservations = 1 := by
    have hok := hop o hw
    rw [WeighOp.storeOk, hk] at hok
    have hreserved : o.reserved = true := hok
    rw [State.reservations, hw]
    simp [hreserved]
  simp only [State.serialsHeld, List.length_append, List.length_map, Config.serialTests]
  omega

/-! ### The creation of a ticket (R47 to R49) -/

theorem deliverWeight_new {o : WeighOp} {tag seller : Option Text} {s : State} (hw : s.weigh = some o)
    (hk : o.kind = .newTicket tag seller) (w : Nat) : deliverWeight w s = commitNew tag seller w s := by
  simp only [deliverWeight, hw, hk]

/-- The ticket stored, before its burst, its slip and its notice. -/
def State.withNew (r : Record) (s : State) : State :=
  { s with
    weigh := none
    scale := { s.scale with context := none, captured := some (.ticket r.number) }
    tickets := { s.tickets with
      table := s.tickets.table ++ [r]
      register := insertEntry { serial := r.number.serial, life := .opened, step := 0, holder := 0, issueDay := r.issueDay }
        s.tickets.register
      nextSerial := nextSerialAfter r.number.serial }
    day := { s.day with totals := s.day.totals.oneIssued } }

theorem commitNew_stored {o : WeighOp} {tag seller : Option Text} {w : Nat} {s : State} (hw : s.weigh = some o)
    (ht : o.target = none) (hload : 20 * s.scale.inForce.division ≤ w) (hjobs : s.printer.jobs.length < 8)
    (hroom : s.notices.queue.length < 16) : ∃ lines l table,
    commitNew tag seller w s = { s.withNew (newRecord s w tag seller) with
      link := l
      tickets := { (s.withNew (newRecord s w tag seller)).tickets with table := table }
      printer := { s.printer with
        jobs := s.printer.jobs ++ [receiptJob .weighSlip (some ⟨s.myId, s.allocated⟩) lines s.printer]
        nextJob := jobAfter s.printer.nextNumber }
      notices := { s.notices with
        queue := s.notices.queue ++ [(s.notices.seq, .done .weigh .ok (some ⟨s.myId, s.allocated⟩) none 0 0)]
        seq := (s.notices.seq + 1) % 256 } } ∧
    (if (s.withNew (newRecord s w tag seller)).burstFits (newRecord s w tag seller)
      then l = { s.link with queue := placed (burstItem (newRecord s w tag seller)) (s.queueWithout ⟨s.myId, s.allocated⟩) } ∧
        table = s.tickets.table ++ [newRecord s w tag seller]
      else l = s.link ∧ table = (s.tickets.table ++ [newRecord s w tag seller]).map (fun x =>
        if x.number = ⟨s.myId, s.allocated⟩ then { x with pendingBroadcast := true } else x)) := by
  obtain ⟨l, table, hb, hcases⟩ := broadcast_cases (r := newRecord s w tag seller) (s := s.withNew (newRecord s w tag seller)) rfl
  have hblocked : s.receiptBlocked = false := by
    rw [Bool.eq_false_iff, ne_eq, receiptBlocked_iff]
    omega
  have hstored : countDay DayTotals.oneIssued ((storeNew (newRecord s w tag seller) (closeSlot .weigh .ended s)).onScale
      (fun u => { u with captured := some (.ticket (newRecord s w tag seller).number) })) = s.withNew (newRecord s w tag seller) := by
    rw [closeSlot_weigh hw]
    simp only [ht, Option.isSome_none, Bool.false_eq_true, if_false]
    rfl
  refine ⟨weighSlipLines 0 (newRecord s w tag seller) (broadcast (newRecord s w tag seller) (s.withNew (newRecord s w tag seller))),
    l, table, ?_, hcases⟩
  rw [commitNew, if_neg (Nat.not_lt.2 hload), if_neg (by simp [hblocked])]
  dsimp only
  rw [hstored, hb, makeReceipt_room (by exact hjobs), postNotice_room (by exact hroom)]
  rfl

end Sys2Proof.Machine

open Sys2Proof Sys2Proof.Machine

/-- Settles O26: the serial by the search's first free place, the rest by `commitNew_stored`. -/
theorem captureCreatesTheTicket : Obligations.CaptureCreatesTheTicket := by
  intro raw c o tag seller s hcap hdeck hweigh hkind htarget hroom n w live made
  have hclear : s.deckClearWith raw = true := by
    unfold State.deckClearWith
    split
    · rfl
    · rename_i h
      exact hdeck.resolve_right h
  let u : State := { s with scale := { s.sampled .ok raw with deckClear := s.deckClearWith raw } }
  have hexec : exec (.sampleMessage .ok raw) s = .next (settle (finishCapture .newTicket (s.windowSumWith raw c) u)) :=
    sample_captures hcap (.inl hclear)
  -- the state that the slot is handed the weight in
  let v : State := { s with scale := { s.sampled .ok raw with context := none, deckClear := false, captured := some .newTicket } }
  have hdelivered (h : 0 ≤ s.capturedWith raw c) :
      finishCapture .newTicket (s.windowSumWith raw c) u = commitNew tag seller (s.capturedWith raw c).toNat v :=
    (finishCapture_weight (s := u) h).trans (deliverWeight_new (s := v) hweigh hkind _)
  refine ⟨fun hok => ?_, fun hload hjobs => ?_, ?_⟩
  · have hserials := hok
    obtain ⟨-, -, -, h1, h2, -⟩ := hserials
    obtain ⟨k, hk, hall⟩ := allocateFrom_first (s := s) (fuel := Config.serialTests) h1 h2
    exact ⟨k, hk, fun h => Bool.false_ne_true
      ((allocated_not_live h1 h2 (serialsHeld_length hok hweigh hkind)).symm.trans (serialLive_iff.2 h)),
      fun j hj => serialLive_iff.1 (hall j hj)⟩
  · have hserial : v.allocated = s.allocated := allocateFrom_congr (s := s) (t := v) rfl rfl _ _
    obtain ⟨lines, l, table, hstored, hcases⟩ := commitNew_stored (s := v) (o := o) (tag := tag) (seller := seller)
      (w := (s.capturedWith raw c).toNat) hweigh htarget (show 20 * s.settings.division ≤ (s.capturedWith raw c).toNat by omega)
      hjobs hroom
    have hmade : newRecord v (s.capturedWith raw c).toNat tag seller = made := by
      simp only [newRecord, hserial]
      rfl
    rw [hexec, hdelivered (by omega), hstored]
    rw [hmade, hserial] at hcases ⊢
    exact ⟨_, rfl, hcases, List.mem_append_left _ (List.mem_append_right _ (List.mem_singleton.2 rfl)), insertEntry_length _ _, rfl,
      rfl, rfl, rfl, rfl, rfl, rfl, rfl, rfl,
      ⟨_, List.mem_append_right _ (List.mem_singleton.2 rfl), rfl, rfl, rfl, rfl⟩, rfl⟩
  · intro ended
    refine ⟨fun h0 hlow => ?_, fun hneg => ?_, fun hload hreq hfull => ?_⟩
    · rw [hexec, hdelivered h0, commitNew, if_pos (by
        exact (show (s.capturedWith raw c).toNat < 20 * s.settings.division by omega)),
        endOp_weigh_ticketless (o := o) (by exact hweigh) htarget, postNotice_room (by exact hroom)]
      rfl
    · rw [hexec, finishCapture_negative (by exact hneg), failCapture_ticketless (o := o) (by exact hweigh) htarget,
        postNotice_room (by exact hroom), ← hclear]
      rfl
    · rw [hexec, hdelivered (by omega), commitNew,
        if_neg (by exact (show ¬ (s.capturedWith raw c).toNat < 20 * s.settings.division by omega)),
        if_pos (by exact receiptBlocked_iff.2 ⟨hreq, hfull⟩), endOp_weigh_ticketless (o := o) (by exact hweigh) htarget,
        postNotice_room (by exact hroom)]
      rfl

end

section
/-! PROOFS. What the capture of a weigh step commits, and how it ends before the commit. -/

namespace Sys2Proof.Machine

/-! ### Day totals of a grade (R80) -/

theorem growHeld_fst (lo hi : Int) (held : Bool) (v change : Int) (hlohi : lo ≤ hi) : (growHeld lo hi held v change).1 =
    if held = true then v else max lo (min hi (v + change)) := by
  unfold growHeld
  cases held
  · simp only [Bool.false_eq_true, if_false]
    split
    · dsimp only
      omega
    · split <;> dsimp only <;> omega
  · rfl

theorem growHeld_snd (lo hi : Int) (held : Bool) (v change : Int) : (growHeld lo hi held v change).2 =
    (held || decide (hi < v + change) || decide (v + change < lo)) := by
  unfold growHeld
  cases held
  · simp only [Bool.false_eq_true, if_false, Bool.false_or]
    split
    · simp_all
    · split <;> simp_all
  · simp

theorem GradeTotals.add_eq (paid : Nat) (amount : Int) (old : GradeTotals) : old.add paid amount =
    { lines := if old.linesHeld = true then old.lines else min 65535 (old.lines + 1)
      paid := if old.paidHeld = true then old.paid else min 999999999 (old.paid + paid)
      amount := if old.amountHeld = true then old.amount
                else max (-999999999999) (min 999999999999 (old.amount + amount))
      linesHeld := old.linesHeld || decide (65535 < old.lines + 1)
      paidHeld := old.paidHeld || decide (999999999 < old.paid + paid)
      amountHeld := old.amountHeld || decide (999999999999 < old.amount + amount)
                      || decide (old.amount + amount < -999999999999) } := by
  unfold GradeTotals.add
  simp only [growHeld_fst _ _ _ _ _ (show (0 : Int) ≤ 65535 by decide), growHeld_fst _ _ _ _ _ (show (0 : Int) ≤ 999999999 by decide),
    growHeld_fst _ _ _ _ _ (show (-999999999999 : Int) ≤ 999999999999 by decide), growHeld_snd]
  congr 1
  · split <;> omega
  · split <;> omega
  · have : ¬ ((old.lines : Int) + 1 < 0) := by omega
    simp only [this, decide_false, Bool.or_false]
    congr 1
    rw [decide_eq_decide]
    omega
  · have : ¬ ((old.paid : Int) + paid < 0) := by omega
    simp only [this, decide_false, Bool.or_false]
    congr 1
    rw [decide_eq_decide]
    omega

/-! ### The burst on the closing place (R58) -/

theorem burstOnClosing_cases {r : Record} {o : WeighOp} {s : State} (hw : s.weigh = some o) : ∃ l table,
    burstOnClosing r s = { s with
      weigh := some { o with closing := false }, link := l, tickets := { s.tickets with table := table } } ∧
      (if s.burstFits r
        then l = { s.link with queue := placed (burstItem r) (s.queueWithout r.number) } ∧ table = s.tickets.table
        else l = s.link.closing o.closing (.release r.number) ∧ table = s.tickets.table.map (fun x =>
          if x.number = r.number then { x with pendingBroadcast := true } else x)) := by
  have hset : setClosing .weigh false s = { s with weigh := some { o with closing := false } } := by
    simp [setClosing, State.onWeigh, hw]
  have hqueue := queueBurst_eq (r := r) (s := setClosing .weigh false s)
    (.inr ⟨{ o with closing := false }, by rw [hset], rfl⟩)
  rw [hset] at hqueue
  unfold burstOnClosing
  by_cases hf : s.burstFits r
  · rw [if_pos (by exact hf)] at hqueue
    rw [hset, hqueue]
    exact ⟨_, _, rfl, by rw [if_pos hf]; exact ⟨rfl, rfl⟩⟩
  · rw [if_neg (by exact hf)] at hqueue
    rw [hset, hqueue]
    dsimp only
    rw [sendOnClosing_weigh hw]
    exact ⟨_, _, rfl, by rw [if_neg hf]; exact ⟨rfl, rfl⟩⟩

/-- PAYABLE takes a place in the notice queue at most. -/
theorem postPayable_room {t : TicketNo} {b : Bool} {s : State} (h : s.notices.queue.length < 15) : ∃ notices,
    postPayable t b s = { s with notices := notices } ∧ notices.queue.length < 16 := by
  unfold postPayable
  split
  · rw [postNotice_room (by omega)]
    exact ⟨_, rfl, by simp; omega⟩
  · exact ⟨s.notices, rfl, by omega⟩

/-- A record last written here stays whatever the role. -/
theorem applyFilter_own {t : TicketNo} {r : Record} {s : State} (hf : s.findRecord t = some r) (hw : r.lastWriter = s.myId) :
    applyFilter t s = s := by
  have hk : s.keeps r = true := (s.keeps_iff r).2 (.inr (.inr (.inr (.inr hw))))
  simp [applyFilter, hf, hk]

/-! ### The commit of a weigh step (R57, R58) -/

/-- The tickets with a committed record and its register entry. -/
def Tickets.lineStored (r : Record) (step : Nat) (final : Bool) (k : Tickets) : Tickets :=
  { k with
    table := k.table.map (fun x => if x.number = r.number then r else x)
    register := if r.number.home = k.owner ∧ k.owner ≠ 0
      then k.register.map (fun e => if e.serial = r.number.serial then e.onCommit step final else e) else k.register }

/-- The store and the counts with a committed line, before PAYABLE and the burst. -/
def State.lineStored (r : Record) (l : Line) (step : Nat) (final : Bool) (s : State) : State :=
  { s with
    tickets := s.tickets.lineStored r step final
    pricing := { s.pricing with totals := assigned l.grade ((s.gradeTotals l.grade).add l.paid l.amount) s.pricing.totals }
    day := if final = true then { s.day with totals := s.day.totals.oneCompleted } else s.day }

theorem modifyEntry_lineStored {r : Record} {t : TicketNo} (ht : r.number = t) (step : Nat) (final : Bool) (s : State) :
    modifyEntry t (RegEntry.onCommit step final) (modifyRecord t (fun _ => r) s) =
      { s with tickets := s.tickets.lineStored r step final } := by
  subst ht
  by_cases h : r.number.home = s.tickets.owner ∧ s.tickets.owner ≠ 0
  · have hs : (modifyRecord r.number (fun _ => r) s).speaksFor r.number = true := by
      simpa [State.speaksFor, modifyRecord, State.onTickets] using h
    rw [modifyEntry, if_pos hs, Tickets.lineStored, if_pos h]
    rfl
  · have hs : ¬ (modifyRecord r.number (fun _ => r) s).speaksFor r.number = true := by
      simpa [State.speaksFor, modifyRecord, State.onTickets] using h
    rw [modifyEntry, if_neg hs, Tickets.lineStored, if_neg h]
    rfl

theorem findRecord_lineStored {r x : Record} {t : TicketNo} {l : Line} {step : Nat} {final : Bool} {s : State}
    (ht : r.number = t) (hf : s.findRecord t = some x) : (s.lineStored r l step final).findRecord t = some r := by
  subst ht
  have hp : (fun y : Record => decide (y.number = r.number)) ∘ (fun y => if y.number = r.number then r else y) =
      fun y => decide (y.number = r.number) := by
    funext y
    by_cases h : y.number = r.number <;> simp [h]
  show (s.tickets.table.map _).find? _ = _
  rw [List.find?_map, hp, show s.tickets.table.find? _ = some x from hf]
  simp [findRecord_number hf]

theorem map_pendingBroadcast (r : Record) (table : List Record) :
    (table.map (fun x => if x.number = r.number then r else x)).map
        (fun x => if x.number = r.number then { x with pendingBroadcast := true } else x) =
      table.map (fun x => if x.number = r.number then { r with pendingBroadcast := true } else x) := by
  rw [List.map_map]
  refine List.map_congr_left fun x _ => ?_
  by_cases h : x.number = r.number <;> simp [h]

/-- The weigh slot closed by a commit. -/
def State.weighCommitted (s : State) : State :=
  { s with
    weigh := none
    scale := { s.scale with context := none }
    weighTimer := { s.weighTimer with phase := .committed, count := none } }

theorem endCommitted_weigh {o : WeighOp} {t : TicketNo} {s : State} (hw : s.weigh = some o) (ht : o.target = some t)
    (hroom : s.notices.queue.length < 16) : ∃ notices, endCommitted .weigh t s = { s.weighCommitted with notices := notices } ∧
      ∃ q, (q, Notice.done .weigh .ok (some t) none 0 0) ∈ notices.queue := by
  rw [endCommitted, closeSlot_weigh hw, postNotice_room (by exact hroom)]
  simp only [ht, Option.isSome_some, if_true]
  exact ⟨_, rfl, _, List.mem_append_right _ (List.mem_singleton.2 rfl)⟩

/-- The receipt of a committed step (R57). -/
theorem stepReceipt_room {r : Record} {final : Bool} {s : State} (h : s.printer.jobs.length < 8) : ∃ lines,
    (if final = true then makeReceipt .ticket (some r.number) (ticketLines 0 r s) s
      else makeReceipt .weighSlip (some r.number) (weighSlipLines 0 r s) s) = { s with printer := { s.printer with
        jobs := s.printer.jobs ++ [receiptJob (if final = true then .ticket else .weighSlip) (some r.number) lines s.printer]
        nextJob := jobAfter s.printer.nextNumber } } := by
  cases final
  · exact ⟨_, makeReceipt_room h⟩
  · exact ⟨_, makeReceipt_room h⟩

theorem commitLine_eq {o : WeighOp} {r : Record} {l : Line} {w : Nat} {final down : Bool} {s : State} (hw : s.weigh = some o)
    (ht : o.target = some r.number) (hf : s.findRecord r.number = some r) (hjobs : s.printer.jobs.length < 8)
    (hroom : s.notices.queue.length < 15) : ∃ link pending lines notices,
    commitLine r l w final down s =
      { (s.lineStored { r.withLine l w s.day.clock s.myId final with pendingBroadcast := pending } l (r.step + 1)
          final).weighCommitted with
        link := link
        printer := { s.printer with
          jobs := s.printer.jobs ++ [receiptJob (if final = true then .ticket else .weighSlip) (some r.number) lines s.printer]
          nextJob := jobAfter s.printer.nextNumber }
        notices := notices } ∧
    (∃ q, (q, Notice.done .weigh .ok (some r.number) none 0 0) ∈ notices.queue) ∧
    (if s.burstFits (r.withLine l w s.day.clock s.myId final)
      then link = { s.link with
          queue := placed (burstItem (r.withLine l w s.day.clock s.myId final)) (s.queueWithout r.number) } ∧
        pending = (r.pendingBroadcast || down)
      else link = s.link.closing o.closing (.release r.number) ∧ pending = true) := by
  obtain ⟨r₁, hr₁⟩ : ∃ r₁, r₁ = r.withLine l w s.day.clock s.myId final := ⟨_, rfl⟩
  obtain ⟨r₂, hr₂⟩ : ∃ r₂ : Record, r₂ = { r₁ with pendingBroadcast := r.pendingBroadcast || down } := ⟨_, rfl⟩
  have hnumber : r₁.number = r.number := by rw [hr₁]; rfl
  have hnumber₂ : r₂.number = r.number := by rw [hr₂]; exact hnumber
  have hwriter : r₂.lastWriter = s.myId := by rw [hr₂, hr₁]; rfl
  have hstep : r₁.step = r.step + 1 := by rw [hr₁]; rfl
  -- the state the burst starts from, before PAYABLE
  obtain ⟨u, hu⟩ : ∃ u, u = s.lineStored r₂ l (r.step + 1) final := ⟨_, rfl⟩
  have hstored : (if final = true then countDay DayTotals.oneCompleted (countLineOfGrade l.grade l.paid l.amount
        (modifyEntry r.number (RegEntry.onCommit (r.step + 1) final) (modifyRecord r.number (fun _ => r₂) s)))
      else countLineOfGrade l.grade l.paid l.amount
        (modifyEntry r.number (RegEntry.onCommit (r.step + 1) final) (modifyRecord r.number (fun _ => r₂) s))) = u := by
    rw [modifyEntry_lineStored hnumber₂, hu]
    cases final <;> rfl
  obtain ⟨n₁, hpayable, hroom₁⟩ := postPayable_room (t := r.number) (b := final) (s := u) (by rw [hu]; exact hroom)
  have hfilter : applyFilter r.number { u with notices := n₁ } = { u with notices := n₁ } := by
    refine applyFilter_own (r := r₂) ?_ ?_
    · rw [hu]
      exact findRecord_lineStored (l := l) hnumber₂ hf
    · rw [hu]
      exact hwriter
  obtain ⟨link, table, hburst, hcases⟩ := burstOnClosing_cases (r := r₁) (o := o) (s := { u with notices := n₁ })
    (by rw [hu]; exact hw)
  obtain ⟨lines, hreceipt⟩ := stepReceipt_room (r := r₁) (final := final) (s := { u with
    weigh := some { o with closing := false }, notices := n₁, link := link, tickets := { u.tickets with table := table } })
    (by rw [hu]; exact hjobs)
  rw [hnumber] at hreceipt
  have hcommit : commitLine r l w final down s = endCommitted .weigh r.number { u with
      weigh := some { o with closing := false }, notices := n₁, link := link, tickets := { u.tickets with table := table }
      printer := { u.printer with
        jobs := u.printer.jobs ++ [receiptJob (if final = true then .ticket else .weighSlip) (some r.number) lines u.printer]
        nextJob := jobAfter u.printer.nextNumber } } := by
    rw [commitLine]
    dsimp only
    rw [← hr₁, ← hr₂, hstep, hstored, hpayable, hfilter, hburst, hreceipt]
  obtain ⟨notices, hend, hdone⟩ := endCommitted_weigh (o := { o with closing := false }) (t := r.number) (s := { u with
      weigh := some { o with closing := false }, notices := n₁, link := link, tickets := { u.tickets with table := table }
      printer := { u.printer with
        jobs := u.printer.jobs ++ [receiptJob (if final = true then .ticket else .weighSlip) (some r.number) lines u.printer]
        nextJob := jobAfter u.printer.nextNumber } }) (by rfl) ht hroom₁
  rw [hcommit, hend, ← hr₁]
  rw [hu] at hcases
  by_cases hfits : s.burstFits r₁
  · rw [if_pos (by exact hfits)] at hcases
    obtain ⟨hlink, htable⟩ := hcases
    refine ⟨link, r.pendingBroadcast || down, lines, notices, ?_, hdone, ?_⟩
    · rw [htable, hu, hr₂]
      rfl
    · rw [if_pos hfits, hlink, ← hnumber]
      exact ⟨rfl, rfl⟩
  · rw [if_neg (by exact hfits)] at hcases
    obtain ⟨hlink, htable⟩ := hcases
    refine ⟨link, true, lines, notices, ?_, hdone, ?_⟩
    · rw [htable, hnumber, ← hnumber₂]
      rw [show (s.lineStored r₂ l (r.step + 1) final).tickets.table =
        s.tickets.table.map (fun x => if x.number = r₂.number then r₂ else x) from rfl, map_pendingBroadcast, hu, hr₂]
      rfl
    · rw [if_neg hfits, hlink, ← hnumber]
      exact ⟨rfl, rfl⟩

/-! ### The ends of a weigh step's capture (R47, R52, R56) -/

section
variable {o : WeighOp} {r : Record} {t : TicketNo} {g d w : Nat} {final : Bool} {s : State}

theorem deliverWeight_step (hw : s.weigh = some o) (hk : o.kind = .weighStep g d final) (ht : o.target = some t) :
    deliverWeight w s = commitStep o t g d final w s := by
  simp only [deliverWeight, hw, hk, ht]

theorem commitStep_noNet (hf : s.findRecord t = some r) (hc : r.custody = .held .weigh .weigh)
    (hnet : (r.lastWeight : Int) - w < s.scale.inForce.division) :
    commitStep o t g d final w s = endHold .weigh t .noNet none 0 s := by
  simp only [commitStep, hf, hc, ne_eq, not_true_eq_false, if_false, hnet, if_true]

theorem commitStep_lost {loss : LossReason} (hf : s.findRecord t = some r) (hc : r.custody = .held .weigh .weigh)
    (hnet : ¬ (r.lastWeight : Int) - w < s.scale.inForce.division) (hl : commitLoss r o.claimedStep = some loss) :
    commitStep o t g d final w s = endHold .weigh t .lost (some loss) 0 s := by
  simp only [commitStep, hf, hc, ne_eq, not_true_eq_false, if_false, hnet, hl]

theorem commitStep_printQueueFull (hf : s.findRecord t = some r) (hc : r.custody = .held .weigh .weigh)
    (hnet : ¬ (r.lastWeight : Int) - w < s.scale.inForce.division) (hl : commitLoss r o.claimedStep = none)
    (hb : s.receiptBlocked = true) : commitStep o t g d final w s = endHold .weigh t .printQueueFull none 0 s := by
  simp only [commitStep, hf, hc, ne_eq, not_true_eq_false, if_false, hnet, hl, hb, if_true]

theorem commitStep_commits (hf : s.findRecord t = some r) (hc : r.custody = .held .weigh .weigh)
    (hnet : ¬ (r.lastWeight : Int) - w < s.scale.inForce.division) (hl : commitLoss r o.claimedStep = none)
    (hb : s.receiptBlocked = false) : commitStep o t g d final w s =
      commitLine r (buildLine r g d w (decide (o.grant = .byLink .down)) s) w final (decide (o.grant = .byLink .down)) s := by
  simp only [commitStep, hf, hc, ne_eq, not_true_eq_false, if_false, hnet, hl, hb, Bool.false_eq_true]

end

theorem receiptBlocked_room {s : State} (h : s.printer.jobs.length < 8) : s.receiptBlocked = false := by
  rw [Bool.eq_false_iff, ne_eq, receiptBlocked_iff]
  omega

theorem deckClearWith_eq (raw : Int) (s : State) : s.deckClearWith raw =
    (s.scale.deckClear || decide (raw - s.scale.zero ≤ (s.settings.clearThreshold * s.settings.division : Int))) := by
  unfold State.deckClearWith
  by_cases h : raw - s.scale.zero ≤ (s.settings.clearThreshold * s.settings.division : Int)
  · rw [if_pos h, decide_eq_true h, Bool.or_true]
  · rw [if_neg h, decide_eq_false h, Bool.or_false]

theorem deckReady_iff {raw : Int} {target : Target} {s : State} : s.deckReady target raw ↔
    s.scale.deckClear = true ∨ (target ≠ .newTicket ∧ s.scale.captured = some target) ∨
      raw - s.scale.zero ≤ (s.settings.clearThreshold * s.settings.division : Int) := by
  rw [State.deckReady, deckClearWith_eq, Bool.or_eq_true, decide_eq_true_iff, or_assoc]
  exact or_congr_right or_comm

end Sys2Proof.Machine

open Sys2Proof Sys2Proof.Machine

/-- Settles O27: the commit by `commitLine_eq`, every other end by `endHold_weigh`. -/
theorem captureCommitsTheStep : Obligations.CaptureCommitsTheStep := by
  refine ⟨?_, ?_⟩
  · intro raw c o r g d final s hcap hdeck hw hk ht hf hunique hcustody hstep hstale hlines hok hjobs hroom hpos hdrop
    have hready : s.deckReady (.ticket r.number) raw :=
      deckReady_iff.2 (hdeck.imp_right (Or.imp_left fun h => ⟨by simp, h⟩))
    let v : State := { s with scale := { s.sampled .ok raw with
      context := none, deckClear := false, captured := some (.ticket r.number) } }
    obtain ⟨w, hwt⟩ : ∃ w, w = (s.capturedWith raw c).toNat := ⟨_, rfl⟩
    have hloss : commitLoss r o.claimedStep = none := (commitLoss_eq_none).2 ⟨hstep, hstale⟩
    obtain ⟨l, hl⟩ : ∃ l, l = buildLine r g d w (decide (o.grant = .byLink .down)) v := ⟨_, rfl⟩
    have hexec : exec (.sampleMessage .ok raw) s =
        .next (settle (commitLine r l w final (decide (o.grant = .byLink .down)) v)) := by
      rw [sample_captures hcap hready, finishCapture_weight (by exact hpos), deliverWeight_step (o := o) (by exact hw) hk ht,
        commitStep_commits (r := r) (by exact hf) hcustody ?_ hloss (receiptBlocked_room (by exact hjobs)), hl, hwt]
      · rfl
      · show ¬ (r.lastWeight : Int) - (s.capturedWith raw c).toNat < s.settings.division
        omega
    obtain ⟨link, pending, lines, notices, hcommit, hdone, hcases⟩ := commitLine_eq (o := o) (r := r) (l := l) (w := w)
      (final := final) (down := decide (o.grant = .byLink .down)) (s := v) hw ht hf hjobs hroom
    rw [hexec, hcommit]
    subst hwt
    have hpaid : (r.withLine l (s.capturedWith raw c).toNat s.day.clock s.myId final).linesOk := by
      refine withLine_linesOk hok ?_ (by rw [hl]; rfl) (by rw [hl]; rfl) (by omega)
      obtain ⟨hlength, -⟩ := hok
      omega
    refine ⟨_, { r.withLine l (s.capturedWith raw c).toNat s.day.clock s.myId final with pendingBroadcast := pending }, rfl, rfl, ?_⟩
    intro w net total paid p down
    refine ⟨?_, hcases, hpaid, ?_, rfl, rfl, rfl, rfl, ?_, ?_, ?_, ?_, rfl, rfl, rfl, ?_, hdone⟩
    · rw [hl]
      rfl
    · intro hhome howner
      exact if_pos ⟨hhome, howner⟩
    · cases final <;> rfl
    · cases final <;> rfl
    · intro old
      have htotals : (lookup g (assigned l.grade ((v.gradeTotals l.grade).add l.paid l.amount) v.pricing.totals)).getD .zero =
          old.add l.paid l.amount := by
        rw [show l.grade = g by rw [hl]; rfl, lookup_assigned_self]
        rfl
      have hadded : old.add l.paid l.amount = old.add paid p.amount := by
        rw [hl]
        rfl
      exact htotals.trans (hadded.trans (GradeTotals.add_eq paid p.amount old))
    · intro m hm
      have hother : lookup m (assigned l.grade ((v.gradeTotals l.grade).add l.paid l.amount) v.pricing.totals) =
          lookup m v.pricing.totals := lookup_assigned_other (by rw [hl]; exact hm) _ _
      exact congrArg (fun x => x.getD GradeTotals.zero) hother
    · exact ⟨_, List.mem_append_right _ (List.mem_singleton.2 rfl), rfl, rfl, rfl⟩
  · intro raw c o r g d final s hcap hdeck hw hk ht hf hcustody hroom ends captured dropped
    have hready : s.deckReady (.ticket r.number) raw :=
      deckReady_iff.2 (hdeck.imp_right (Or.imp_left fun h => ⟨by simp, h⟩))
    have hown : r.custody.isOwn = true := by rw [hcustody]; rfl
    let v : State := { s with scale := { captured with context := none } }
    have hexec (h : 0 ≤ s.capturedWith raw c) : exec (.sampleMessage .ok raw) s =
        .next (settle (commitStep o r.number g d final (s.capturedWith raw c).toNat v)) := by
      rw [sample_captures hcap hready, finishCapture_weight (by exact h), deliverWeight_step (o := o) (by exact hw) hk ht]
      rfl
    have hended (outcome : Result) (loss : Option LossReason)
        (h : exec (.sampleMessage .ok raw) s = .next (settle (endHold .weigh r.number outcome loss 0 v))) :
        ends outcome loss captured := by
      show exec (.sampleMessage .ok raw) s = _
      rw [h, endHold_weigh (o := o) (r := r) (by exact hw) ht (by exact hf) hown, postNotice_room (by exact hroom)]
      rfl
    refine ⟨fun hneg => ?_, fun h hlow => ?_, fun h hnet => ?_⟩
    · show exec (.sampleMessage .ok raw) s = _
      rw [sample_captures hcap hready, finishCapture_negative (by exact hneg), failCapture_held (o := o) (r := r) (by exact hw) ht
        (by exact hf) hown, postNotice_room (by exact hroom), deckClearWith_eq]
      rfl
    · refine hended .noNet none ((hexec h).trans ?_)
      rw [commitStep_noNet (r := r) (by exact hf) hcustody ?_]
      show (r.lastWeight : Int) - (s.capturedWith raw c).toNat < s.settings.division
      omega
    · have hnet' : ¬ (r.lastWeight : Int) - (s.capturedWith raw c).toNat < v.scale.inForce.division := by
        show ¬ (r.lastWeight : Int) - (s.capturedWith raw c).toNat < s.settings.division
        omega
      refine ⟨fun hstep => ?_, fun hstep hstale => ?_, fun hstep hstale hreq hfull => ?_⟩
      · refine hended .lost (some .changed) ((hexec h).trans ?_)
        rw [commitStep_lost (r := r) (by exact hf) hcustody hnet' (if_pos hstep)]
      · refine hended .lost (some .stale) ((hexec h).trans ?_)
        rw [commitStep_lost (r := r) (loss := .stale) (by exact hf) hcustody hnet' (by simp [commitLoss, hstep, hstale])]
      · refine hended .printQueueFull none ((hexec h).trans ?_)
        rw [commitStep_printQueueFull (r := r) (by exact hf) hcustody hnet' (commitLoss_eq_none.2 ⟨hstep, hstale⟩)
          (receiptBlocked_iff.2 ⟨hreq, hfull⟩)]

end

section
/-! PROOFS. A ticket closed by this station, its CLOSED frame, and the close of the day with its voids. -/

namespace Sys2Proof.Machine

/-! ### A ticket closes (R15, R17, R19) -/

/-- The ticket store once a ticket has closed. -/
def Tickets.closedAs (t : TicketNo) (c : Closure) (k : Tickets) : Tickets :=
  { k with
    closed := closedWith t c k.closed
    table := k.table.filter (fun x => decide (x.number ≠ t))
    cursor := if k.cursor = some t then recordBefore t none k.table else k.cursor
    register := if t.home = k.owner ∧ k.owner ≠ 0
      then k.register.map (fun e => if e.serial = t.serial then e.close c else e) else k.register }

theorem modifyEntry_eq (t : TicketNo) (f : RegEntry → RegEntry) (s : State) : modifyEntry t f s =
    { s with tickets := { s.tickets with
      register := if t.home = s.tickets.owner ∧ s.tickets.owner ≠ 0
        then s.tickets.register.map (fun e => if e.serial = t.serial then f e else e) else s.tickets.register } } := by
  by_cases h : t.home = s.tickets.owner ∧ s.tickets.owner ≠ 0
  · rw [modifyEntry, if_pos (by simpa [State.speaksFor] using h), if_pos h]
    rfl
  · rw [modifyEntry, if_neg (by simpa [State.speaksFor] using h), if_neg h]

theorem closeTicket_eq (t : TicketNo) (c : Closure) (s : State) :
    closeTicket t c s = { s with tickets := s.tickets.closedAs t c } := by
  rw [closeTicket, modifyEntry_eq]
  rfl

theorem closedWith_new {t : TicketNo} {c : Closure} {l : List ClosedEntry} (h : ∀ e ∈ l, e.number ≠ t) :
    closedWith t c l = l.drop (if 32 ≤ l.length then 1 else 0) ++ [{ number := t, closure := c }] := by
  rw [closedWith, if_neg (by simpa using h)]
  by_cases hl : 32 ≤ l.length
  · rw [if_pos hl, if_pos (by exact hl)]
  · rw [if_neg hl, if_neg (by exact hl), List.drop_zero]

theorem closedEntry_none_iff {t : TicketNo} {s : State} :
    s.closedEntry t = none ↔ ∀ e ∈ s.tickets.closed, e.number ≠ t := by
  simp [State.closedEntry]

/-! ### A frame that asks for a place (R91, R92) -/

theorem linkHolds_object {f : Frame} {s : State} (hf : f.kind ≠ .object) : ¬ (s.linkHolds && decide (f.kind = .object)) = true := by
  simp [hf]

theorem freePlaces_pos_iff {s : State} : 0 < s.freePlaces ↔ s.occupied < 24 := by
  simp only [State.freePlaces, Config.queuePlaces]
  omega

theorem sendAsking_room {f : Frame} {s : State} (hf : f.kind ≠ .object) (h : s.occupied < 24) :
    sendAsking f s = { s with link := { s.link with queue := placed (.single f) s.link.queue } } := by
  rw [sendAsking, if_neg (linkHolds_object hf), if_pos (freePlaces_pos_iff.2 h)]
  rfl

/-- Places in use by a queue beside the closing places of a state. -/
def State.occupiedBy (q : List QueueItem) (s : State) : Nat := (q.map (fun i => i.frames.length)).sum + s.closingPlaces

theorem occupied_congr {s u : State} (h : u.closingPlaces = s.closingPlaces) : u.occupied = s.occupiedBy u.link.queue := by
  rw [State.occupied, h]
  rfl

theorem occupied_placed (f : Frame) (s : State) : s.occupiedBy (placed (.single f) s.link.queue) = s.occupied + 1 := by
  have h := enqueue_framesQueued (.single f) s
  have hone : (QueueItem.single f).frames.length = 1 := rfl
  rw [hone] at h
  show (enqueue (.single f) s).link.framesQueued + s.closingPlaces = s.link.framesQueued + s.closingPlaces + 1
  omega

theorem withoutYoungest_none : ∀ {q : List QueueItem}, (∀ i ∈ q, i.burst = none ∨ i.started = true ∨ i.onWire = true) →
    withoutYoungest q = none
  | [], _ => rfl
  | i :: rest, h => by
    have hi := h i (List.mem_cons_self)
    rw [withoutYoungest, withoutYoungest_none fun j hj => h j (List.mem_cons_of_mem _ hj)]
    cases hb : i.burst with
    | none => rfl
    | some t =>
      rw [hb] at hi
      have : (i.started || i.onWire) = true := by simpa using hi
      simp [this]

/-- With no place empty and nothing to evict the frame is dropped. -/
theorem sendAsking_full {f : Frame} {s : State} (hf : f.kind ≠ .object) (h : 24 ≤ s.occupied)
    (hann : ∀ i ∈ s.link.queue, i.onWire = true ∨ i.frames.head?.map Frame.kind ≠ some .announce)
    (hburst : ∀ i ∈ s.link.queue, i.burst = none ∨ i.started = true ∨ i.onWire = true) : sendAsking f s = s := by
  have hidle : s.link.queue.any QueueItem.isIdleAnnounce = false := by
    rw [List.any_eq_false]
    intro i hi
    rcases hann i hi with h | h <;> simp [QueueItem.isIdleAnnounce, QueueItem.kind?, h]
  have hevict : evict s = none := by
    simp only [evict, hidle, Bool.false_eq_true, if_false, withoutYoungest_none hburst]
  rw [sendAsking, if_neg (linkHolds_object hf), if_neg (fun hp => absurd (freePlaces_pos_iff.1 hp) (Nat.not_lt.2 h)), hevict]

/-- The record with no mark of a pending broadcast. -/
def Record.unmarked (r : Record) : Record := { r with pendingBroadcast := false }

theorem markPending_unmarked (t : TicketNo) (s : State) :
    (markPending t s).tickets.table.map Record.unmarked = s.tickets.table.map Record.unmarked := by
  simp only [markPending, modifyRecord, State.onTickets, List.map_map]
  refine List.map_congr_left fun r _ => ?_
  simp only [Function.comp_apply]
  split
  · split <;> rfl
  · rfl

/-- Whatever the queue holds, the frame changes the queue and marks of pending broadcasts alone. -/
theorem sendAsking_shape (f : Frame) (s : State) : ∃ table q,
    sendAsking f s = { s with tickets := { s.tickets with table := table }, link := { s.link with queue := q } } ∧
      table.map Record.unmarked = s.tickets.table.map Record.unmarked := by
  unfold sendAsking
  split
  · exact ⟨_, _, rfl, rfl⟩
  · split
    · exact ⟨_, _, rfl, rfl⟩
    · unfold evict
      split
      · rename_i he
        split at he
        · cases he
          exact ⟨_, _, rfl, rfl⟩
        · split at he
          · cases he
            exact ⟨_, _, rfl, markPending_unmarked _ s⟩
          · cases he
      · exact ⟨_, _, rfl, rfl⟩

/-! ### The voids of a forced close (R214) -/

/-- The ticket's record, where there is one, has a seller reference. -/
def State.sellerKnown (t : TicketNo) (s : State) : Bool := (s.findRecord t).any (fun r => r.seller.isSome)

/-- The closure a forced void writes. -/
def State.voidClosure (t : TicketNo) (s : State) : Closure := .settled .voided 0 0 s.myId (s.sellerKnown t)

theorem sellerKnown_of_unmarked {t m : TicketNo} {s u : State} (hne : m ≠ t)
    (h : u.tickets.table.map Record.unmarked = (s.tickets.table.filter (fun r => decide (r.number ≠ t))).map Record.unmarked) :
    u.sellerKnown m = s.sellerKnown m := by
  have hmap : ∀ l : List Record, (l.find? (fun r => decide (r.number = m))).any (fun r => r.seller.isSome) =
      ((l.map Record.unmarked).find? (fun r => decide (r.number = m))).any (fun r => r.seller.isSome) := by
    intro l
    rw [List.find?_map, Option.any_map]
    rfl
  have hfilter : (s.tickets.table.filter (fun r => decide (r.number ≠ t))).find? (fun r => decide (r.number = m)) =
      s.tickets.table.find? (fun r => decide (r.number = m)) := by
    rw [List.find?_filter]
    congr 1
    funext r
    by_cases hr : r.number = m <;> simp [hr, hne]
  simp only [State.sellerKnown, State.findRecord]
  rw [hmap, h, ← hmap, hfilter]

/-- The voids of a forced close: what becomes of the tickets, the count and the queue. -/
structure ForceVoided (ns : List Nat) (s u : State) : Prop where
  shape : ∃ table cursor q, u = { s with
    day := { s.day with totals := { s.day.totals with
      voided := if ns.length = 0 then s.day.totals.voided else min 65535 (s.day.totals.voided + ns.length) } }
    tickets := { s.tickets with
      table := table
      cursor := cursor
      register := s.tickets.register.map (fun e => if e.serial ∈ ns then { e with life := .voided, holder := 0 } else e)
      closed := (s.tickets.closed ++ ns.map (fun n => (⟨⟨s.tickets.owner, n⟩, s.voidClosure ⟨s.tickets.owner, n⟩⟩ : ClosedEntry))).drop
        (s.tickets.closed.length + ns.length - 32) }
    link := { s.link with queue := q } }
  records : u.tickets.table.map Record.unmarked =
    (s.tickets.table.filter (fun r => !(ns.any (fun n => decide (r.number = ⟨s.tickets.owner, n⟩))))).map Record.unmarked
  sent : s.occupied + ns.length ≤ 24 → u.link.queue = ns.foldl (fun q n =>
    placed (.single (.closed ⟨s.tickets.owner, n⟩ .voided 0 0 (s.sellerKnown ⟨s.tickets.owner, n⟩))) q) s.link.queue
  dropped : 24 ≤ s.occupied → (∀ i ∈ s.link.queue, i.burst = none ∧ i.frames.head?.map Frame.kind ≠ some .announce) →
    u.link.queue = s.link.queue

theorem forceVoid_sends (n : Nat) (s : State) : forceVoid n s =
    sendAsking (.closed ⟨s.tickets.owner, n⟩ .voided 0 0 (s.sellerKnown ⟨s.tickets.owner, n⟩)) { s with
      day := { s.day with totals := s.day.totals.oneVoided }
      tickets := s.tickets.closedAs ⟨s.tickets.owner, n⟩ (s.voidClosure ⟨s.tickets.owner, n⟩) } := by
  unfold forceVoid
  cases hf : s.findRecord ⟨s.tickets.owner, n⟩ <;>
    simp only [closeTicket_eq, State.voidClosure, State.sellerKnown, hf, Option.any_none, Option.any_some] <;> rfl

/-- The closed list keeps its newest 32 entries. -/
theorem closedWith_drop {t : TicketNo} {c : Closure} {l : List ClosedEntry} (h : ∀ e ∈ l, e.number ≠ t) (hl : l.length ≤ 32) :
    closedWith t c l = (l ++ [({ number := t, closure := c } : ClosedEntry)]).drop (l.length + 1 - 32) := by
  rw [closedWith_new h]
  by_cases h32 : 32 ≤ l.length
  · rw [if_pos h32, show l.length + 1 - 32 = 1 by omega, List.drop_append_of_le_length (by omega)]
  · rw [if_neg h32, show l.length + 1 - 32 = 0 by omega]
    rfl

theorem drop_append_drop {α : Type} {l m : List α} (a b : Nat) (ha : a ≤ l.length) :
    (l.drop a ++ m).drop b = (l ++ m).drop (a + b) := by
  rw [← List.drop_append_of_le_length ha, List.drop_drop]

theorem forceVoided_nil {s : State} (h : s.tickets.closed.length ≤ 32) : ForceVoided [] s s := by
  refine ⟨⟨s.tickets.table, s.tickets.cursor, s.link.queue, ?_⟩, ?_, fun _ => rfl, fun _ _ => rfl⟩
  · have hregister : s.tickets.register.map (fun e => if e.serial ∈ ([] : List Nat) then { e with life := .voided, holder := 0 } else e) =
        s.tickets.register := by simp
    rw [hregister, List.map_nil, List.append_nil, show s.tickets.closed.length + ([] : List Nat).length - 32 = 0 from Nat.sub_eq_zero_of_le h]
    rfl
  · exact congrArg _ (List.filter_eq_self.2 fun _ _ => rfl).symm

/-- One void of the close, before the others. -/
theorem forceVoid_cons {n : Nat} {ns : List Nat} {s u w : State} (hu : ∃ table q, u = { s with
      day := { s.day with totals := s.day.totals.oneVoided }
      tickets := { s.tickets.closedAs ⟨s.tickets.owner, n⟩ (s.voidClosure ⟨s.tickets.owner, n⟩) with table := table }
      link := { s.link with queue := q } })
    (hrecords : u.tickets.table.map Record.unmarked =
      (s.tickets.table.filter (fun r => decide (r.number ≠ ⟨s.tickets.owner, n⟩))).map Record.unmarked)
    (hnodup : (n :: ns).Nodup) (howner : s.tickets.owner ≠ 0)
    (hclosed : ∀ e ∈ s.tickets.closed, e.number ≠ ⟨s.tickets.owner, n⟩) (hlen : s.tickets.closed.length ≤ 32)
    (hroom : s.occupied < 24 → u.link.queue = placed (.single (.closed ⟨s.tickets.owner, n⟩ .voided 0 0
      (s.sellerKnown ⟨s.tickets.owner, n⟩))) s.link.queue)
    (hfull : 24 ≤ s.occupied → (∀ i ∈ s.link.queue, i.burst = none ∧ i.frames.head?.map Frame.kind ≠ some .announce) →
      u.link.queue = s.link.queue)
    (h : ForceVoided ns u w) : ForceVoided (n :: ns) s w := by
  obtain ⟨table, q, hu⟩ := hu
  have hn : n ∉ ns := (List.nodup_cons.1 hnodup).1
  have hid : u.myId = s.myId := by rw [hu]; rfl
  have howner' : u.tickets.owner = s.tickets.owner := by rw [hu]; rfl
  have hclosing : u.closingPlaces = s.closingPlaces := by rw [hu]; rfl
  have hseller : ∀ m ∈ ns, u.sellerKnown ⟨u.tickets.owner, m⟩ = s.sellerKnown ⟨s.tickets.owner, m⟩ := fun m hm => by
    rw [howner']
    exact sellerKnown_of_unmarked (fun h => hn (by rw [← (TicketNo.mk.inj h).2]; exact hm)) hrecords
  have hday : (if ns.length = 0 then u.day.totals.voided else min 65535 (u.day.totals.voided + ns.length)) =
      if (n :: ns).length = 0 then s.day.totals.voided else min 65535 (s.day.totals.voided + (n :: ns).length) := by
    rw [show u.day.totals.voided = min 65535 (s.day.totals.voided + 1) by rw [hu]; rfl]
    simp only [List.length_cons, Nat.succ_ne_zero, if_false]
    split <;> omega
  have hregister : u.tickets.register.map (fun e => if e.serial ∈ ns then { e with life := .voided, holder := 0 } else e) =
      s.tickets.register.map (fun e => if e.serial ∈ n :: ns then { e with life := .voided, holder := 0 } else e) := by
    rw [show u.tickets.register = s.tickets.register.map (fun e =>
      if e.serial = n then { e with life := .voided, holder := 0 } else e) by rw [hu]; exact if_pos ⟨rfl, howner⟩, List.map_map]
    refine List.map_congr_left fun e _ => ?_
    by_cases he : e.serial = n <;> simp [he]
  have hlist : (u.tickets.closed ++ ns.map (fun m => (⟨⟨u.tickets.owner, m⟩, u.voidClosure ⟨u.tickets.owner, m⟩⟩ : ClosedEntry))).drop
        (u.tickets.closed.length + ns.length - 32) =
      (s.tickets.closed ++ (n :: ns).map (fun m => (⟨⟨s.tickets.owner, m⟩, s.voidClosure ⟨s.tickets.owner, m⟩⟩ : ClosedEntry))).drop
        (s.tickets.closed.length + (n :: ns).length - 32) := by
    rw [show u.tickets.closed = (s.tickets.closed ++ [(⟨_, s.voidClosure ⟨s.tickets.owner, n⟩⟩ : ClosedEntry)]).drop
        (s.tickets.closed.length + 1 - 32) by rw [hu]; exact closedWith_drop hclosed hlen,
      List.map_congr_left (g := fun m => (⟨⟨s.tickets.owner, m⟩, s.voidClosure ⟨s.tickets.owner, m⟩⟩ : ClosedEntry)) (by
        intro m hm
        rw [State.voidClosure, hseller m hm, hid, howner', State.voidClosure]),
      drop_append_drop _ _ (by simp; omega), List.append_assoc, List.map_cons]
    congr 1
    simp only [List.length_drop, List.length_append, List.length_nil, List.length_cons]
    omega
  obtain ⟨⟨table', cursor', q', hshape⟩, hrecords', hsent, hdropped⟩ := h
  refine ⟨⟨table', cursor', q', ?_⟩, ?_, fun hle => ?_, fun hge hquiet => ?_⟩
  · rw [hshape, hday, hregister, hlist, hu]
    rfl
  · have hpush (p : TicketNo → Bool) (l : List Record) :
        (l.filter (fun r => p r.number)).map Record.unmarked = (l.map Record.unmarked).filter (fun r => p r.number) :=
      (List.filter_map (f := Record.unmarked) (p := fun r => p r.number) (l := l)).symm
    have hothers := hpush (fun t => !(ns.any fun m => decide (t = ⟨u.tickets.owner, m⟩)))
    rw [hrecords', hothers, hrecords, ← hothers, List.filter_filter, howner']
    congr 2
    funext r
    by_cases hr : r.number = ⟨s.tickets.owner, n⟩ <;> simp [hr]
  · have hq := hroom (by simp only [List.length_cons] at hle; omega)
    have hu_occupied : u.occupied = s.occupied + 1 := by
      rw [occupied_congr hclosing, hq]
      exact occupied_placed _ s
    rw [hsent (by simp only [List.length_cons] at hle; omega), hq, List.foldl_cons]
    exact foldl_congr_mem (fun q m hm => by rw [hseller m hm, howner']) _
  · have hq := hfull hge hquiet
    rw [hdropped (by rw [occupied_congr hclosing, hq]; exact hge) (by rw [hq]; exact hquiet), hq]

/-- The voids one after another, in the order of the register. -/
theorem forceVoid_foldl : ∀ (ns : List Nat) (s : State), ns.Nodup → s.tickets.owner ≠ 0 →
    (∀ n ∈ ns, ∀ e ∈ s.tickets.closed, e.number ≠ ⟨s.tickets.owner, n⟩) → s.tickets.closed.length ≤ 32 →
    ForceVoided ns s (ns.foldl (fun s n => forceVoid n s) s)
  | [], s, _, _, _, hlen => forceVoided_nil hlen
  | n :: ns, s, hnodup, howner, hclosed, hlen => by
    obtain ⟨v, hv⟩ : ∃ v : State, v = { s with
      day := { s.day with totals := s.day.totals.oneVoided }
      tickets := s.tickets.closedAs ⟨s.tickets.owner, n⟩ (s.voidClosure ⟨s.tickets.owner, n⟩) } := ⟨_, rfl⟩
    obtain ⟨f, hf⟩ : ∃ f, f = Frame.closed ⟨s.tickets.owner, n⟩ .voided 0 0 (s.sellerKnown ⟨s.tickets.owner, n⟩) := ⟨_, rfl⟩
    have hkind : f.kind ≠ .object := by rw [hf]; exact fun h => nomatch h
    have hvoid : forceVoid n s = sendAsking f v := by rw [forceVoid_sends, hf, hv]
    obtain ⟨table, q, hshape, hrecords⟩ := sendAsking_shape f v
    have hnew : (sendAsking f v).tickets.closed =
        (s.tickets.closed ++ [(⟨⟨s.tickets.owner, n⟩, s.voidClosure ⟨s.tickets.owner, n⟩⟩ : ClosedEntry)]).drop
          (s.tickets.closed.length + 1 - 32) := by
      rw [hshape, hv]
      exact closedWith_drop (hclosed n List.mem_cons_self) hlen
    have howner' : (sendAsking f v).tickets.owner = s.tickets.owner := by rw [hshape, hv]; rfl
    rw [List.foldl_cons, hvoid]
    refine forceVoid_cons (u := sendAsking f v) ⟨table, q, by rw [hshape, hv]⟩ ?_ hnodup howner (hclosed n List.mem_cons_self) hlen
      (fun hroom => ?_) (fun hge hquiet => ?_) (forceVoid_foldl ns _ (List.nodup_cons.1 hnodup).2 (by rw [howner']; exact howner) ?_ ?_)
    · rw [hshape, hrecords, hv]
      rfl
    · rw [sendAsking_room hkind (by rw [hv]; exact hroom), hv, hf]
    · rw [sendAsking_full hkind (by rw [hv]; exact hge) (fun i hi => .inr (hquiet i (by rw [hv] at hi; exact hi)).2)
        (fun i hi => .inl (hquiet i (by rw [hv] at hi; exact hi)).1), hv]
    · intro m hm e he
      rw [hnew] at he
      rw [howner']
      rcases List.mem_append.1 (List.mem_of_mem_drop he) with he | he
      · exact hclosed m (List.mem_cons_of_mem _ hm) e he
      · rw [List.mem_singleton.1 he]
        exact fun h => (List.nodup_cons.1 hnodup).1 (by rw [(TicketNo.mk.inj h).2]; exact hm)
    · rw [hnew]
      simp only [List.length_drop, List.length_append, List.length_cons, List.length_nil]
      omega

/-! ### The checks of DAY CLOSE (R213) -/

theorem slotBusy_false {s : State} (hw : s.weigh = none) (hp : s.payOp = none) :
    (s.slotBusy .weigh || s.slotBusy .pay) = false := by
  simp [State.slotBusy, hw, hp]

theorem openSerials_isEmpty_iff {s : State} : s.openSerials.isEmpty = true ↔ ∀ e ∈ s.tickets.register, e.life ≠ .opened := by
  simp [State.openSerials, List.isEmpty_iff]

theorem dayClose_busy {force : Bool} {s : State} (h : s.weigh ≠ none ∨ s.payOp ≠ none) : dayClose force s = reply .busy s := by
  have hbusy : (s.slotBusy .weigh || s.slotBusy .pay) = true := by
    rcases h with h | h <;> simp [State.slotBusy, Option.isSome_iff_ne_none, h]
  rw [dayClose, if_pos hbusy]

theorem dayClose_openTickets {s : State} (hw : s.weigh = none) (hp : s.payOp = none)
    (h : ∃ e ∈ s.tickets.register, e.life = .opened) : dayClose false s = reply .openTickets s := by
  have hopen : s.openSerials.isEmpty = false := by
    rw [Bool.eq_false_iff, ne_eq, openSerials_isEmpty_iff]
    obtain ⟨e, he, hl⟩ := h
    exact fun hall => hall e he hl
  rw [dayClose, slotBusy_false hw hp, hopen]
  rfl

theorem dayClose_notAllowed {s : State} (hw : s.weigh = none) (hp : s.payOp = none)
    (h : ∃ e ∈ s.tickets.register, e.life = .opened ∧ e.holder ≠ 0) : dayClose true s = reply .notAllowed s := by
  have hheld : s.tickets.register.any (fun e => decide (e.life = .opened) && decide (e.holder ≠ 0)) = true := by
    simpa using h
  rw [dayClose, slotBusy_false hw hp, hheld]
  rfl

/-- With its tickets in order the close waits on the room for its report alone. -/
theorem dayClose_passes {force : Bool} {s : State} (hw : s.weigh = none) (hp : s.payOp = none)
    (hopen : force = false → ∀ e ∈ s.tickets.register, e.life ≠ .opened)
    (hheld : force = true → ∀ e ∈ s.tickets.register, e.life = .opened → e.holder = 0) :
    dayClose force s = if s.receiptBlocked = true then reply .printQueueFull s else closeDay force s := by
  rw [dayClose, slotBusy_false hw hp]
  cases force with
  | false =>
    rw [openSerials_isEmpty_iff.2 (hopen rfl)]
    rfl
  | true =>
    have hnone : s.tickets.register.any (fun e => decide (e.life = .opened) && decide (e.holder ≠ 0)) = false := by
      simpa using hheld rfl
    rw [hnone]
    rfl

/-- The state a close of the day leaves after its voids. -/
def State.dayClosed (voids : Nat) (s : State) : State :=
  { s with
    day := { s.day with isOpen := false, tick := none }
    printer := { s.printer with
      jobs := s.printer.jobs ++ [receiptJob .dayReport none (dayReportLines s) s.printer]
      nextJob := jobAfter s.printer.nextNumber }
    notices := { s.notices with
      queue := s.notices.queue ++ [(s.notices.seq, .day s.day.number .closed voids)]
      seq := (s.notices.seq + 1) % 256 } }

theorem dayReport_room {k : Nat} {s : State} (h : s.printer.jobs.length < 8) : ∃ flags notices,
    postNotice (.day s.day.number .closed k) ((makeReceipt .dayReport none (dayReportLines s) s).onDay
      (fun d => { d with isOpen := false, tick := none })) = { s.dayClosed k with flags := flags, notices := notices } ∧
    (s.notices.queue.length < 16 → flags = s.flags ∧ notices = (s.dayClosed k).notices) := by
  rw [makeReceipt_room h]
  rcases Nat.lt_or_ge s.notices.queue.length 16 with hr | hr
  · rw [postNotice_room (by exact hr)]
    exact ⟨_, _, rfl, fun _ => ⟨rfl, rfl⟩⟩
  · rw [postNotice_full (by exact hr)]
    exact ⟨_, _, rfl, fun h => absurd h (Nat.not_lt.2 hr)⟩

theorem closeDay_eq {force : Bool} {ns : List Nat} {s u : State} (hns : (if force = true then s.openSerials else []) = ns)
    (hu : ns.foldl (fun s n => forceVoid n s) s = u) (h : u.printer.jobs.length < 8) : ∃ flags notices,
    closeDay force s = ({ u.dayClosed ns.length with flags := flags, notices := notices },
      [1, byte u.printer.nextNumber] ++ bytesOf 2 ns.length) ∧
    (u.notices.queue.length < 16 → flags = u.flags ∧ notices = (u.dayClosed ns.length).notices) := by
  obtain ⟨flags, notices, hpost, hroom⟩ := dayReport_room (k := ns.length) h
  have hjob : u.jobOrNone = u.printer.nextNumber := if_pos (printRoom_iff.2 h)
  refine ⟨flags, notices, ?_, hroom⟩
  rw [← hpost, ← hjob, closeDay, hns]
  rw [hu, makeReceipt_room h]
  rfl

end Sys2Proof.Machine

open Sys2Proof Sys2Proof.Machine

/-- Settles O18: the checks by `dayClose`'s branches, the voids by `forceVoid_foldl`. -/
theorem dayClosePlainAndForce : Obligations.DayClosePlainAndForce := by
  have hacc (s : State) (ho : s.day.isOpen = true) (hr : s.flags.restarted = false) :
      ({ always 15 [1] with whenClosed := false, gated := true } : Acceptance).refusal 1 s = none :=
    Acceptance.refusal_none rfl (.inr hr) (by simp [always, ho]) (by simp [always])
  have hanswer {s t : State} {b : Byte} {bs : List Byte} {force : Bool} (ht : s.takes 1) (ho : s.day.isOpen = true)
      (hr : s.flags.restarted = false) (hb : boolOf b.toNat = some force) (h : dayClose force (s.accepted 1) = (t, bs)) :
      exec (.dayClose [b]) s = .next (t.answered bs) := by
    refine command_answers (ps := [b]) ht (by decide : 15 ∈ commandCodes) (hacc s ho hr) ?_
    simpa [withParams, hb] using h
  refine ⟨fun b s ht ho hr hb => ?_, fun s ht ho hr hw hp => ⟨fun hopen => ?_, fun hnone hjobs hroom => ?_⟩,
    fun s ht ho hr hw hp => ⟨fun hheld => ?_, ?_⟩⟩
  · obtain ⟨force, hforce⟩ : ∃ force, boolOf b.toNat = some force := by
      obtain h | h : b.toNat = 0 ∨ b.toNat = 1 := by omega
      · exact ⟨false, by rw [h]; rfl⟩
      · exact ⟨true, by rw [h]; rfl⟩
    refine ⟨fun hbusy => hanswer ht ho hr hforce ?_, fun hw hp hnone hreq hfull => hanswer ht ho hr hforce ?_⟩
    · rw [dayClose_busy (by simpa using hbusy)]
      rfl
    · rw [dayClose_passes (by simpa using hw) (by simpa using hp) (fun _ => by simpa using hnone)
        (fun _ => by simpa using fun e he h => absurd h (hnone e he)), if_pos (receiptBlocked_iff.2 (by simpa using ⟨hreq, hfull⟩))]
      rfl
  · rw [hanswer ht ho hr (b := 0) rfl (dayClose_openTickets (by simpa using hw) (by simpa using hp) (by simpa using hopen))]
    rfl
  · have hpasses := dayClose_passes (force := false) (s := s.accepted 1) (by simpa using hw) (by simpa using hp)
      (fun _ => by simpa using hnone) (fun h => by cases h)
    rw [if_neg (by rw [receiptBlocked_room (by simpa using hjobs)]; exact Bool.false_ne_true)] at hpasses
    obtain ⟨flags, notices, hclose, htold⟩ := closeDay_eq (force := false) (ns := []) (s := s.accepted 1)
      (u := s.accepted 1) rfl rfl (by simpa using hjobs)
    obtain ⟨rfl, rfl⟩ := htold (by simpa using hroom)
    rw [hanswer ht ho hr (b := 0) rfl (hpasses.trans hclose)]
    obtain ⟨p, hv⟩ := s.accepted_shape 1
    rw [hv]
    rfl
  · rw [hanswer ht ho hr (b := 1) rfl (dayClose_notAllowed (by simpa using hw) (by simpa using hp) (by simpa using hheld))]
    rfl
  · intro howner hfree hjobs hsorted hlen opens number seller hnew voided closed
    have hpasses := dayClose_passes (force := true) (s := s.accepted 1) (by simpa using hw) (by simpa using hp)
      (fun h => by cases h) (fun _ => by simpa using hfree)
    rw [if_neg (by rw [receiptBlocked_room (by simpa using hjobs)]; exact Bool.false_ne_true)] at hpasses
    obtain ⟨p, hv⟩ := s.accepted_shape 1
    rw [hv] at hpasses
    have hserials : s.openSerials = opens.map RegEntry.serial := rfl
    have hserial : (s.tickets.register.map RegEntry.serial).Nodup :=
      (List.pairwise_map.2 (hsorted.imp fun h => Nat.ne_of_lt h))
    have hnodup : s.openSerials.Nodup := hserial.sublist (List.filter_sublist.map _)
    have hregister : s.tickets.register.map (fun e => if e.serial ∈ s.openSerials then { e with life := .voided, holder := 0 } else e) =
        s.tickets.register.map (fun e => if e.life = .opened then { e with life := .voided, holder := 0 } else e) := by
      refine List.map_congr_left fun e he => ?_
      have hiff : e.serial ∈ s.openSerials ↔ e.life = .opened := by
        refine ⟨fun h => ?_, fun h => List.mem_map_of_mem (List.mem_filter.2 ⟨he, by simpa using h⟩)⟩
        obtain ⟨x, hx, hxe⟩ := List.mem_map.1 h
        obtain ⟨hx, hlife⟩ := List.mem_filter.1 hx
        rw [← eq_of_nodup_map hserial hx he hxe]
        simpa using hlife
      simp only [hiff]
    have hseller : seller = fun e => s.sellerKnown (number e) := by
      funext e
      simp only [seller, State.sellerKnown]
      cases s.findRecord (number e) <;> rfl
    have hlength : s.openSerials.length = opens.length := by rw [hserials, List.length_map]
    have hclosed : (s.tickets.closed ++ s.openSerials.map (fun n =>
          (⟨⟨s.tickets.owner, n⟩, s.voidClosure ⟨s.tickets.owner, n⟩⟩ : ClosedEntry))).drop
          (s.tickets.closed.length + s.openSerials.length - 32) = closed.drop (closed.length - 32) := by
      simp only [closed, hseller, hserials, List.map_map, List.length_append, List.length_map]
      rfl
    have hvoids := forceVoid_foldl s.openSerials { s with printer := { s.printer with load := none }, port := p } hnodup howner
      (fun n hn => by
        obtain ⟨e, he, rfl⟩ := List.mem_map.1 hn
        exact closedEntry_none_iff.1 (hnew e he)) hlen
    generalize hu : s.openSerials.foldl (fun s n => forceVoid n s)
      { s with printer := { s.printer with load := none }, port := p } = u at hvoids
    obtain ⟨⟨table, cursor, q, hshape⟩, hrecords, hsent, hdropped⟩ := hvoids
    obtain ⟨flags, notices, hclose, htold⟩ := closeDay_eq (force := true) (ns := s.openSerials)
      (s := { s with printer := { s.printer with load := none }, port := p }) rfl hu (by rw [hshape]; exact hjobs)
    refine ⟨{ u.dayClosed opens.length with flags := flags, notices := notices }, ?_, ?_, ?_, fun hle => ?_, fun hge hquiet => ?_, fun hroom => ?_⟩
    · have hexec := hanswer ht ho hr (b := 1) rfl ((congrArg (dayClose true) hv).trans (hpasses.trans hclose))
      rw [hexec, hlength, hshape]
      rfl
    · rw [hv, ← hregister, ← hclosed]
      have hvoided : voided = if s.openSerials.length = 0 then s.day.totals.voided
          else min 65535 (s.day.totals.voided + s.openSerials.length) := by rw [hlength]
      rw [hvoided, hshape]
      rfl
    · show u.tickets.table.map _ = _
      refine hrecords.trans ?_
      show List.map Record.unmarked (s.tickets.table.filter _) = List.map Record.unmarked _
      simp only [hserials, List.any_map]
      rfl
    · refine (hsent (by rw [hlength]; exact hle)).trans ?_
      rw [hseller, hserials, List.foldl_map]
      rfl
    · exact hdropped hge hquiet
    · obtain ⟨rfl, rfl⟩ := htold (by rw [hshape]; exact hroom)
      rw [hlength, hshape]
      exact ⟨rfl, rfl⟩

end

section
/-! PROOFS. WEIGH CANCEL, PAY CANCEL and the end of the confirm timer. -/

namespace Sys2Proof.Machine

/-! ### A claim that is cancelled (R65, R156) -/

section
variable {slot : SlotId} {t : TicketNo} {i : QueueItem} {s : State}

theorem any_of_slot {f : QueueItem → Bool} (hq : s.link.queue.filter (fun i => decide (i.slot = some slot)) = [i]) :
    s.link.queue.any (fun i => decide (i.slot = some slot) && f i) = f i := by
  rw [← List.any_filter, hq]
  simp

/-- The CLAIM has not been on the wire: it is withdrawn. -/
theorem cancelClaim_fresh (hq : s.link.queue.filter (fun i => decide (i.slot = some slot)) = [i]) (hs : i.started = false)
    (hw : i.onWire = false) : cancelClaim slot t s = endOp slot .cancelled none 0
      (if slot = .weigh then setCustody t .free (withdrawClaim slot s)
       else setHolder t 0 (setCustody t .free (withdrawClaim slot s))) := by
  have hfresh : s.link.queue.any (fun i => decide (i.slot = some slot) && !i.started && !i.onWire) = true := by
    simp only [Bool.and_assoc]
    rw [any_of_slot hq, hs, hw]
    rfl
  simp only [cancelClaim, hfresh, if_true, Bool.true_and, decide_eq_true_eq]

/-- The CLAIM is or has been on the wire: a RELEASE goes out in its place. -/
theorem cancelClaim_sent (hq : s.link.queue.filter (fun i => decide (i.slot = some slot)) = [i])
    (h : i.started = true ∨ i.onWire = true) : cancelClaim slot t s = endOp slot .cancelled none 0
      (setHolder t 0 (setCustody t .free (enqueue (.single (.release t)) (withdrawClaim slot s)))) := by
  have hfresh : s.link.queue.any (fun i => decide (i.slot = some slot) && !i.started && !i.onWire) = false := by
    simp only [Bool.and_assoc]
    rw [any_of_slot hq]
    rcases h with h | h <;> simp [h]
  have hsent : s.link.queue.any (fun i => decide (i.slot = some slot) && (i.started || i.onWire)) = true := by
    rw [any_of_slot hq]
    simpa using h
  simp only [cancelClaim, hfresh, hsent, if_true, Bool.false_and, Bool.false_eq_true, if_false]

theorem withdrawClaim_none (h : ∀ i ∈ s.link.queue, i.slot ≠ some slot) : withdrawClaim slot s = s := by
  have hq : s.link.queue.filter (fun i => decide (i.slot ≠ some slot)) = s.link.queue :=
    List.filter_eq_self.2 fun i hi => by simpa using h i hi
  rw [withdrawClaim, State.onLink, hq]

/-- The CLAIM was delivered: a RELEASE takes the closing place. -/
theorem cancelClaim_delivered (h : ∀ i ∈ s.link.queue, i.slot ≠ some slot) : cancelClaim slot t s = endOp slot .cancelled none 0
      (setHolder t 0 (setCustody t .free (sendOnClosing slot (.release t) s))) := by
  have hany (f : QueueItem → Bool) : s.link.queue.any (fun i => decide (i.slot = some slot) && f i) = false := by
    rw [List.any_eq_false]
    intro i hi
    simp [h i hi]
  have hfresh := hany (fun i => !i.started && !i.onWire)
  have hsent := hany (fun i => i.started || i.onWire)
  simp only [← Bool.and_assoc] at hfresh
  simp only [cancelClaim, hfresh, hsent, withdrawClaim_none h, Bool.false_and, Bool.false_eq_true, if_false]

end

/-- Custody of a record leaves this station's slots, its register entry unchanged. -/
theorem setCustody_free {t : TicketNo} {r : Record} {s : State} (hf : s.findRecord t = some r) (ho : r.custody.isOwn = true) :
    setCustody t .free s =
      { s with tickets := { s.tickets.handedBack r (s.roleKeeps r) with register := s.tickets.register } } := by
  have hshape := setCustody_shape t .free s
  have hheld := handOver_eq (c := .free) 0 hf ho rfl
  rw [setHolder, modifyEntry_eq] at hheld
  have hregister : (setCustody t .free s).tickets.register = s.tickets.register := by
    rw [setCustody_leaves hf ho rfl]
    split <;> rfl
  have htickets : (setCustody t .free s).tickets =
      { s.tickets.handedBack r (s.roleKeeps r) with register := s.tickets.register } := by
    have hk := congrArg State.tickets hheld
    have hparts : (setCustody t .free s).tickets = { (({ setCustody t .free s with tickets := { (setCustody t .free s).tickets with
      register := if t.home = (setCustody t .free s).tickets.owner ∧ (setCustody t .free s).tickets.owner ≠ 0
        then (setCustody t .free s).tickets.register.map (fun e => if e.serial = t.serial then { e with holder := 0 } else e)
        else (setCustody t .free s).tickets.register } } : State).tickets) with register := s.tickets.register } := by
      rw [← hregister]
    rw [hparts, hk]
    rfl
  rw [hshape, htickets]

/-! ### An operation on a ticket ends (R45, R140) -/

theorem endOp_weigh {o : WeighOp} {t : TicketNo} {s : State} (hw : s.weigh = some o) (ht : o.target = some t) (outcome : Result)
    (loss : Option LossReason) (holder : Nat) : endOp .weigh outcome loss holder s =
      postNotice (.done .weigh outcome (some t) loss holder 0)
        { s with
          weigh := none
          scale := { s.scale with context := none }
          weighTimer := { s.weighTimer with phase := .ended, count := none } } := by
  have hslot : s.slotTicket .weigh = some t := by rw [State.slotTicket, hw]; exact ht
  rw [endOp, hslot, closeSlot_weigh hw]
  simp only [ht, Option.isSome_some, if_true]

theorem endOp_pay {o : PayOp} {s : State} (hp : s.payOp = some o) (outcome : Result) (loss : Option LossReason) (holder : Nat) :
    endOp .pay outcome loss holder s = postNotice (.done .pay outcome (some o.target) loss holder 0)
      { s with
        payOp := none
        payTimer := { s.payTimer with phase := .ended, count := none }
        printer := s.printer.withoutJob o.placeholder } := by
  have hslot : s.slotTicket .pay = some o.target := by rw [State.slotTicket, hp]; rfl
  rw [endOp, hslot, closeSlot_pay hp]

theorem Printer.withoutJob_eq (n : Option Nat) (p : Printer) :
    p.withoutJob n = { p with jobs := p.jobs.filter (fun j => decide (some j.number ≠ n)) } := by
  cases n with
  | none => exact congrArg (fun jobs => { p with jobs := jobs }) (List.filter_eq_self.2 fun _ _ => rfl).symm
  | some n => simp [Printer.withoutJob]

/-- An offer ended by the host or by its timer gives its hold back. -/
theorem withdrawOffer_eq {o : PayOp} {r : Record} {s : State} (hp : s.payOp = some o) (hf : s.findRecord o.target = some r)
    (ho : r.custody.isOwn = true) : withdrawOffer o.target s = s.payReleased o r := by
  rw [withdrawOffer, releaseHold_pay hp hf ho, closeSlot_pay (o := { o with closing := false }) (by rfl), State.payReleased,
    findRecord_number hf]

theorem weighCancel_idle {s : State} (h : s.weigh = none) : weighCancel s = reply .notAllowed s := by
  simp only [weighCancel, h]

theorem weighCancel_ticketless {o : WeighOp} {s : State} (hw : s.weigh = some o) (ht : o.target = none) :
    weighCancel s = reply .ok (endOp .weigh .cancelled none 0 s) := by
  simp only [weighCancel, hw, ht]

theorem weighCancel_ticket {o : WeighOp} {t : TicketNo} {s : State} (hw : s.weigh = some o) (ht : o.target = some t) :
    weighCancel s = reply .ok (if o.phase = .claiming then cancelClaim .weigh t s else endHold .weigh t .cancelled none 0 s) := by
  simp only [weighCancel, hw, ht]

theorem payCancel_idle {s : State} (h : s.payOp = none) : payCancel s = reply .notAllowed s := by
  simp only [payCancel, h]

theorem payCancel_offer {o : PayOp} {f : Offer} {s : State} (hp : s.payOp = some o) (hf : o.offer = some f) :
    payCancel s = reply .ok (withdrawOffer o.target s) := by
  simp only [payCancel, hp, hf, Option.isSome_some, if_true]

theorem payCancel_claim {o : PayOp} {s : State} (hp : s.payOp = some o) (hf : o.offer = none) :
    payCancel s = reply .ok (cancelClaim .pay o.target s) := by
  simp only [payCancel, hp, hf, Option.isSome_none, Bool.false_eq_true, if_false]

theorem confirmTimer_expires {o : PayOp} {ms : Nat} {s : State} (hpow : s.powered = true) (hp : s.payOp = some o)
    (hc : o.confirm = some ms) : exec .confirmTimerExpiry s =
      .next (settle (postNotice (.done .pay .timeout (some o.target) none 0 0) (withdrawOffer o.target (elapse ms s)))) := by
  show execConfirmTimerExpiry s = _
  simp only [execConfirmTimerExpiry, hp, hc]
  exact congrArg _ (if_pos hpow)

end Sys2Proof.Machine

open Sys2Proof Sys2Proof.Machine

/-- Settles O23: by what the slot runs, and where its CLAIM is. -/
theorem weighCancel : Obligations.WeighCancel := by
  intro s ht hweigh
  have hanswer {t : State} {bs : List Byte} (h : Machine.weighCancel (s.accepted 0) = (t, bs)) :
      exec (.weighCancel []) s = .next (t.answered bs) :=
    command_answers (ps := []) ht (by decide : 23 ∈ commandCodes) (weighAlways_refusal hweigh (by simp)) h
  obtain ⟨p, hv⟩ := s.accepted_shape 0
  rw [hv] at hanswer ⊢
  refine ⟨fun hw => hanswer (weighCancel_idle (by exact hw)), ?_⟩
  intro o hw hroom cancelled
  refine ⟨fun htarget => ?_, ?_⟩
  · refine hanswer ?_
    rw [weighCancel_ticketless (o := o) (by exact hw) htarget, endOp_weigh_ticketless (o := o) (by exact hw) htarget,
      postNotice_room (by exact hroom)]
    simp only [cancelled, htarget]
    rfl
  · intro r htarget hf release others ended back
    have hend (w : Option WeighOp) (k : Tickets) (q : List QueueItem) (hslot : ∃ b, w = some { o with closing := b })
        (h : Machine.weighCancel { s with printer := { s.printer with load := none }, port := p } =
          reply .ok (endOp .weigh .cancelled none 0 { s with
            printer := { s.printer with load := none }, port := p, weigh := w, tickets := k, link := { s.link with queue := q } })) :
        ended k q := by
      obtain ⟨b, rfl⟩ := hslot
      refine hanswer ?_
      rw [h, endOp_weigh (o := { o with closing := b }) (by rfl) htarget, postNotice_room (by exact hroom)]
      simp only [cancelled, htarget]
      rfl
    have hclaim (hphase : o.phase = .claiming) : Machine.weighCancel { s with printer := { s.printer with load := none }, port := p } =
        reply .ok (cancelClaim .weigh r.number { s with printer := { s.printer with load := none }, port := p }) := by
      rw [weighCancel_ticket (o := o) (t := r.number) (by exact hw) htarget, if_pos hphase]
    refine ⟨fun hphase hc => ?_, fun p' hphase hc => ?_⟩
    · refine hend _ _ _ ⟨false, rfl⟩ ?_
      rw [weighCancel_ticket (o := o) (t := r.number) (by exact hw) htarget, if_neg (by rw [hphase]; decide), endHold,
        releaseHold_weigh (o := o) (r := r) (by exact hw) (by exact hf) (by rw [hc]; rfl)]
      rfl
    · have hown : r.custody.isOwn = true := by rw [hc]; rfl
      refine ⟨fun i hi => ⟨fun hs hwire => hend s.weigh _ _ ⟨o.closing, hw⟩ ?_, fun hs => hend s.weigh _ _ ⟨o.closing, hw⟩ ?_⟩,
        fun hnone hclosing => ?_⟩
      · rw [hclaim hphase, cancelClaim_fresh (by exact hi) hs hwire, if_pos rfl, setCustody_free (r := r) (by exact hf) hown]
        rfl
      · rw [hclaim hphase, cancelClaim_sent (by exact hi) hs, handOver_eq (r := r) 0 (by exact hf) hown rfl]
        rfl
      · have h := hend _ (s.tickets.handedBack r (s.roleKeeps r)) (if o.closing = true then placed release s.link.queue else s.link.queue)
          ⟨false, rfl⟩ (by
            rw [hclaim hphase, cancelClaim_delivered (by exact hnone), ← releaseHold,
              releaseHold_weigh (o := o) (r := r) (by exact hw) (by exact hf) hown]
            rfl)
        rwa [if_pos hclosing] at h

/-- Settles O37: an offer by `withdrawOffer_eq`, a claim by where its CLAIM is. -/
theorem offerEndsWithoutAPayout : Obligations.OfferEndsWithoutAPayout := by
  intro s hpay
  have hanswer {t : State} {bs : List Byte} (ht : s.takes 0) (h : payCancel (s.accepted 0) = (t, bs)) :
      exec (.payCancel []) s = .next (t.answered bs) :=
    command_answers (ps := []) ht (by decide : 32 ∈ commandCodes) (payAlways_refusal hpay (by simp)) h
  obtain ⟨p, hv⟩ := s.accepted_shape 0
  rw [hv] at hanswer ⊢
  refine ⟨fun ht hp => hanswer ht (payCancel_idle (by exact hp)), ?_⟩
  intro o r hp hf release others ended done
  refine ⟨?_, ?_⟩
  · intro f hoffer hc released
    have hown : r.custody.isOwn = true := by rw [hc]; rfl
    refine ⟨fun ht => hanswer ht ?_, fun ms hpow hconfirm hroom => ?_⟩
    · rw [payCancel_offer (by exact hp) hoffer, withdrawOffer_eq (r := r) (by exact hp) (by exact hf) hown, State.payReleased,
        Printer.withoutJob_eq, findRecord_number hf]
      rfl
    · have hp' : (elapse ms s).payOp = some { o with confirm := spend ms o.confirm } := by
        show Option.map _ s.payOp = _
        rw [hp]
        rfl
      rw [confirmTimer_expires hpow hp hconfirm,
        withdrawOffer_eq (o := { o with confirm := spend ms o.confirm }) (r := r) hp' (by exact hf) hown, postNotice_room (by exact hroom),
        State.payReleased, Printer.withoutJob_eq, findRecord_number hf]
      rfl
  · intro p' hoffer hc ht hroom cancelled
    have hown : r.custody.isOwn = true := by rw [hc]; rfl
    have hend (q : List QueueItem) (w : Option PayOp) (hslot : ∃ b, w = some { o with closing := b })
        (h : payCancel { s with printer := { s.printer with load := none }, port := p } =
          reply .ok (endOp .pay .cancelled none 0 { s with
            printer := { s.printer with load := none }, port := p, payOp := w
            tickets := s.tickets.handedBack r (s.roleKeeps r), link := { s.link with queue := q } })) : cancelled q := by
      obtain ⟨b, rfl⟩ := hslot
      refine hanswer ht ?_
      rw [h, endOp_pay (o := { o with closing := b }) (by rfl), postNotice_room (by exact hroom), Printer.withoutJob_eq]
      rfl
    have hclaim := payCancel_claim (s := { s with printer := { s.printer with load := none }, port := p }) hp hoffer
    refine ⟨fun i hi => ⟨fun hs hwire => hend _ s.payOp ⟨o.closing, hp⟩ ?_, fun hs => hend _ s.payOp ⟨o.closing, hp⟩ ?_⟩,
      fun hnone hclosing => ?_⟩
    · rw [hclaim, cancelClaim_fresh (by exact hi) hs hwire, if_neg (by decide), handOver_eq (r := r) 0 (by exact hf) hown rfl]
      rfl
    · rw [hclaim, cancelClaim_sent (by exact hi) hs, handOver_eq (r := r) 0 (by exact hf) hown rfl]
      rfl
    · have h := hend (if o.closing = true then placed release s.link.queue else s.link.queue) _ ⟨false, rfl⟩ (by
          rw [hclaim, cancelClaim_delivered (by exact hnone), ← releaseHold,
            releaseHold_pay (o := o) (r := r) (by exact hp) (by exact hf) hown]
          rfl)
      rwa [if_pos hclosing] at h

end

section
/-! PROOFS. The checks of a slot command on a ticket, the claim engine's answer to a claim request, and WEIGH STEP. -/

namespace Sys2Proof.Machine

/-! ### The checks on a ticket (R46, R100, R141) -/

section
variable {t : TicketNo} {suits : Life → Bool} {later : Record → List (Bool × Result)} {r : Record} {s : State}

theorem ticketRefusal_closed (h : s.isClosed t = true) : ticketRefusal t suits later s = some .closed := by
  rw [ticketRefusal, if_pos h]

theorem ticketRefusal_noTicket (h : s.isClosed t = false) (hf : s.findRecord t = none) :
    ticketRefusal t suits later s = some .noTicket := by
  simp only [ticketRefusal, h, hf, Bool.false_eq_true, if_false]

theorem ticketRefusal_record (h : s.isClosed t = false) (hf : s.findRecord t = some r) : ticketRefusal t suits later s =
    if r.stale = true then some .stale else if suits r.life = false then some .notAllowed
      else if r.custody ≠ .free then some .busy else firstRefusal (later r) := by
  simp only [ticketRefusal, h, hf, Bool.false_eq_true, if_false, firstRefusal, List.cons_append, List.nil_append,
    decide_eq_true_eq, Bool.not_eq_true']

/-- The checks on a ticket, by what the command answers to each in a state `s` with the same tickets. -/
theorem ticketChecks_intro {suits' : Life → Prop} {refused : Byte → Prop} {asks passes : Record → Prop} {u : State}
    (hcs : s.isClosed t = u.isClosed t) (hfs : s.findRecord t = u.findRecord t) (hsuits : ∀ l, suits l = true ↔ suits' l)
    (hr : ∀ x, x ≠ .stale → ticketRefusal t suits later s = some x → refused (byte x.code))
    (ha : ∀ r, s.findRecord t = some r → ticketRefusal t suits later s = some .stale → asks r)
    (hp : ∀ r, s.isClosed t = false → s.findRecord t = some r → r.stale = false → r.custody = .free →
      ticketRefusal t suits later s = firstRefusal (later r) → passes r) : u.ticketChecks t suits' refused asks passes := by
  unfold State.ticketChecks
  rw [← hcs, ← hfs]
  refine ⟨fun hc => hr .closed (by decide) (ticketRefusal_closed hc),
    fun hc hf => hr .noTicket (by decide) (ticketRefusal_noTicket hc hf), fun r hc hf => ?_⟩
  have hrefusal := ticketRefusal_record (suits := suits) (later := later) hc hf
  refine ⟨fun hstale => ?_, fun hstale hlife => ?_, fun hstale hlife hcustody => ?_, fun hstale hlife hcustody => ?_⟩
  · exact ha r hf (by rw [hrefusal, if_pos hstale])
  · refine hr .notAllowed (by decide) ?_
    rw [hrefusal, hstale, if_neg Bool.false_ne_true, if_pos (Bool.eq_false_iff.2 fun h => hlife ((hsuits _).1 h))]
  · refine hr .busy (by decide) ?_
    rw [hrefusal, hstale, if_neg Bool.false_ne_true, if_neg (by simp [(hsuits r.life).2 hlife]), if_pos hcustody]
  · refine hp r hc hf hstale hcustody ?_
    rw [hrefusal, hstale, if_neg Bool.false_ne_true, if_neg (by simp [(hsuits r.life).2 hlife]), if_neg (Classical.not_not.2 hcustody)]

end

theorem askAgain_eq {t : TicketNo} {r : Record} {s : State} (hf : s.findRecord t = some r) :
    askAgain t s = { s with link := { s.link with queue := s.queueAsking t r.step } } := by
  have hholds : s.linkHolds = true ↔ s.link.state = .down ∨ s.link.state = .silent := by simp [State.linkHolds]
  simp only [askAgain, hf]
  by_cases hq : s.askQueued t = true
  · rw [if_pos hq, State.queueAsking, if_pos (.inl hq)]
  · rw [if_neg hq, sendAsk]
    by_cases hh : s.linkHolds = true
    · rw [if_pos hh, State.queueAsking, if_pos (.inr ((hholds.1 hh).imp_right .inl))]
    · rw [if_neg hh]
      by_cases hp : s.occupied < 24
      · rw [if_pos (freePlaces_pos_iff.2 hp), State.queueAsking, if_neg (by
          rintro (h | h | h | h)
          · exact hq h
          · exact hh (hholds.2 (.inl h))
          · exact hh (hholds.2 (.inr h))
          · omega)]
        rfl
      · rw [if_neg (fun h => hp (freePlaces_pos_iff.1 h)), State.queueAsking, if_pos (.inr (.inr (.inr (by omega))))]

theorem refuse_stale {t : TicketNo} {r : Record} {s : State} (hf : s.findRecord t = some r) :
    refuse t .stale s = reply .stale { s with link := { s.link with queue := s.queueAsking t r.step } } := by
  rw [refuse, if_pos rfl, askAgain_eq hf]

theorem refuse_of_ne {t : TicketNo} {x : Result} {s : State} (h : x ≠ .stale) : refuse t x s = reply x s := by
  rw [refuse, if_neg h]

/-! ### The claim engine's answer (R116, R117) -/

section
variable {t : TicketNo} {s : State}

theorem claimRoute_up (h : s.link.state = .up) : s.claimRoute t =
    if s.homeSeen t then (if s.occupied < 24 then .byFrame else .refused .linkBusy) else .refused .homeAbsent := by
  have hhome : (decide (t.home = s.myId) || !s.settings.homeCheck || s.present t.home) = true ↔ s.homeSeen t := by
    simp [or_assoc]
  simp only [State.claimRoute, h, hhome, freePlaces_pos_iff]

theorem claimRoute_alone (h : s.link.state = .alone) : s.claimRoute t =
    if t.home = s.myId ∨ s.settings.homeCheck = false then .locally else .refused .homeAbsent := by
  simp only [State.claimRoute, h, Bool.or_eq_true, decide_eq_true_eq, Bool.not_eq_true']

theorem claimRoute_down (h : s.link.state = .down) : s.claimRoute t =
    if t.home = s.myId then .locally else .refused .linkDown := by
  simp only [State.claimRoute, h, decide_eq_true_eq]

/-- Each way a claim request ends is a route of the engine. -/
theorem claimEnds_intro {refused : Byte → Prop} {queued grants : Prop}
    (hr : ∀ x, s.claimRoute t = .refused x → refused (byte x.code)) (hq : s.claimRoute t = .byFrame → queued)
    (hg : s.claimRoute t = .locally → grants) : s.claimEnds t refused queued grants := by
  refine ⟨?_, ?_, ?_, ?_, ?_⟩
  · rintro (⟨h, hhome⟩ | ⟨h, hhome, hcheck⟩)
    · exact hr .homeAbsent (by rw [claimRoute_up h, if_neg hhome])
    · exact hr .homeAbsent (by rw [claimRoute_alone h, if_neg (by simp [hhome, hcheck])])
  · rintro (⟨h, hhome⟩ | h)
    · exact hr .linkDown (by rw [claimRoute_down h, if_neg hhome])
    · exact hr .linkDown (by simp only [State.claimRoute, h])
  · rintro (h | ⟨h, hhome, hfull⟩)
    · exact hr .linkBusy (by simp only [State.claimRoute, h])
    · exact hr .linkBusy (by rw [claimRoute_up h, if_pos hhome, if_neg (Nat.not_lt.2 hfull)])
  · rintro ⟨h, hhome, hroom⟩
    exact hq (by rw [claimRoute_up h, if_pos hhome, if_pos hroom])
  · rintro (⟨h, hhome⟩ | ⟨h, hhome⟩)
    · exact hg (by rw [claimRoute_alone h, if_pos hhome])
    · exact hg (by rw [claimRoute_down h, if_pos hhome])

end

/-! ### Custody claimed and granted (R114, R119, R120) -/

/-- Custody taken by one of this station's slots: every record of the ticket is kept. -/
theorem setCustody_own {t : TicketNo} {c : Custody} (hc : c.isOwn = true) (s : State) :
    setCustody t c s = modifyRecord t (fun r => { r with custody := c }) s := by
  unfold setCustody
  cases hf : s.findRecord t with
  | none =>
    have hid : s.tickets.table.map (fun r => if r.number = t then { r with custody := c } else r) = s.tickets.table :=
      (List.map_congr_left fun r hr => if_neg (by simpa using List.find?_eq_none.1 hf r hr)).trans (List.map_id _)
    rw [modifyRecord, State.onTickets, hid]
  | some r => simp [hc]

theorem held_eq {t : TicketNo} {c : Custody} (hc : c.isOwn = true) (h : Nat) (s : State) :
    setHolder t h (setCustody t c s) = { s with tickets := s.tickets.held t c h } := by
  rw [setCustody_own hc, setHolder_eq]
  rfl

theorem requestClaim_refused {slot : SlotId} {sub : Subject} {f : State → State} {x : Result} {s : State}
    (h : s.claimRoute sub.ticket = .refused x) : requestClaim slot sub f s = (x, s) := by
  simp only [requestClaim, h]

theorem requestClaim_byFrame {slot : SlotId} {sub : Subject} {f : State → State} {s : State}
    (h : s.claimRoute sub.ticket = .byFrame) (hlink : (f s).link = s.link) (htickets : (f s).tickets = s.tickets) :
    requestClaim slot sub f s = (.accepted, { f s with
      tickets := s.tickets.claimed sub.ticket slot sub.purpose
      link := { s.link with queue := s.queueClaiming slot sub }
      weighTimer := if slot = .weigh then { phase := .queued, subject := some sub, count := none } else (f s).weighTimer
      payTimer := if slot = .pay then { phase := .queued, subject := some sub, count := none } else (f s).payTimer }) := by
  have hqueue : s.queueClaiming slot sub = placed (claimItem slot sub) (f s).link.queue := by rw [hlink]; rfl
  simp only [requestClaim, h]
  rw [setCustody_own rfl, hqueue, ← hlink, ← htickets]
  cases slot <;> rfl

theorem requestClaim_locally {slot : SlotId} {sub : Subject} {f : State → State} {s : State}
    (h : s.claimRoute sub.ticket = .locally) :
    requestClaim slot sub f s = (.accepted, granted slot sub (.byLink s.link.state) (f s)) := by
  simp only [requestClaim, h]

/-! ### WEIGH STEP (R46, R50) -/

theorem readWeighStep_ok {n : TicketNo} {g d f : Nat} (hh : n.home ≤ 255) (hs : n.serial ≤ 65535) (hg : g ≤ 255) (hd : d ≤ 65535)
    (hf : f ≤ 255) : readWeighStep (ticketBytes n ++ [byte g] ++ bytesOf 2 d ++ [byte f]) = some ⟨n, g, d, f⟩ := by
  simp [readWeighStep, List.append_assoc, takeTicket_ticketBytes (n := n) (by omega) (by omega),
    takeNat_bytesOf (w := 2) (show d < 256 ^ 2 by omega), Nat.mod_eq_of_lt (show g < 256 by omega),
    Nat.mod_eq_of_lt (show f < 256 by omega)]

theorem boolOf_isSome_iff {n : Nat} : (boolOf n).isSome = true ↔ n ≤ 1 := by
  rcases n with _ | _ | n <;> simp [boolOf]

theorem weighStepOk_iff {p : WeighStepParams} {s : State} (h : p.ticket.serial ≤ 65535) :
    weighStepOk p s = true ↔ s.stepInRange p.ticket p.grade p.deduction p.final := by
  simp only [weighStepOk, Bool.and_eq_true, decide_eq_true_eq, ticketOk_iff, boolOf_isSome_iff]
  grind

theorem linesFull_iff {f : Nat} {r : Record} (hf : f ≤ 1) :
    linesFull f r = true ↔ (r.lines.length = 7 ∧ f = 0) ∨ 8 ≤ r.lines.length := by
  rw [linesFull, show Config.lineCapacity = 8 from rfl]
  simp only [Bool.or_eq_true, Bool.and_eq_true, decide_eq_true_eq]
  omega

theorem weighStepRefusal_eq (p : WeighStepParams) (s : State) : weighStepRefusal p s =
    if weighStepOk p s = false then some .range else if gatePasses .weighStep s = false then some .halted
      else ticketRefusal p.ticket (fun l => decide (l = .opened))
        (fun r => [(linesFull p.final r, .linesFull), (s.receiptBlocked, .printQueueFull)]) s := by
  cases h1 : weighStepOk p s <;> cases h2 : gatePasses .weighStep s <;> simp [weighStepRefusal, firstRefusal, h1, h2]

theorem weighStep_refused {p : WeighStepParams} {x : Result} {s : State} (h : weighStepRefusal p s = some x) :
    weighStep p s = refuse p.ticket x s := by
  simp only [weighStep, h]

theorem weighStep_claims {p : WeighStepParams} {r : Record} {s : State} (h : weighStepRefusal p s = none)
    (hf : s.findRecord p.ticket = some r) :
    weighStep p s = reply (requestClaim .weigh ⟨p.ticket, .weigh, r.step⟩
        (fun s => s.onWeigh (fun _ => some (weighStepOp p (decide (p.final = 1)) r.step))) s).1
      (requestClaim .weigh ⟨p.ticket, .weigh, r.step⟩
        (fun s => s.onWeigh (fun _ => some (weighStepOp p (decide (p.final = 1)) r.step))) s).2 := by
  simp only [weighStep, h, State.stepOf, hf]

theorem unlessBusy_idle {slot : SlotId} {body : State → Reply} {s : State} (h : s.slotBusy slot = false) :
    unlessBusy slot body s = body s := by
  rw [unlessBusy, h]
  rfl

theorem granted_eq (slot : SlotId) (sub : Subject) (g : Grant) (s : State) : granted slot sub g s =
    proceed slot sub (noteGrant slot g
      { s with
        tickets := s.tickets.held sub.ticket (.held slot sub.purpose) s.myId
        weighTimer := if slot = .weigh then { phase := .granted, subject := some sub, count := none } else s.weighTimer
        payTimer := if slot = .pay then { phase := .granted, subject := some sub, count := none } else s.payTimer }) := by
  rw [granted, held_eq rfl]
  cases slot <;> rfl

theorem noteGrant_weighStep {o : WeighOp} {g d : Nat} {final : Bool} {s : State} (hw : s.weigh = some o)
    (hk : o.kind = .weighStep g d final) (grant : Grant) :
    noteGrant .weigh grant s = { s with weigh := some { o with grant := grant, phase := .capturing } } := by
  simp only [noteGrant, State.onWeigh, hw, Option.map_some, hk]

/-- A granted weigh step holds its ticket and captures. -/
theorem granted_weighStep {o : WeighOp} {sub : Subject} {grant : Grant} {g d : Nat} {final : Bool} {s : State} (hw : s.weigh = some o)
    (hk : o.kind = .weighStep g d final) : granted .weigh sub grant s = { s with
      weighTimer := { phase := .granted, subject := some sub, count := none }
      tickets := s.tickets.held sub.ticket (.held .weigh sub.purpose) s.myId
      weigh := some { o with grant := grant, phase := .capturing }
      scale := { s.scale with
        context := some { kind := .capture (.ticket sub.ticket), window := [], timer := 1000 * s.scale.inForce.captureTimeout,
                          stableSeen := false } } } := by
  rw [granted_eq, noteGrant_weighStep (o := o) (by exact hw) hk]
  simp only [proceed, hk]
  rfl

end Sys2Proof.Machine

open Sys2Proof Sys2Proof.Machine

/-- Settles O21: the checks in their order, then the engine's route. -/
theorem weighStepAsksForCustody : Obligations.WeighStepAsksForCustody := by
  intro n g d f s ps refused ht hweigh hopen hrestarted hh hs hg hd hf
  obtain ⟨p, hv⟩ := s.accepted_shape 7
  obtain ⟨v, hv'⟩ : ∃ v : State, v = { s with printer := { s.printer with load := none }, port := p } := ⟨_, rfl⟩
  rw [← hv'] at hv
  have hanswer {t : State} {bs : List Byte} (h : unlessBusy .weigh (Machine.weighStep ⟨n, g, d, f⟩) v = (t, bs)) :
      exec (.weighStep ps) s = .next (t.answered bs) := by
    have hlength : ps.length = 7 := by simp [ps]
    refine command_answers (ps := ps) (by rw [hlength]; exact ht) (by decide : 21 ∈ commandCodes)
      (by rw [hlength]; exact weighOpen_refusal hweigh hopen hrestarted (by simp)) ?_
    rw [readWeighStep_ok hh hs hg hd hf, hlength, hv]
    exact h
  have hidle (h : s.weigh = none) : unlessBusy .weigh (Machine.weighStep ⟨n, g, d, f⟩) v = Machine.weighStep ⟨n, g, d, f⟩ v :=
    unlessBusy_idle (by rw [hv', State.slotBusy, h]; rfl)
  have hrefused {x : Result} (hx : x ≠ .stale) (h : s.weigh = none) (hr : weighStepRefusal ⟨n, g, d, f⟩ v = some x) :
      refused (byte x.code) := by
    show exec (.weighStep ps) s = .next ((s.accepted 7).answered _)
    rw [hv]
    exact hanswer (by rw [hidle h, weighStep_refused hr, refuse_of_ne hx]; rfl)
  have hok (h : s.stepInRange n g d f) : weighStepOk ⟨n, g, d, f⟩ v = true := by
    rw [hv']
    exact (weighStepOk_iff (by exact hs)).2 h
  refine ⟨fun hbusy => ?_, fun h hrange => ?_, fun h hrange hgate => ?_, fun h hrange hgate => ?_⟩
  · show exec (.weighStep ps) s = .next ((s.accepted 7).answered _)
    rw [hv]
    refine hanswer ?_
    have : v.slotBusy .weigh = true := by rw [hv']; exact Option.isSome_iff_ne_none.2 hbusy
    rw [unlessBusy, if_pos this]
    rfl
  · refine hrefused (x := .range) (by decide) h ?_
    rw [weighStepRefusal_eq, if_pos]
    rw [Bool.eq_false_iff, hv']
    exact fun hok => hrange ((weighStepOk_iff (by exact hs)).1 hok)
  · refine hrefused (x := .halted) (by decide) h ?_
    rw [weighStepRefusal_eq, hok hrange, if_neg Bool.noConfusion, if_pos (by rw [hv']; exact hgate)]
  · have hchecks : weighStepRefusal ⟨n, g, d, f⟩ v = ticketRefusal n (fun l => decide (l = .opened))
        (fun r => [(linesFull f r, .linesFull), (v.receiptBlocked, .printQueueFull)]) v := by
      rw [weighStepRefusal_eq, hok hrange, if_neg Bool.noConfusion, if_neg]
      rw [hv']
      exact fun hno => Bool.false_ne_true (hno.symm.trans hgate)
    refine ticketChecks_intro (s := v) (by rw [hv']; rfl) (by rw [hv']; rfl) (fun l => decide_eq_true_iff)
      (fun x hx hr => hrefused hx h (hchecks.trans hr)) (fun r hr ha => ?_) (fun r hc hrv hstale hcustody hlater => ?_)
    · rw [hv]
      refine hanswer ?_
      rw [hidle h, weighStep_refused (hchecks.trans ha), refuse_stale hr, hv']
      rfl
    · replace hchecks := hchecks.trans hlater
      intro op sub full noRoom
      have hfull : linesFull f r = true ↔ full := by
        obtain ⟨-, -, -, -, -, hf1⟩ := hrange
        exact linesFull_iff hf1
      have hroom : v.receiptBlocked = true ↔ noRoom := by rw [hv']; exact receiptBlocked_iff
      refine ⟨fun hfl => ?_, fun hfl hno => ?_, fun hfl hno => ?_⟩
      · exact hrefused (x := .linesFull) (by decide) h (hchecks.trans (if_pos (hfull.2 hfl)))
      · refine hrefused (x := .printQueueFull) (by decide) h (hchecks.trans ?_)
        rw [firstRefusal, if_neg (fun h => hfl (hfull.1 h)), firstRefusal, if_pos (hroom.2 hno)]
      · have hpasses : weighStepRefusal ⟨n, g, d, f⟩ v = none := by
          rw [hchecks, firstRefusal, if_neg (fun h => hfl (hfull.1 h)), firstRefusal, if_neg (fun h => hno (hroom.1 h))]
          rfl
        have hclaims := (hidle h).trans (weighStep_claims hpasses hrv)
        have hroute : v.claimRoute n = s.claimRoute n := by rw [hv']; rfl
        refine claimEnds_intro (fun x hx => ?_) (fun hq => ?_) (fun hl => ?_)
        · show exec (.weighStep ps) s = .next ((s.accepted 7).answered _)
          rw [hv]
          refine hanswer ?_
          rw [hclaims, requestClaim_refused (by exact hroute.trans hx)]
          rfl
        · rw [hv]
          refine hanswer ?_
          rw [hclaims, requestClaim_byFrame (by exact hroute.trans hq) rfl rfl, hv']
          rfl
        · rw [hv]
          refine hanswer ?_
          rw [hclaims, requestClaim_locally (by exact hroute.trans hl), granted_weighStep
            (o := weighStepOp ⟨n, g, d, f⟩ (decide (f = 1)) r.step) (by rfl) (by rfl), hv']
          rfl

end

section
/-! PROOFS. The commit of a void, VOID TICKET and the end of the claim window. -/

namespace Sys2Proof.Machine

/-! ### The ticket store under a hold (R8, R12, R17) -/

section
variable {t : TicketNo} {c : Custody}

theorem filter_custody (t : TicketNo) (c : Custody) (l : List Record) :
    (l.map (fun x => if x.number = t then { x with custody := c } else x)).filter (fun x => decide (x.number ≠ t)) =
      l.filter (fun x => decide (x.number ≠ t)) := by
  induction l with
  | nil => rfl
  | cons x l ih => by_cases h : x.number = t <;> simp_all

theorem takeWhile_custody (t : TicketNo) (c : Custody) (l : List Record) :
    (l.map (fun x => if x.number = t then { x with custody := c } else x)).takeWhile (fun x => decide (x.number ≠ t)) =
      l.takeWhile (fun x => decide (x.number ≠ t)) := by
  induction l with
  | nil => rfl
  | cons x l ih => by_cases h : x.number = t <;> simp_all

theorem recordBefore_custody (t : TicketNo) (c : Custody) : ∀ (l : List Record) (before : Option TicketNo),
    recordBefore t before (l.map (fun x => if x.number = t then { x with custody := c } else x)) = recordBefore t before l
  | [], _ => rfl
  | x :: l, before => by
    by_cases h : x.number = t
    · simp [recordBefore, h]
    · simp only [List.map_cons, h, if_false, recordBefore]
      exact recordBefore_custody t c l (some x.number)

theorem map_holder_close (n h : Nat) (c : Closure) (l : List RegEntry) :
    (l.map (fun e => if e.serial = n then { e with holder := h } else e)).map (fun e => if e.serial = n then e.close c else e) =
      l.map (fun e => if e.serial = n then e.close c else e) := by
  rw [List.map_map]
  refine List.map_congr_left fun e _ => ?_
  by_cases he : e.serial = n
  · cases c <;> simp [he, RegEntry.close]
  · simp [he]

/-- A ticket that closes leaves no trace of the hold it closes under. -/
theorem held_closedAs (t : TicketNo) (c : Custody) (h : Nat) (cl : Closure) (k : Tickets) :
    (k.held t c h).closedAs t cl = k.closedAs t cl := by
  unfold Tickets.closedAs
  simp only [Tickets.held, filter_custody, recordBefore_custody]
  split
  · rw [map_holder_close]
  · rfl

/-- A hold given back leaves no trace of itself. -/
theorem held_handedBack (c : Custody) (h : Nat) (r : Record) (kept : Prop) [Decidable kept] (k : Tickets) :
    (k.held r.number c h).handedBack { r with custody := c } kept = k.handedBack r kept := by
  unfold Tickets.handedBack Tickets.handedOver
  simp only [Tickets.held, filter_custody, takeWhile_custody]
  have htable : (k.table.map (fun x => if x.number = r.number then { x with custody := c } else x)).map
      (fun x => if x.number = r.number then { x with custody := .free } else x) =
        k.table.map (fun x => if x.number = r.number then { x with custody := .free } else x) := by
    rw [List.map_map]
    refine List.map_congr_left fun x _ => ?_
    by_cases hx : x.number = r.number <;> simp [hx]
  have hregister : (k.register.map (fun e => if e.serial = r.number.serial then { e with holder := h } else e)).map
      (fun e => if e.serial = r.number.serial then { e with holder := 0 } else e) =
        k.register.map (fun e => if e.serial = r.number.serial then { e with holder := 0 } else e) := by
    rw [List.map_map]
    refine List.map_congr_left fun e _ => ?_
    by_cases he : e.serial = r.number.serial <;> simp [he]
  rw [htable]
  by_cases ho : r.number.home = k.owner ∧ k.owner ≠ 0
  · simp only [if_pos ho, hregister]
  · simp only [if_neg ho]

theorem findRecord_held {r : Record} {s u : State} (h : Nat) (hu : u.tickets = s.tickets.held t c h)
    (hf : s.findRecord t = some r) : u.findRecord t = some { r with custody := c } := by
  have h' := findRecord_custody c hf
  rw [State.findRecord, hu]
  exact h'

/-- The parts of the ticket store of a ticket that closes with its record (R15, R19). -/
theorem closedAs_new {t : TicketNo} {cl : Closure} {r : Record} {s : State} (hf : s.findRecord t = some r)
    (hc : s.closedEntry t = none) : s.tickets.closedAs t cl = { s.tickets with
      closed := s.tickets.closed.drop (if 32 ≤ s.tickets.closed.length then 1 else 0) ++ [{ number := t, closure := cl }]
      table := s.tickets.table.filter (fun x => decide (x.number ≠ t))
      cursor := if s.tickets.cursor = some t
        then ((s.tickets.table.takeWhile (fun x => decide (x.number ≠ t))).getLast?).map Record.number else s.tickets.cursor
      register := if t.home = s.tickets.owner ∧ s.tickets.owner ≠ 0
        then s.tickets.register.map (fun e => if e.serial = t.serial then e.close cl else e) else s.tickets.register } := by
  rw [Tickets.closedAs, closedWith_new (closedEntry_none_iff.1 hc),
    recordBefore_eq t s.tickets.table none ⟨r, List.mem_of_find?_eq_some hf, findRecord_number hf⟩, Option.or_none]

end

/-! ### A receipt, with or without room (R163, R165) -/

theorem makeReceipt_full {kind : ReceiptKind} {t : Option TicketNo} {lines : List Text} {s : State}
    (h : 8 ≤ s.printer.jobs.length) : ∃ flags notices, makeReceipt kind t lines s = { s with flags := flags, notices := notices } ∧
      flags.printLost.latched = true ∧ notices.queue.length ≤ s.notices.queue.length + 1 := by
  rw [makeReceipt, if_neg (by rw [printRoom_iff]; omega)]
  exact latchEvent_shape _ _ s

/-- A receipt takes a place, or its loss is latched. -/
theorem makeReceipt_cases (kind : ReceiptKind) (t : Option TicketNo) (lines : List Text) (s : State) : ∃ printer flags notices,
    makeReceipt kind t lines s = { s with printer := printer, flags := flags, notices := notices } ∧
    (s.printer.jobs.length < 8 → flags = s.flags ∧ notices = s.notices ∧ printer = { s.printer with
      jobs := s.printer.jobs ++ [receiptJob kind t lines s.printer], nextJob := jobAfter s.printer.nextNumber }) ∧
    (8 ≤ s.printer.jobs.length → printer = s.printer ∧ flags.printLost.latched = true) := by
  rcases Nat.lt_or_ge s.printer.jobs.length 8 with h | h
  · exact ⟨_, _, _, makeReceipt_room h, fun _ => ⟨rfl, rfl, rfl⟩, fun h' => absurd h (Nat.not_lt.2 h')⟩
  · obtain ⟨flags, notices, heq, hlost, -⟩ := makeReceipt_full (kind := kind) (t := t) (lines := lines) h
    exact ⟨s.printer, flags, notices, heq, fun h' => absurd h' (Nat.not_lt.2 h), fun _ => ⟨rfl, hlost⟩⟩

/-! ### The slot of a void (R61, R62) -/

/-- The slot runs an operation on the ticket, with or without a closing place, and without a placeholder. -/
def State.slotRuns (slot : SlotId) (t : TicketNo) (closing : Bool) (s : State) : Prop :=
  match slot with
  | .weigh => ∃ o, s.weigh = some o ∧ o.target = some t ∧ o.closing = closing
  | .pay => ∃ o, s.payOp = some o ∧ o.target = t ∧ o.closing = closing ∧ o.placeholder = none

/-- The slot closed, its timer in this phase. -/
def State.slotClosed (slot : SlotId) (p : Phase) (s : State) : State :=
  { s with
    weigh := if slot = .weigh then none else s.weigh
    payOp := if slot = .pay then none else s.payOp
    scale := if slot = .weigh then { s.scale with context := none } else s.scale
    weighTimer := if slot = .weigh then { s.weighTimer with phase := p, count := none } else s.weighTimer
    payTimer := if slot = .pay then { s.payTimer with phase := p, count := none } else s.payTimer }

theorem closeSlot_runs {slot : SlotId} {t : TicketNo} {b : Bool} {s : State} (h : s.slotRuns slot t b) (p : Phase) :
    closeSlot slot p s = s.slotClosed slot p := by
  cases slot with
  | weigh =>
    obtain ⟨o, hw, ht, -⟩ := h
    rw [closeSlot_weigh hw]
    simp only [ht, Option.isSome_some, if_true]
    rfl
  | pay =>
    obtain ⟨o, hp, -, -, hn⟩ := h
    rw [closeSlot_pay hp, hn]
    rfl

/-- The closing place is taken: the other slot is not touched. -/
theorem sendOnClosing_runs {slot : SlotId} {t : TicketNo} {b : Bool} {s : State} (h : s.slotRuns slot t b) (f : Frame) : ∃ w p,
    sendOnClosing slot f s = { s with weigh := w, payOp := p, link := s.link.closing b f } ∧
      State.slotRuns slot t false { s with weigh := w, payOp := p, link := s.link.closing b f } ∧
      (slot = .weigh → p = s.payOp) ∧ (slot = .pay → w = s.weigh) := by
  cases slot with
  | weigh =>
    obtain ⟨o, hw, ht, rfl⟩ := h
    exact ⟨_, s.payOp, sendOnClosing_weigh hw f, ⟨_, rfl, ht, rfl⟩, fun _ => rfl, fun h => by cases h⟩
  | pay =>
    obtain ⟨o, hp, ht, rfl, hn⟩ := h
    exact ⟨s.weigh, _, sendOnClosing_pay hp f, ⟨_, rfl, ht, rfl, hn⟩, fun h => (by cases h), fun _ => rfl⟩

/-! ### The commit of a void (R62) -/

section
variable {slot : SlotId} {t : TicketNo} {step : Nat} {grant : Grant} {r : Record} {s : State}

theorem commitVoid_lost {loss : LossReason} (hf : s.findRecord t = some r) (hl : commitLoss r step = some loss) :
    commitVoid slot t step grant s = endHold slot t .lost (some loss) 0 s := by
  simp only [commitVoid, hf, hl]

theorem commitVoid_printQueueFull (hf : s.findRecord t = some r) (hl : commitLoss r step = none) (hb : s.receiptBlocked = true) :
    commitVoid slot t step grant s = endHold slot t .printQueueFull none 0 s := by
  simp only [commitVoid, hf, hl, hb, if_true]

/-- The CLOSED frame of a void goes on the closing place of a grant by frame, and else asks for a place. -/
def voidSends (slot : SlotId) (t : TicketNo) (grant : Grant) (r : Record) (s : State) : State :=
  if grant = .byFrame then sendOnClosing slot (.closed t .voided 0 0 r.seller.isSome) s
  else sendAsking (.closed t .voided 0 0 r.seller.isSome) s

/-- What the commit of a void leaves, whatever the place of its CLOSED frame. -/
theorem commitVoid_commits {b : Bool} {w : Option WeighOp} {p : Option PayOp} {l : Link} (hf : s.findRecord t = some r)
    (hl : commitLoss r step = none) (hb : s.receiptBlocked = false)
    (hsends : voidSends slot t grant r s = { s with weigh := w, payOp := p, link := l })
    (hruns : State.slotRuns slot t b { s with weigh := w, payOp := p, link := l }) : ∃ printer flags notices,
    commitVoid slot t step grant s = postNotice (.done slot .ok (some t) none 0 0)
      { State.slotClosed slot .committed { s with weigh := w, payOp := p, link := l } with
        tickets := s.tickets.closedAs t (.settled .voided 0 0 s.myId r.seller.isSome)
        day := { s.day with totals := s.day.totals.oneVoided }
        printer := printer, flags := flags, notices := notices } ∧
    (s.printer.jobs.length < 8 → flags = s.flags ∧ notices = s.notices ∧ printer = { s.printer with
      jobs := s.printer.jobs ++
        [receiptJob .voidSlip (some t) (voidSlipLines r (decide (grant = .byLink .down)) s) s.printer]
      nextJob := jobAfter s.printer.nextNumber }) ∧
    (8 ≤ s.printer.jobs.length → printer = s.printer ∧ flags.printLost.latched = true) := by
  obtain ⟨printer, flags, notices, hreceipt, hroom, hfull⟩ := makeReceipt_cases .voidSlip (some t)
    (voidSlipLines r (decide (grant = .byLink .down)) { s with weigh := w, payOp := p, link := l })
    { s with weigh := w, payOp := p, link := l }
  refine ⟨printer, flags, notices, ?_, hroom, hfull⟩
  rw [voidSends] at hsends
  simp only [commitVoid, hf, hl, hb, Bool.false_eq_true, if_false]
  rw [hsends, hreceipt, closeTicket_eq, endCommitted, closeSlot_runs (t := t) (b := b) (by exact hruns)]
  rfl

end

/-! ### A grant to a void (R62, R119, R120) -/

theorem granted_void_weigh {o : WeighOp} {sub : Subject} {grant : Grant} {s : State} (hw : s.weigh = some o) (hk : o.kind = .void) :
    granted .weigh sub grant s = commitVoid .weigh sub.ticket o.claimedStep grant { s with
      tickets := s.tickets.held sub.ticket (.held .weigh sub.purpose) s.myId
      weighTimer := { phase := .granted, subject := some sub, count := none }
      weigh := some { o with grant := grant } } := by
  have hnote : noteGrant .weigh grant { s with
      tickets := s.tickets.held sub.ticket (.held .weigh sub.purpose) s.myId
      weighTimer := { phase := .granted, subject := some sub, count := none } } = { s with
      tickets := s.tickets.held sub.ticket (.held .weigh sub.purpose) s.myId
      weighTimer := { phase := .granted, subject := some sub, count := none }
      weigh := some { o with grant := grant } } := by
    simp only [noteGrant, State.onWeigh, hw, Option.map_some, hk]
  rw [granted_eq]
  simp only [if_true, reduceCtorEq, if_false]
  rw [hnote]
  simp only [proceed, hk]

theorem granted_void_pay {o : PayOp} {sub : Subject} {grant : Grant} {s : State} (hp : s.payOp = some o) (hv : o.isVoid = true) :
    granted .pay sub grant s = commitVoid .pay sub.ticket o.claimedStep grant { s with
      tickets := s.tickets.held sub.ticket (.held .pay sub.purpose) s.myId
      payTimer := { phase := .granted, subject := some sub, count := none }
      payOp := some { o with grant := grant } } := by
  have hnote : noteGrant .pay grant { s with
      tickets := s.tickets.held sub.ticket (.held .pay sub.purpose) s.myId
      payTimer := { phase := .granted, subject := some sub, count := none } } = { s with
      tickets := s.tickets.held sub.ticket (.held .pay sub.purpose) s.myId
      payTimer := { phase := .granted, subject := some sub, count := none }
      payOp := some { o with grant := grant } } := by
    simp only [noteGrant, State.onPay, hp, Option.map_some]
  rw [granted_eq]
  simp only [if_true, reduceCtorEq, if_false]
  rw [hnote]
  simp only [proceed, hv, if_true]

/-! ### VOID TICKET (R61) -/

theorem voidSlot_eq (t : TicketNo) (s : State) : s.voidSlot t = s.voidRunsIn t := by
  unfold State.voidSlot State.voidRunsIn
  cases hr : s.role with
  | none => simp
  | some role =>
    cases role with
    | bridge => simp
    | window => simp
    | both => cases hf : s.findRecord t <;> simp

theorem slotBusy_iff {slot : SlotId} {s : State} : s.slotBusy slot = true ↔ ¬ s.slotIdle slot := by
  cases slot <;> simp [State.slotBusy, State.slotIdle, Option.isSome_iff_ne_none]

theorem voidRefusal_eq (t : TicketNo) (s : State) : voidRefusal t s =
    if ticketOk t = false then some .range else if gatePasses .voidTicket s = false then some .halted
      else ticketRefusal t (fun _ => true) (fun _ => [(s.receiptBlocked, .printQueueFull)]) s := by
  cases h1 : ticketOk t <;> cases h2 : gatePasses .voidTicket s <;> simp [voidRefusal, firstRefusal, h1, h2]

theorem voidTicket_busy {t : TicketNo} {s : State} (h : s.slotBusy (s.voidSlot t) = true) : voidTicket t s = reply .busy s := by
  rw [voidTicket, unlessBusy, if_pos h]

theorem voidTicket_refused {t : TicketNo} {x : Result} {s : State} (hb : s.slotBusy (s.voidSlot t) = false)
    (h : voidRefusal t s = some x) : voidTicket t s = refuse t x s := by
  rw [voidTicket, unlessBusy_idle hb]
  simp only [h]

theorem voidTicket_claims {t : TicketNo} {r : Record} {s : State} (hb : s.slotBusy (s.voidSlot t) = false)
    (h : voidRefusal t s = none) (hf : s.findRecord t = some r) : voidTicket t s =
      reply (requestClaim (s.voidSlot t) ⟨t, .void, r.step⟩ (openVoid (s.voidSlot t) t r.step) s).1
        (requestClaim (s.voidSlot t) ⟨t, .void, r.step⟩ (openVoid (s.voidSlot t) t r.step) s).2 := by
  rw [voidTicket, unlessBusy_idle hb]
  simp only [h, State.stepOf, hf]

theorem closed_not_object {t : TicketNo} {how : Settlement} {c : Nat} {x : Int} {b : Bool} : (Frame.closed t how c x b).kind ≠ .object := by
  show FrameKind.closed ≠ .object
  decide

theorem occupied_opened_weigh {o : WeighOp} {s u : State} (hw : s.weigh = none) (hl : u.link = s.link) (hu : u.weigh = some o)
    (hp : u.payOp = s.payOp) (hc : o.closing = false) : u.occupied = s.occupied := by
  simp [State.occupied, State.closingPlaces, hl, hu, hp, hw, hc]

theorem occupied_opened_pay {o : PayOp} {s u : State} (hp : s.payOp = none) (hl : u.link = s.link) (hu : u.payOp = some o)
    (hw : u.weigh = s.weigh) (hc : o.closing = false) : u.occupied = s.occupied := by
  simp [State.occupied, State.closingPlaces, hl, hu, hp, hw, hc]

/-- A void granted without frames commits with its CLOSED frame on an empty place. -/
theorem commitVoid_locally {slot : SlotId} {t : TicketNo} {st : LinkState} {r : Record} {s : State}
    (hruns : s.slotRuns slot t false) (hf : s.findRecord t = some r) (hl : commitLoss r r.step = none)
    (hb : s.receiptBlocked = false) (hfree : s.occupied < 24) (hjobs : s.printer.jobs.length < 8)
    (hnotices : s.notices.queue.length < 16) : commitVoid slot t r.step (.byLink st) s = { s.slotClosed slot .committed with
      tickets := s.tickets.closedAs t (.settled .voided 0 0 s.myId r.seller.isSome)
      day := { s.day with totals := s.day.totals.oneVoided }
      link := { s.link with queue := placed (.single (.closed t .voided 0 0 r.seller.isSome)) s.link.queue }
      printer := { s.printer with
        jobs := s.printer.jobs ++ [receiptJob .voidSlip (some t) (voidSlipLines r (decide (st = .down)) s) s.printer]
        nextJob := jobAfter s.printer.nextNumber }
      notices := { s.notices with
        queue := s.notices.queue ++ [(s.notices.seq, .done slot .ok (some t) none 0 0)]
        seq := (s.notices.seq + 1) % 256 } } := by
  have hsends : voidSends slot t (.byLink st) r s = { s with weigh := s.weigh, payOp := s.payOp, link := { s.link with
      queue := placed (.single (.closed t .voided 0 0 r.seller.isSome)) s.link.queue } } := by
    rw [voidSends, if_neg (by simp), sendAsking_room (by exact closed_not_object) hfree]
  obtain ⟨printer, flags, notices, hcommit, hroom, -⟩ := commitVoid_commits (b := false) hf hl hb hsends hruns
  obtain ⟨rfl, rfl, rfl⟩ := hroom hjobs
  have hdown : decide (Grant.byLink st = .byLink .down) = decide (st = .down) := by simp
  rw [hcommit, postNotice_room (by exact hnotices), hdown]
  rfl

/-- A void of an idle slot, granted without frames. -/
theorem granted_openVoid {slot : SlotId} {t : TicketNo} {r : Record} {s : State} (hidle : s.slotIdle slot)
    (hf : s.findRecord t = some r) (hstale : r.stale = false) (hb : s.receiptBlocked = false)
    (hfree : s.occupied < 24) (hjobs : s.printer.jobs.length < 8) (hnotices : s.notices.queue.length < 16) :
    granted slot ⟨t, .void, r.step⟩ (.byLink s.link.state) (openVoid slot t r.step s) = { s with
      weighTimer := if slot = .weigh then { phase := .committed, subject := some ⟨t, .void, r.step⟩, count := none } else s.weighTimer
      payTimer := if slot = .pay then { phase := .committed, subject := some ⟨t, .void, r.step⟩, count := none } else s.payTimer
      scale := if slot = .weigh then { s.scale with context := none } else s.scale
      tickets := s.tickets.closedAs t (.settled .voided 0 0 s.myId r.seller.isSome)
      day := { s.day with totals := s.day.totals.oneVoided }
      link := { s.link with queue := placed (.single (.closed t .voided 0 0 r.seller.isSome)) s.link.queue }
      printer := { s.printer with
        jobs := s.printer.jobs ++ [receiptJob .voidSlip (some t) (voidSlipLines r (decide (s.link.state = .down)) s) s.printer]
        nextJob := jobAfter s.printer.nextNumber }
      notices := { s.notices with
        queue := s.notices.queue ++ [(s.notices.seq, .done slot .ok (some t) none 0 0)]
        seq := (s.notices.seq + 1) % 256 } } := by
  have hl (c : Custody) : commitLoss { r with custody := c } r.step = none := commitLoss_eq_none.2 ⟨rfl, hstale⟩
  cases slot with
  | weigh =>
    have hw : s.weigh = none := hidle
    rw [granted_void_weigh (by rfl) (by rfl)]
    obtain ⟨u, hu⟩ : ∃ u : State, u = { openVoid .weigh t r.step s with
      tickets := s.tickets.held t (.held .weigh .void) s.myId
      weighTimer := { phase := .granted, subject := some ⟨t, .void, r.step⟩, count := none }
      weigh := some ⟨.claiming, .void, some t, .byLink s.link.state, r.step, false, false⟩ } := ⟨_, rfl⟩
    have hocc : u.occupied = s.occupied := occupied_opened_weigh hw (by rw [hu]; rfl) (by rw [hu]) (by rw [hu]; rfl) rfl
    have h := commitVoid_locally (st := s.link.state) (s := u) (slot := .weigh) (t := t) (r := { r with custody := .held .weigh .void })
      (by rw [hu]; exact ⟨_, rfl, rfl, rfl⟩) (findRecord_held s.myId (by rw [hu]) hf) (hl _) (by rw [hu]; exact hb) (by rw [hocc]; exact hfree)
      (by rw [hu]; exact hjobs) (by rw [hu]; exact hnotices)
    rw [hu] at h
    refine h.trans ?_
    simp only [held_closedAs]
    rw [hw]
    rfl
  | pay =>
    have hp : s.payOp = none := hidle
    rw [granted_void_pay (by rfl) (by rfl)]
    obtain ⟨u, hu⟩ : ∃ u : State, u = { openVoid .pay t r.step s with
      tickets := s.tickets.held t (.held .pay .void) s.myId
      payTimer := { phase := .granted, subject := some ⟨t, .void, r.step⟩, count := none }
      payOp := some ⟨true, t, none, none, .byLink s.link.state, r.step, false, none, none⟩ } := ⟨_, rfl⟩
    have hocc : u.occupied = s.occupied := occupied_opened_pay hp (by rw [hu]; rfl) (by rw [hu]) (by rw [hu]; rfl) rfl
    have h := commitVoid_locally (st := s.link.state) (s := u) (slot := .pay) (t := t) (r := { r with custody := .held .pay .void })
      (by rw [hu]; exact ⟨_, rfl, rfl, rfl, rfl⟩) (findRecord_held s.myId (by rw [hu]) hf) (hl _) (by rw [hu]; exact hb) (by rw [hocc]; exact hfree)
      (by rw [hu]; exact hjobs) (by rw [hu]; exact hnotices)
    rw [hu] at h
    refine h.trans ?_
    simp only [held_closedAs]
    rw [hp]
    rfl

end Sys2Proof.Machine
open Sys2Proof Sys2Proof.Machine

/-- Settles O22: the checks in their order, then the engine's route; the commit by `commitVoid_commits`. -/
theorem voidTicketCommitsOrClaims : Obligations.VoidTicketCommitsOrClaims := by
  intro n s ps refused ht hopen hrestarted hh hs slot
  obtain ⟨p, hv⟩ := s.accepted_shape 3
  obtain ⟨v, hv'⟩ : ∃ v : State, v = { s with printer := { s.printer with load := none }, port := p } := ⟨_, rfl⟩
  rw [← hv'] at hv
  have hslot : v.voidSlot n = slot := by rw [hv']; exact voidSlot_eq n s
  have hanswer {t : State} {bs : List Byte} (h : Machine.voidTicket n v = (t, bs)) :
      exec (.voidTicket ps) s = .next (t.answered bs) := by
    have hlength : ps.length = 3 := ticketBytes_length n
    refine command_answers (ps := ps) (by rw [hlength]; exact ht) (by decide : 22 ∈ commandCodes)
      (by rw [hlength]; exact Acceptance.refusal_none rfl (.inr hrestarted) (by simp [always, hopen]) (by simp [always])) ?_
    rw [readTicketOnly_ok (by omega) (by omega), hlength, hv]
    exact h
  have hidle (h : s.slotIdle slot) : v.slotBusy (v.voidSlot n) = false := by
    rw [hslot, Bool.eq_false_iff, ne_eq, slotBusy_iff, Classical.not_not, hv']
    exact h
  have hrefused {x : Result} (hx : x ≠ .stale) (h : s.slotIdle slot) (hr : voidRefusal n v = some x) : refused (byte x.code) := by
    show exec (.voidTicket ps) s = .next ((s.accepted 3).answered _)
    rw [hv]
    exact hanswer (by rw [voidTicket_refused (hidle h) hr, refuse_of_ne hx]; rfl)
  have hok (h : ticketInRange n) : ticketOk n = true := by
    obtain ⟨h1, h2, h3⟩ := h
    exact ticketOk_iff.2 ⟨h1, h2, h3, hs⟩
  refine ⟨fun hbusy => ?_, fun h hrange => ?_, fun h hrange hgate => ?_, fun h hrange hgate => ?_⟩
  · show exec (.voidTicket ps) s = .next ((s.accepted 3).answered _)
    rw [hv]
    refine hanswer (voidTicket_busy (slotBusy_iff.2 ?_))
    rw [hslot, hv']
    exact hbusy
  · refine hrefused (x := .range) (by decide) h ?_
    rw [voidRefusal_eq, if_pos (Bool.eq_false_iff.2 fun hok => hrange ?_)]
    obtain ⟨h1, h2, h3, -⟩ := ticketOk_iff.1 hok
    exact ⟨h1, h2, h3⟩
  · refine hrefused (x := .halted) (by decide) h ?_
    rw [voidRefusal_eq, hok hrange, if_neg Bool.noConfusion, if_pos (by rw [hv']; exact hgate)]
  · have hchecks : voidRefusal n v = ticketRefusal n (fun _ => true) (fun _ => [(v.receiptBlocked, .printQueueFull)]) v := by
      rw [voidRefusal_eq, hok hrange, if_neg Bool.noConfusion, if_neg]
      rw [hv']
      exact fun hno => Bool.false_ne_true (hno.symm.trans hgate)
    refine ticketChecks_intro (s := v) (by rw [hv']; rfl) (by rw [hv']; rfl) (fun l => iff_of_true rfl trivial)
      (fun x hx hr => hrefused hx h (hchecks.trans hr)) (fun r hr ha => ?_) (fun r hc hrv hstale hcustody hlater => ?_)
    · rw [hv]
      refine hanswer ?_
      rw [voidTicket_refused (hidle h) (hchecks.trans ha), refuse_stale hr, hv']
      rfl
    · replace hchecks := hchecks.trans hlater
      intro sub timer noRoom
      have hroom : v.receiptBlocked = true ↔ noRoom := by rw [hv']; exact receiptBlocked_iff
      refine ⟨fun hno => ?_, fun hno => ?_⟩
      · exact hrefused (x := .printQueueFull) (by decide) h (hchecks.trans (if_pos (hroom.2 hno)))
      · have hpasses : voidRefusal n v = none := hchecks.trans (if_neg fun h => hno (hroom.1 h))
        have hclaims := voidTicket_claims (hidle h) hpasses hrv
        rw [hslot] at hclaims
        have hroute : v.claimRoute n = s.claimRoute n := by rw [hv']; rfl
        refine claimEnds_intro (fun x hx => ?_) (fun hq => ?_) (fun hl hfree hjobs hnotices => ?_)
        · show exec (.voidTicket ps) s = .next ((s.accepted 3).answered _)
          rw [hv]
          refine hanswer ?_
          rw [hclaims, requestClaim_refused (by exact hroute.trans hx)]
          rfl
        · rw [hv]
          refine hanswer ?_
          rw [hclaims, requestClaim_byFrame (by exact hroute.trans hq) (by cases slot <;> rfl) (by cases slot <;> rfl), hv']
          cases slot <;> rfl
        · rw [hv]
          refine hanswer ?_
          have hcv : v.closedEntry n = none := by
            have := Bool.or_eq_false_iff.1 hc
            simpa using this.1
          have hgranted := granted_openVoid (slot := slot) (s := v) (by rw [hv']; exact h) hrv hstale
            (Bool.eq_false_iff.2 fun hb => hno (hroom.1 hb)) (by rw [hv']; exact hfree) (by rw [hv']; exact hjobs)
            (by rw [hv']; exact hnotices)
          rw [hclaims, requestClaim_locally (by exact hroute.trans hl)]
          rw [hgranted, closedAs_new hrv hcv, hv']
          rfl

end

section
/-! PROOFS. The end of the claim window, for a step, a PAY and a void. -/

namespace Sys2Proof.Machine

/-! ### A hold that ends as it is granted (R52, R62, R144) -/

section
variable {t : TicketNo} {c : Custody} {h : Nat} {r : Record} {s u : State}

theorem endHold_held_weigh {o : WeighOp} (hw : u.weigh = some o) (ht : o.target = some t) (hu : u.tickets = s.tickets.held t c h)
    (hc : c.isOwn = true) (hf : s.findRecord t = some r) (outcome : Result) (loss : Option LossReason) (holder : Nat) :
    endHold .weigh t outcome loss holder u = postNotice (.done .weigh outcome (some t) loss holder 0) { u with
      weigh := none
      scale := { u.scale with context := none }
      weighTimer := { u.weighTimer with phase := .ended, count := none }
      link := u.link.closing o.closing (.release t)
      tickets := s.tickets.handedBack r (u.roleKeeps r) } := by
  obtain rfl := findRecord_number hf
  rw [endHold_weigh hw ht (findRecord_held h hu hf) hc, State.weighReleased, hu]
  simp only [held_handedBack]

theorem endHold_held_pay {o : PayOp} (hp : u.payOp = some o) (ht : o.target = t) (hu : u.tickets = s.tickets.held t c h)
    (hc : c.isOwn = true) (hf : s.findRecord t = some r) (outcome : Result) (loss : Option LossReason) (holder : Nat) :
    endHold .pay t outcome loss holder u = postNotice (.done .pay outcome (some t) loss holder 0) { u with
      payOp := none
      payTimer := { u.payTimer with phase := .ended, count := none }
      printer := u.printer.withoutJob o.placeholder
      link := u.link.closing o.closing (.release t)
      tickets := s.tickets.handedBack r (u.roleKeeps r) } := by
  obtain rfl := findRecord_number hf
  rw [endHold_pay hp ht (findRecord_held h hu hf) hc, State.payReleased, hu]
  simp only [held_handedBack]

end

/-! ### A grant to a PAY (R144) -/

section
variable {o : PayOp} {r : Record} {s : State}

/-- The offer of a granted PAY (R144, R145). -/
def PayOp.offerOf (o : PayOp) (r : Record) (s : State) : Offer :=
  computeOffer (r.offered (decide (o.grant = .byLink .down)) (r.seller.isSome || o.given.isSome)) s

theorem grantPay_lost {loss : LossReason} (hf : s.findRecord o.target = some r) (hl : commitLoss r o.claimedStep = some loss) :
    grantPay o s = endHold .pay o.target .lost (some loss) 0 s := by
  simp only [grantPay, hf, hl]

theorem grantPay_commits (hf : s.findRecord o.target = some r) (hl : commitLoss r o.claimedStep = none) : grantPay o s =
    if 0 < (o.offerOf r s).shortfall ∧ s.settings.shortToTransfer = false then endHold .pay o.target .drawerShort none 0 s
    else postNotice (.done .pay .ok (some o.target) none 0 0) { s with
      payOp := some { o with offer := some (o.offerOf r s), confirm := some (1000 * s.settings.confirmTimeout) }
      drawer := if 0 < (o.offerOf r s).cash then { s.drawer with pulses := s.drawer.pulses + 1 } else s.drawer } := by
  have hpulse (u : State) (p : Prop) [Decidable p] : (if p then u.onDrawer (fun d => { d with pulses := d.pulses + 1 }) else u) =
      { u with drawer := if p then { u.drawer with pulses := u.drawer.pulses + 1 } else u.drawer } := by
    split <;> rfl
  simp only [grantPay, hf, hl, hpulse]
  rfl

theorem grantPay_short (hf : s.findRecord o.target = some r) (hl : commitLoss r o.claimedStep = none)
    (hshort : 0 < (o.offerOf r s).shortfall) (hst : s.settings.shortToTransfer = false) :
    grantPay o s = endHold .pay o.target .drawerShort none 0 s := by
  rw [grantPay_commits hf hl, if_pos ⟨hshort, hst⟩]

theorem grantPay_offers (hf : s.findRecord o.target = some r) (hl : commitLoss r o.claimedStep = none)
    (hshort : (o.offerOf r s).shortfall = 0 ∨ s.settings.shortToTransfer = true) :
    grantPay o s = postNotice (.done .pay .ok (some o.target) none 0 0) { s with
      payOp := some { o with offer := some (o.offerOf r s), confirm := some (1000 * s.settings.confirmTimeout) }
      drawer := if 0 < (o.offerOf r s).cash then { s.drawer with pulses := s.drawer.pulses + 1 } else s.drawer } := by
  rw [grantPay_commits hf hl, if_neg]
  rintro ⟨h1, h2⟩
  rcases hshort with h | h
  · omega
  · rw [h2] at h
    cases h

theorem granted_pay {sub : Subject} {grant : Grant} (hp : s.payOp = some o) (hv : o.isVoid = false) :
    granted .pay sub grant s = grantPay { o with grant := grant } { s with
      tickets := s.tickets.held sub.ticket (.held .pay sub.purpose) s.myId
      payTimer := { phase := .granted, subject := some sub, count := none }
      payOp := some { o with grant := grant } } := by
  have hnote : noteGrant .pay grant { s with
      tickets := s.tickets.held sub.ticket (.held .pay sub.purpose) s.myId
      payTimer := { phase := .granted, subject := some sub, count := none } } = { s with
      tickets := s.tickets.held sub.ticket (.held .pay sub.purpose) s.myId
      payTimer := { phase := .granted, subject := some sub, count := none }
      payOp := some { o with grant := grant } } := by
    simp only [noteGrant, State.onPay, hp, Option.map_some]
  rw [granted_eq]
  simp only [if_true, reduceCtorEq, if_false]
  rw [hnote]
  simp only [proceed, hv, Bool.false_eq_true, if_false]

end

/-! ### The window's end (R119) -/

theorem windowExpires {slot : SlotId} {sub : Subject} {ms : Nat} {s : State} (hpow : s.powered = true)
    (hw : s.claimTimer slot = { phase := .window, subject := some sub, count := some ms }) :
    exec (.claimWindowExpiry slot) s = .next (settle (granted slot sub .byFrame (elapse ms s))) := by
  show execClaimWindowExpiry slot s = _
  have helapsed : ((elapse ms s).claimTimer slot).phase = .window ∧ ((elapse ms s).claimTimer slot).subject = some sub := by
    cases slot <;> exact ⟨congrArg ClaimTimer.phase hw, congrArg ClaimTimer.subject hw⟩
  simp only [execClaimWindowExpiry, hw]
  refine congrArg _ ((if_pos hpow).trans (congrArg settle ?_))
  simp only [windowExpired, helapsed]

/-! ### The ends at the grant (R62, R144) -/

section
variable {sub : Subject} {grant : Grant} {r : Record} {loss : LossReason} {s : State}

/-- The state in which a slot's operation looks at its grant. -/
def State.payGranted (o : PayOp) (sub : Subject) (grant : Grant) (s : State) : State :=
  { s with
    tickets := s.tickets.held sub.ticket (.held .pay sub.purpose) s.myId
    payTimer := { phase := .granted, subject := some sub, count := none }
    payOp := some { o with grant := grant } }

def State.weighGranted (o : WeighOp) (sub : Subject) (grant : Grant) (s : State) : State :=
  { s with
    tickets := s.tickets.held sub.ticket (.held .weigh sub.purpose) s.myId
    weighTimer := { phase := .granted, subject := some sub, count := none }
    weigh := some { o with grant := grant } }

theorem findRecord_payGranted (o : PayOp) (grant : Grant) (hf : s.findRecord sub.ticket = some r) :
    (s.payGranted o sub grant).findRecord sub.ticket = some { r with custody := .held .pay sub.purpose } :=
  findRecord_held (s := s) s.myId rfl hf

theorem findRecord_weighGranted (o : WeighOp) (grant : Grant) (hf : s.findRecord sub.ticket = some r) :
    (s.weighGranted o sub grant).findRecord sub.ticket = some { r with custody := .held .weigh sub.purpose } :=
  findRecord_held (s := s) s.myId rfl hf

theorem commitLoss_custody (r : Record) (c : Custody) (step : Nat) : commitLoss { r with custody := c } step = commitLoss r step := rfl

theorem granted_pay_lost {o : PayOp} (hp : s.payOp = some o) (ht : o.target = sub.ticket) (hf : s.findRecord sub.ticket = some r)
    (hl : commitLoss r o.claimedStep = some loss) :
    granted .pay sub grant s = endHold .pay sub.ticket .lost (some loss) 0 (s.payGranted o sub grant) := by
  have hu := findRecord_payGranted o grant hf
  cases hv : o.isVoid with
  | true => exact (granted_void_pay hp hv).trans (commitVoid_lost hu hl)
  | false =>
    rw [← ht] at hu ⊢
    exact (granted_pay hp hv).trans (grantPay_lost (o := { o with grant := grant }) hu hl)

end

theorem postNotice_shape (n : Notice) (s : State) : ∃ flags notices, postNotice n s = { s with flags := flags, notices := notices } ∧
    flags.printLost.latched = s.flags.printLost.latched := by
  rcases Nat.lt_or_ge s.notices.queue.length 16 with h | h
  · rw [postNotice_room h]
    exact ⟨_, _, rfl, rfl⟩
  · rw [postNotice_full h]
    exact ⟨_, _, rfl, rfl⟩

/-- A void granted by frame commits, its CLOSED frame on the closing place. -/
theorem commitVoid_byFrame {slot : SlotId} {t : TicketNo} {b : Bool} {r : Record} {step : Nat} {s : State} (hruns : s.slotRuns slot t b)
    (hf : s.findRecord t = some r) (hl : commitLoss r step = none) (hb : s.receiptBlocked = false) :
    ∃ w p printer flags notices, commitVoid slot t step .byFrame s =
      { State.slotClosed slot .committed { s with
          weigh := w, payOp := p, link := s.link.closing b (.closed t .voided 0 0 r.seller.isSome) } with
        tickets := s.tickets.closedAs t (.settled .voided 0 0 s.myId r.seller.isSome)
        day := { s.day with totals := s.day.totals.oneVoided }
        printer := printer, flags := flags, notices := notices } ∧
    (slot = .weigh → p = s.payOp) ∧ (slot = .pay → w = s.weigh) ∧
    (s.printer.jobs.length < 8 → s.notices.queue.length < 16 →
      notices = { s.notices with
        queue := s.notices.queue ++ [(s.notices.seq, .done slot .ok (some t) none 0 0)]
        seq := (s.notices.seq + 1) % 256 } ∧ flags = s.flags ∧
      printer.jobs = s.printer.jobs ++ [receiptJob .voidSlip (some t) (voidSlipLines r false s) s.printer]) ∧
    (8 ≤ s.printer.jobs.length → printer.jobs = s.printer.jobs ∧ flags.printLost.latched = true) := by
  obtain ⟨w, p, hsend, hruns', hpay, hweigh⟩ := sendOnClosing_runs hruns (.closed t .voided 0 0 r.seller.isSome)
  obtain ⟨printer, flags, notices, hcommit, hroom, hfull⟩ := commitVoid_commits (b := false) (grant := .byFrame) hf hl hb
    ((if_pos rfl).trans hsend) hruns'
  rcases Nat.lt_or_ge s.printer.jobs.length 8 with hj | hj
  · obtain ⟨rfl, rfl, rfl⟩ := hroom hj
    rcases Nat.lt_or_ge s.notices.queue.length 16 with hn | hn
    · rw [hcommit, postNotice_room (by exact hn)]
      exact ⟨w, p, _, _, _, rfl, hpay, hweigh, fun _ _ => ⟨rfl, rfl, rfl⟩, fun h => absurd hj (Nat.not_lt.2 h)⟩
    · rw [hcommit, postNotice_full (by exact hn)]
      exact ⟨w, p, _, _, _, rfl, hpay, hweigh, fun _ h => absurd h (Nat.not_lt.2 hn), fun h => absurd hj (Nat.not_lt.2 h)⟩
  · obtain ⟨rfl, hlost⟩ := hfull hj
    obtain ⟨flags', notices', hpost, hlatched⟩ := postNotice_shape (.done slot .ok (some t) none 0 0)
      { State.slotClosed slot .committed { s with
          weigh := w, payOp := p, link := s.link.closing b (.closed t .voided 0 0 r.seller.isSome) } with
        tickets := s.tickets.closedAs t (.settled .voided 0 0 s.myId r.seller.isSome)
        day := { s.day with totals := s.day.totals.oneVoided }
        printer := s.printer, flags := flags, notices := notices }
    rw [hcommit, hpost]
    exact ⟨w, p, _, _, _, rfl, hpay, hweigh, fun h => absurd h (Nat.not_lt.2 hj), fun _ => ⟨rfl, hlatched.trans hlost⟩⟩

end Sys2Proof.Machine
open Sys2Proof Sys2Proof.Machine

/-- Settles O44: each end of the window by what the slot runs and by its record. -/
theorem claimWindowGrants : Obligations.ClaimWindowGrants := by
  intro sub ms s hpow window ended committed told noRoom sent lostPay lostVoid voided
  obtain ⟨e, he⟩ : ∃ e, e = elapse ms s := ⟨_, rfl⟩
  have hexec (slot : SlotId) (hw : s.claimTimer slot = window) :
      exec (.claimWindowExpiry slot) s = .next (settle (granted slot sub .byFrame e)) := by
    rw [he]
    exact windowExpires hpow hw
  have hblocked : e.receiptBlocked = true ↔ noRoom := by rw [he]; exact receiptBlocked_iff
  refine ⟨fun o g d final hw hk htimer => ?_, fun o r hp ht htimer hf hroom => ?_, fun o r hw hk ht htimer hf hroom => ?_⟩
  · rw [hexec .weigh htimer, granted_weighStep (o := o) (by rw [he]; exact hw) hk, he]
    rfl
  · obtain ⟨o', ho'⟩ : ∃ o', o' = { o with confirm := spend ms o.confirm } := ⟨_, rfl⟩
    have hp' : e.payOp = some o' := by
      rw [he, ho']
      show s.payOp.map _ = _
      rw [hp]
      rfl
    have hf' : e.findRecord sub.ticket = some r := by rw [he]; exact hf
    have ht' : o'.target = sub.ticket := by rw [ho']; exact ht
    have hstep' : o'.claimedStep = o.claimedStep := by rw [ho']
    have hlost (outcome : Result) (loss : Option LossReason)
        (h : granted .pay sub .byFrame e = endHold .pay sub.ticket outcome loss 0 (e.payGranted o' sub .byFrame)) :
        lostPay o r outcome loss := by
      show exec (.claimWindowExpiry .pay) s = _
      rw [hexec .pay htimer, h, endHold_held_pay (o := { o' with grant := .byFrame }) (s := e) (by rfl) ht' (by rfl) rfl hf',
        postNotice_room (by rw [he]; exact hroom), Printer.withoutJob_eq, ho', he]
      rfl
    refine ⟨fun hstep => ?_, fun hstep hstale => ?_, fun hstep hstale hv => ?_, fun hstep hstale hv hn => ?_⟩
    · exact hlost .lost (some .changed) (granted_pay_lost hp' ht' hf' (by rw [hstep']; exact if_pos hstep))
    · exact hlost .lost (some .stale) (granted_pay_lost hp' ht' hf' (by rw [hstep']; simp [commitLoss, hstep, hstale]))
    · have hl : commitLoss { r with custody := .held .pay sub.purpose } o'.claimedStep = none :=
        commitLoss_eq_none.2 ⟨by rw [hstep']; exact hstep, hstale⟩
      have hu : (e.payGranted o' sub .byFrame).findRecord o'.target = some { r with custody := .held .pay sub.purpose } := by
        rw [ht']
        exact findRecord_payGranted o' .byFrame hf'
      have hgranted := granted_pay (sub := sub) (grant := .byFrame) hp' (by rw [ho']; exact hv)
      intro f
      have hoffer : PayOp.offerOf { o' with grant := .byFrame } { r with custody := .held .pay sub.purpose }
          (e.payGranted o' sub .byFrame) = f := by
        rw [ho', he]
        rfl
      refine ⟨fun hshort hst => ?_, fun hshort => ?_⟩
      · have h := grantPay_short (o := { o' with grant := .byFrame }) hu hl (by rw [hoffer]; exact hshort) (by rw [he]; exact hst)
        exact hlost .drawerShort none (hgranted.trans (h.trans (congrArg (fun t => endHold .pay t .drawerShort none 0 _) ht')))
      · have hoffers := grantPay_offers (o := { o' with grant := .byFrame }) hu hl (by rw [hoffer, he]; exact hshort)
        rw [hexec .pay htimer, hgranted]
        refine congrArg (fun u => Host.Outcome.next (settle u))
          ((hoffers.trans (congrArg (fun t => postNotice (.done .pay .ok (some t) none 0 0) _) ht')).trans ?_)
        rw [hoffer, postNotice_room (by rw [he]; exact hroom), ho', he]
        rfl
    · have hl : commitLoss { r with custody := .held .pay sub.purpose } o'.claimedStep = none :=
        commitLoss_eq_none.2 ⟨by rw [hstep']; exact hstep, hstale⟩
      have hu := findRecord_payGranted o' .byFrame hf'
      have hgranted := granted_void_pay (sub := sub) (grant := .byFrame) hp' (by rw [ho']; exact hv)
      refine ⟨fun hno => hlost .printQueueFull none (hgranted.trans (commitVoid_printQueueFull hu hl (hblocked.2 hno))), fun hno hc => ?_⟩
      obtain ⟨w, p, printer, flags, notices, hcommit, hpay, hweigh, hfits, hfull⟩ := commitVoid_byFrame (slot := .pay) (t := sub.ticket)
        (b := o.closing) (s := e.payGranted o' sub .byFrame) ⟨_, rfl, ht', by rw [ho'], by rw [ho']; exact hn⟩ hu hl
        (Bool.eq_false_iff.2 fun h => hno (hblocked.1 h))
      refine ⟨_, (hexec .pay htimer).trans (congrArg (fun u => Host.Outcome.next (settle u)) (hgranted.trans hcommit)), ?_⟩
      rw [he] at hweigh hfits hfull ⊢
      have htickets := (held_closedAs sub.ticket (.held .pay sub.purpose) s.myId (.settled .voided 0 0 s.myId r.seller.isSome)
        s.tickets).trans (closedAs_new hf hc)
      exact ⟨rfl, congrArg Tickets.closed htickets, congrArg Tickets.table htickets, congrArg Tickets.register htickets, rfl,
        fun hj => hfits hj hroom, fun hj => hfull hj, hweigh rfl, fun _ => rfl, rfl, rfl, rfl, rfl, rfl⟩
  · have hw' : e.weigh = some o := by rw [he]; exact hw
    have hf' : e.findRecord sub.ticket = some r := by rw [he]; exact hf
    have hu := findRecord_weighGranted o .byFrame hf'
    have hgranted := granted_void_weigh (sub := sub) (grant := .byFrame) hw' hk
    have hlost (outcome : Result) (loss : Option LossReason)
        (h : granted .weigh sub .byFrame e = endHold .weigh sub.ticket outcome loss 0 (e.weighGranted o sub .byFrame)) :
        lostVoid o r outcome loss := by
      show exec (.claimWindowExpiry .weigh) s = _
      rw [hexec .weigh htimer, h, endHold_held_weigh (o := { o with grant := .byFrame }) (s := e) (by rfl) ht (by rfl) rfl hf',
        postNotice_room (by rw [he]; exact hroom), he]
      rfl
    refine ⟨fun hstep => ?_, fun hstep hstale => ?_, fun hstep hstale hno => ?_, fun hstep hstale hno hc => ?_⟩
    · exact hlost .lost (some .changed) (hgranted.trans (commitVoid_lost hu (if_pos hstep)))
    · exact hlost .lost (some .stale) (hgranted.trans (commitVoid_lost hu (by simp [commitLoss, hstep, hstale])))
    · exact hlost .printQueueFull none
        (hgranted.trans (commitVoid_printQueueFull hu (commitLoss_eq_none.2 ⟨hstep, hstale⟩) (hblocked.2 hno)))
    · obtain ⟨w, p, printer, flags, notices, hcommit, hpay, hweigh, hfits, hfull⟩ := commitVoid_byFrame (slot := .weigh)
        (t := sub.ticket) (b := o.closing) (s := e.weighGranted o sub .byFrame) ⟨_, rfl, ht, rfl⟩ hu
        (commitLoss_eq_none.2 ⟨hstep, hstale⟩) (Bool.eq_false_iff.2 fun h => hno (hblocked.1 h))
      refine ⟨_, (hexec .weigh htimer).trans (congrArg (fun u => Host.Outcome.next (settle u)) (hgranted.trans hcommit)), ?_⟩
      rw [he] at hweigh hfits hfull ⊢
      have htickets := (held_closedAs sub.ticket (.held .weigh sub.purpose) s.myId (.settled .voided 0 0 s.myId r.seller.isSome)
        s.tickets).trans (closedAs_new hf hc)
      exact ⟨rfl, congrArg Tickets.closed htickets, congrArg Tickets.table htickets, congrArg Tickets.register htickets, rfl,
        fun hj => hfits hj hroom, fun hj => hfull hj, rfl, fun h => (by cases h), rfl, rfl, rfl, rfl, rfl⟩

end

section
/-! PROOFS. PAY: its placeholder, its checks, its claim and its offer under a local grant. -/

namespace Sys2Proof.Machine

/-! ### The number of a new job (R163) -/

/-- The number reached from `n` after `k` more, for the few that are tested. -/
def jobNumberAfter (n k : Nat) : Nat :=
  if k = 0 then n else if 255 ≤ n then k else if n + k ≤ 255 then n + k else n + k - 255

theorem jobNumberAfter_next {n k : Nat} (hk : k < 250) : jobNumberAfter (jobAfter n) k = jobNumberAfter n (k + 1) := by
  simp only [jobNumberAfter, jobAfter, Nat.succ_ne_zero, if_false]
  by_cases hn : 255 ≤ n
  · simp only [if_pos hn]
    repeat' split
    all_goals omega
  · simp only [if_neg hn]
    repeat' split
    all_goals omega

theorem jobNumberAfter_inj {n i j : Nat} (hi : i < 9) (hj : j < 9) (h : jobNumberAfter n i = jobNumberAfter n j) : i = j := by
  unfold jobNumberAfter at h
  repeat' split at h
  all_goals omega

/-- A search that ends on a number in use has passed over as many as it tests. -/
theorem freeJobNumber_held {jobs : List Job} : ∀ {fuel n : Nat}, fuel < 250 →
    freeJobNumber jobs fuel n ∈ jobs.map Job.number → ∀ k ≤ fuel, jobNumberAfter n k ∈ jobs.map Job.number
  | 0, n, _, h, k, hk => by
    rw [Nat.le_zero.1 hk]
    exact h
  | fuel + 1, n, hf, h, k, hk => by
    rw [freeJobNumber] at h
    split at h
    · rename_i hany
      cases k with
      | zero =>
        obtain ⟨j, hj, hn⟩ := List.any_eq_true.1 hany
        exact List.mem_map.2 ⟨j, hj, of_decide_eq_true hn⟩
      | succ k =>
        rw [← jobNumberAfter_next (by omega)]
        exact freeJobNumber_held (by omega) h k (by omega)
    · rename_i hnone
      obtain ⟨j, hj, hn⟩ := List.mem_map.1 h
      exact absurd (List.any_eq_true.2 ⟨j, hj, by simpa using hn⟩) hnone

/-- With room for a job its number is in use by no other. -/
theorem nextNumber_fresh {p : Printer} (h : p.jobs.length < 8) : ∀ j ∈ p.jobs, j.number ≠ p.nextNumber := by
  intro j hj hn
  have hheld := freeJobNumber_held (jobs := p.jobs) (fuel := 8) (n := p.nextJob) (by decide)
    (List.mem_map.2 ⟨j, hj, hn⟩)
  have hnodup : ((List.range 9).map (jobNumberAfter p.nextJob)).Nodup :=
    nodup_map_of_injOn (fun i hi k hk h => jobNumberAfter_inj (List.mem_range.1 hi) (List.mem_range.1 hk) h) List.nodup_range
  have hsub : (List.range 9).map (jobNumberAfter p.nextJob) ⊆ p.jobs.map Job.number := by
    intro n hn
    obtain ⟨k, hk, rfl⟩ := List.mem_map.1 hn
    exact hheld k (by have := List.mem_range.1 hk; omega)
  have := length_le_of_nodup_subset hnodup hsub
  simp at this
  omega

/-! ### The placeholder of a PAY (R143) -/

/-- The job that keeps the voucher's place. -/
def placeholderJob (t : TicketNo) (p : Printer) : Job :=
  { number := p.nextNumber, kind := .voucher, ticket := some t, copy := 0, restarts := 0, state := .waiting, lines := [], sent := 0,
    awaitsBusy := false }

theorem makePlaceholder_eq (t : TicketNo) (s : State) : makePlaceholder t s = { s with printer := { s.printer with
    jobs := if s.settings.receiptRequired = true then s.printer.jobs ++ [placeholderJob t s.printer] else s.printer.jobs
    nextJob := if s.settings.receiptRequired = true then jobAfter s.printer.nextNumber else s.printer.nextJob } } := by
  unfold makePlaceholder
  split <;> rfl

/-- The placeholder is the only job of its number. -/
theorem withoutPlaceholder_jobs {t : TicketNo} {p : Printer} (h : p.jobs.length < 8) :
    (p.jobs ++ [placeholderJob t p]).filter (fun j => decide (j.number ≠ p.nextNumber)) = p.jobs := by
  rw [List.filter_append, List.filter_eq_self.2 fun j hj => by simpa using nextNumber_fresh h j hj]
  simp [placeholderJob]

/-! ### The checks of PAY (R141, R142) -/

theorem readPay_ok {n : TicketNo} {seller : Text} (hh : n.home ≤ 255) (hs : n.serial ≤ 65535) (hl : seller.length ≤ 16)
    (hc : ∀ c ∈ seller, c ≤ 255) : readPay (ticketBytes n ++ textBytes seller) = some (n, seller) := by
  have ht := takeText_textBytes (t := seller) (by omega) (fun c h => by have := hc c h; omega) []
  rw [List.append_nil] at ht
  simp [readPay, takeTicket_ticketBytes (n := n) (by omega) (by omega), ht]

theorem payInRange_iff {n : TicketNo} {seller : Text} (hs : n.serial ≤ 65535) (hl : seller.length ≤ 16) :
    (ticketOk n && optTextOk 1 16 (given seller)) = true ↔ ticketInRange n ∧ ∀ c ∈ seller, 32 ≤ c ∧ c ≤ 126 := by
  have htext : optTextOk 1 16 (given seller) = true ↔ ∀ c ∈ seller, 32 ≤ c ∧ c ≤ 126 := by
    cases seller with
    | nil => simp [given, optTextOk]
    | cons c l =>
      rw [given, if_neg (by simp), optTextOk, textOk_iff]
      exact ⟨fun ⟨_, _, h⟩ => h, fun h => ⟨by simp, hl, h⟩⟩
  rw [Bool.and_eq_true, ticketOk_iff, htext]
  exact and_congr_left fun _ => ⟨fun ⟨h1, h2, h3, _⟩ => ⟨h1, h2, h3⟩, fun ⟨h1, h2, h3⟩ => ⟨h1, h2, h3, hs⟩⟩

theorem payRefusal_eq (t : TicketNo) (seller : Option Text) (s : State) : payRefusal t seller s =
    if (ticketOk t && optTextOk 1 16 seller) = false then some .range else if gatePasses .pay s = false then some .halted
      else ticketRefusal t (fun l => decide (l = .complete)) (fun r =>
        [((sellerRefusal r seller).isSome, (sellerRefusal r seller).getD .notAllowed), (s.receiptBlocked, .printQueueFull)]) s := by
  cases h1 : ticketOk t && optTextOk 1 16 seller <;> cases h2 : gatePasses .pay s <;> simp [payRefusal, firstRefusal, h1, h2]

theorem sellerRefusal_eq (r : Record) (seller : Text) : sellerRefusal r (given seller) =
    if r.seller = none ∧ seller = [] ∧ ∃ l ∈ r.lines, l.regulated = true then some .sellerRequired
    else if r.seller ≠ none ∧ seller ≠ [] ∧ r.seller ≠ some seller then some .notAllowed else none := by
  have hreg : r.hasRegulated = true ↔ ∃ l ∈ r.lines, l.regulated = true := by simp [Record.hasRegulated]
  by_cases hs : seller = [] <;> cases hr : r.seller <;> simp [sellerRefusal, given, hr, hs, ← hreg]

theorem pay_refused {t : TicketNo} {seller : Text} {x : Result} {s : State} (h : payRefusal t (given seller) s = some x) :
    pay (t, seller) s = refuse t x s := by
  simp only [pay, h]

/-- The claim request of a PAY that its checks pass. -/
def payRequest (t : TicketNo) (seller : Text) (step : Nat) (s : State) : Result × State :=
  requestClaim .pay ⟨t, .pay, step⟩ (fun u => u.onPay (fun _ => some (payOpFor t (given seller) s.placeholderNumber step)))
    (makePlaceholder t s)

theorem pay_claims {t : TicketNo} {seller : Text} {r : Record} {s : State} (h : payRefusal t (given seller) s = none)
    (hf : s.findRecord t = some r) :
    pay (t, seller) s = withoutPlaceholder s.placeholderNumber (payRequest t seller r.step s) := by
  simp only [pay, h, State.stepOf, hf]
  rfl

theorem withoutPlaceholder_accepted (job : Option Nat) (s : State) : withoutPlaceholder job (.accepted, s) = reply .accepted s := by
  cases job <;> rfl

/-- A refused claim leaves the number that its placeholder used, and nothing else of it. -/
theorem withoutPlaceholder_refused {t : TicketNo} {x : Result} {s : State} (hx : x ≠ .accepted)
    (hroom : s.settings.receiptRequired = true → s.printer.jobs.length < 8) :
    withoutPlaceholder s.placeholderNumber (x, makePlaceholder t s) = reply x { s with printer := { s.printer with
      nextJob := if s.settings.receiptRequired = true then jobAfter s.printer.nextNumber else s.printer.nextJob } } := by
  rw [makePlaceholder_eq]
  by_cases hr : s.settings.receiptRequired = true
  · have hjobs := withoutPlaceholder_jobs (t := t) (hroom hr)
    simp only [withoutPlaceholder, State.placeholderNumber, hr, if_true, decide_eq_false hx, removeJob, State.onPrinter, hjobs]
  · simp only [withoutPlaceholder, State.placeholderNumber, hr, decide_eq_false hx]
    rfl

theorem claimRoute_refused_ne {t : TicketNo} {x : Result} {s : State} (h : s.claimRoute t = .refused x) : x ≠ .accepted := by
  cases hs : s.link.state with
  | up =>
    rw [claimRoute_up hs] at h
    split at h
    · split at h <;> cases h
      decide
    · cases h
      decide
  | alone =>
    rw [claimRoute_alone hs] at h
    split at h <;> cases h
    decide
  | down =>
    rw [claimRoute_down hs] at h
    split at h <;> cases h
    decide
  | joining =>
    simp only [State.claimRoute, hs] at h
    cases h
    decide
  | silent =>
    simp only [State.claimRoute, hs] at h
    cases h
    decide

theorem given_isSome (seller : Text) : (given seller).isSome = decide (seller ≠ []) := by
  by_cases h : seller = [] <;> simp [given, h]

/-- The offer under a local grant: OFFLINE where the link is DOWN (R145). -/
theorem offerOf_locally {o : PayOp} {r : Record} {st : LinkState} {seller : Text} {s u : State} (c : Custody)
    (hg : o.given = given seller) (hsettings : u.settings = s.settings) (hdrawer : u.drawer = s.drawer) :
    PayOp.offerOf { o with grant := .byLink st } { r with custody := c } u =
      computeOffer (r.offered (decide (st = .down)) (r.seller.isSome || decide (seller ≠ []))) s := by
  have hdown : decide (Grant.byLink st = .byLink .down) = decide (st = .down) := by simp
  simp only [PayOp.offerOf, hg, given_isSome, hdown, computeOffer, hsettings, hdrawer]
  rfl

end Sys2Proof.Machine
open Sys2Proof Sys2Proof.Machine

/-- Settles O35: the checks in their order, then the engine's route; a local grant by `grantPay_offers` and `grantPay_short`. -/
theorem payClaimsByFrame : Obligations.PayClaimsByFrame := by
  intro n seller s ps refused ht hpay hopen hrestarted hh hs hl hchars inRange
  obtain ⟨p, hv⟩ := s.accepted_shape ps.length
  obtain ⟨v, hv'⟩ : ∃ v : State, v = { s with printer := { s.printer with load := none }, port := p } := ⟨_, rfl⟩
  rw [← hv'] at hv
  have hlength : ps.length ∈ upTo 4 20 := by
    simp [ps, upTo, textBytes]
    omega
  have hanswer {t : State} {bs : List Byte} (h : unlessBusy .pay (Machine.pay (n, seller)) v = (t, bs)) :
      exec (.pay ps) s = .next (t.answered bs) := by
    refine command_answers (ps := ps) ht (by decide : 30 ∈ commandCodes)
      (Acceptance.refusal_none (placeRefusal_pay hpay) (.inr hrestarted) (by simp [payAlways, always, hopen]) hlength) ?_
    rw [readPay_ok hh hs hl hchars, hv]
    exact h
  have hidle (h : s.payOp = none) : unlessBusy .pay (Machine.pay (n, seller)) v = Machine.pay (n, seller) v :=
    unlessBusy_idle (by rw [hv', State.slotBusy, h]; rfl)
  have hrefused {x : Result} (hx : x ≠ .stale) (h : s.payOp = none) (hr : payRefusal n (given seller) v = some x) :
      refused (byte x.code) := by
    show exec (.pay ps) s = .next ((s.accepted ps.length).answered _)
    rw [hv]
    exact hanswer (by rw [hidle h, pay_refused hr, refuse_of_ne hx]; rfl)
  have hrange : (ticketOk n && optTextOk 1 16 (given seller)) = true ↔ inRange := payInRange_iff hs hl
  refine ⟨fun hbusy => ?_, fun h hno => ?_, fun h hin hgate => ?_, fun h hin hgate => ?_⟩
  · show exec (.pay ps) s = .next ((s.accepted ps.length).answered _)
    rw [hv]
    refine hanswer ?_
    have : v.slotBusy .pay = true := by rw [hv']; exact Option.isSome_iff_ne_none.2 hbusy
    rw [unlessBusy, if_pos this]
    rfl
  · refine hrefused (x := .range) (by decide) h ?_
    rw [payRefusal_eq, if_pos (Bool.eq_false_iff.2 fun h => hno (hrange.1 h))]
  · refine hrefused (x := .halted) (by decide) h ?_
    rw [payRefusal_eq, hrange.2 hin, if_neg Bool.noConfusion, if_pos (by rw [hv']; exact hgate)]
  · have hchecks : payRefusal n (given seller) v = ticketRefusal n (fun l => decide (l = .complete)) (fun r =>
        [((sellerRefusal r (given seller)).isSome, (sellerRefusal r (given seller)).getD .notAllowed),
          (v.receiptBlocked, .printQueueFull)]) v := by
      rw [payRefusal_eq, hrange.2 hin, if_neg Bool.noConfusion, if_neg]
      rw [hv']
      exact fun hno => Bool.false_ne_true (hno.symm.trans hgate)
    refine ticketChecks_intro (s := v) (by rw [hv']; rfl) (by rw [hv']; rfl) (fun l => decide_eq_true_iff)
      (fun x hx hr => hrefused hx h (hchecks.trans hr)) (fun r hr ha => ?_) (fun r hc hrv hstale hcustody hlater => ?_)
    · rw [hv]
      refine hanswer ?_
      rw [hidle h, pay_refused (hchecks.trans ha), refuse_stale hr, hv']
      rfl
    · replace hchecks := hchecks.trans hlater
      intro sub timer required unnamed other noRoom printer withVoucher op f told
      have hroom : v.receiptBlocked = true ↔ noRoom := by rw [hv']; exact receiptBlocked_iff
      have hseller := sellerRefusal_eq r seller
      refine ⟨fun hun => ?_, fun hother => ?_, fun hun hother hno => ?_, fun hun hother hno => ?_⟩
      · rw [if_pos hun] at hseller
        exact hrefused (x := .sellerRequired) (by decide) h (hchecks.trans (by rw [hseller]; rfl))
      · rw [if_neg (fun ⟨h1, _⟩ => hother.1 h1), if_pos hother] at hseller
        exact hrefused (x := .notAllowed) (by decide) h (hchecks.trans (by rw [hseller]; rfl))
      · rw [if_neg hun, if_neg hother] at hseller
        refine hrefused (x := .printQueueFull) (by decide) h (hchecks.trans ?_)
        rw [hseller, hroom.2 hno]
        rfl
      · rw [if_neg hun, if_neg hother] at hseller
        have hpasses : payRefusal n (given seller) v = none := by
          rw [hchecks, hseller, Bool.eq_false_iff.2 fun h => hno (hroom.1 h)]
          rfl
        have hclaims := (hidle h).trans (pay_claims hpasses hrv)
        have hjobs (hr : s.settings.receiptRequired = true) : s.printer.jobs.length < 8 :=
          Nat.lt_of_not_le fun h8 => hno ⟨hr, h8⟩
        have hm : makePlaceholder n v = { s with printer := printer withVoucher, port := p } := by
          rw [makePlaceholder_eq, hv']
          rfl
        have hroute : (makePlaceholder n v).claimRoute n = s.claimRoute n := by rw [hm]; rfl
        refine claimEnds_intro (fun x hx => ?_) (fun hq => ?_) (fun hl => ?_)
        · rw [hv]
          refine hanswer ?_
          rw [hclaims, payRequest, requestClaim_refused (by exact hroute.trans hx),
            withoutPlaceholder_refused (claimRoute_refused_ne hx) (by rw [hv']; exact hjobs), hv']
          rfl
        · rw [hv]
          refine hanswer ?_
          rw [hclaims, payRequest, requestClaim_byFrame (by exact hroute.trans hq) rfl rfl, withoutPlaceholder_accepted, hm, hv']
          rfl
        · intro hnotices
          obtain ⟨u, hu⟩ : ∃ u : State, u = { s with printer := printer withVoucher, port := p, payOp := some op } := ⟨_, rfl⟩
          obtain ⟨g, hg⟩ : ∃ g, g = Grant.byLink s.link.state := ⟨_, rfl⟩
          have hup : u.payOp = some op := by rw [hu]
          have hrequest : payRequest n seller r.step v = (.accepted, granted .pay sub g u) := by
            rw [payRequest, requestClaim_locally (by exact hroute.trans hl), hm, hu, hg, hv']
            rfl
          have hfu : u.findRecord n = some r := by rw [hu]; exact (by rw [hv'] at hrv; exact hrv)
          have hrecord : (u.payGranted op sub g).findRecord op.target = some { r with custody := .held .pay .pay } :=
            findRecord_payGranted (sub := sub) (r := r) (s := u) op g hfu
          have hloss : commitLoss { r with custody := .held .pay .pay } op.claimedStep = none := commitLoss_eq_none.2 ⟨rfl, hstale⟩
          have hoffer : PayOp.offerOf { op with grant := g } { r with custody := .held .pay .pay } (u.payGranted op sub g) = f := by
            rw [hg]
            exact offerOf_locally _ rfl (by rw [hu]; rfl) (by rw [hu]; rfl)
          have hgranted : granted .pay sub g u = grantPay { op with grant := g } (u.payGranted op sub g) := granted_pay hup rfl
          have hwithout : (printer withVoucher).withoutJob op.placeholder = printer s.printer.jobs := by
            simp only [op, withVoucher, printer, required]
            by_cases hr : s.settings.receiptRequired = true
            · simp only [hr, if_true, Printer.withoutJob]
              exact congrArg (fun jobs => { s.printer with
                load := none, jobs := jobs, nextJob := jobAfter s.printer.nextNumber }) (withoutPlaceholder_jobs (hjobs hr))
            · rw [Bool.not_eq_true] at hr
              simp only [hr, Bool.false_eq_true, if_false, Printer.withoutJob_none]
          refine ⟨fun hshort => ?_, fun hshort hst => ?_⟩
          · have hoffers := grantPay_offers (o := { op with grant := g }) (s := u.payGranted op sub g) hrecord hloss
              (by rw [hoffer, hu]; exact hshort)
            rw [hv]
            refine hanswer ?_
            rw [hclaims, hrequest, withoutPlaceholder_accepted, hgranted, hoffers, hoffer, postNotice_room (by rw [hu]; exact hnotices),
              hu, hg, hv']
            rfl
          · have hends := grantPay_short (o := { op with grant := g }) (s := u.payGranted op sub g) hrecord hloss
              (by rw [hoffer]; exact hshort) (by rw [hu]; exact hst)
            rw [hv]
            refine hanswer ?_
            rw [hclaims, hrequest, withoutPlaceholder_accepted, hgranted, hends,
              endHold_held_pay (o := { op with grant := g }) (t := n) (s := u) (by rfl) rfl (by rfl) rfl hfu,
              postNotice_room (by rw [hu]; exact hnotices), hu, hg, hv']
            refine (congrArg (fun q => reply .accepted { s with
              port := p, payOp := none, payTimer := timer .ended, printer := q, tickets := s.tickets.handedBack r (s.roleKeeps r)
              notices := told .drawerShort }) hwithout).trans ?_
            rw [h]
            rfl

end


section
/-! PAY CONFIRM under a local grant with a full transmit queue: the CLOSED frame takes the place of an unstarted burst, whose
record, another ticket's, then waits for its broadcast: the table is not the former one less the closed ticket. -/

namespace Sys2Proof.Machine

/-- A COMPLETE ticket of station 2, held by the pay slot. -/
def crowdedRecord : Record :=
  { number := ⟨2, 1⟩, issueDay := 7, life := .complete, step := 0, grossIn := 30000, lastWeight := 30000,
    weighInTime := 20000, lastStepTime := 20000, lines := [], tag := none, seller := none, offline := false,
    priceEarly := false, lastWriter := 2, custody := .held .pay .pay, stale := false, pendingBroadcast := false }

/-- Another ticket's record, last written here, whose burst waits in the queue. -/
def waitingRecord : Record := { crowdedRecord with number := ⟨2, 4⟩, life := .opened, custody := .free }

/-- A burst of 24 frames that has not been started. -/
def longBurst : QueueItem :=
  { frames := List.replicate 24 (.release ⟨2, 4⟩), burst := some ⟨2, 4⟩, slot := none, started := false, onWire := false,
    attempts := 0, timeout := none, timedOut := false }

def crowdedOffer : Offer :=
  { net := 0, regulated := 0, cls := .nothingPayable, cash := 0, transfer := 0, rPrime := 0, unregulated := 0, c0 := 0,
    c1 := 0, room := 0, c2 := 0, unit := 0, c3 := 0, residue := 0, shortfall := 0, breakdown := [], limit := 0,
    paidAtOffer := 0, offline := false, seller := false }

/-- An offer of a local grant. -/
def crowdedPay : PayOp :=
  { isVoid := false, target := ⟨2, 1⟩, given := none, placeholder := none, grant := .byLink .alone, claimedStep := 0,
    closing := false, offer := some crowdedOffer, confirm := some 1000 }

/-- A WINDOW station on the day with an offer of a local grant and all 24 places of the transmit queue taken by the burst of
another ticket. -/
def crowdedState : State :=
  { State.reset with
    identity := ⟨⟨2, 2, 0⟩, none⟩
    day := { YardDay.factory with isOpen := true, number := 7 }
    tickets := { Tickets.factory with owner := 2, table := [crowdedRecord, waitingRecord] }
    flags := { Flags.start with restarted := false }
    link := { Link.start with
      state := .alone
      queue := [longBurst] }
    payOp := some crowdedPay }

/-- Which records of the next state's table wait for a broadcast. -/
def tableMarks : Host.Outcome State Fault Refusal → List Bool
  | .next t => t.tickets.table.map Record.pendingBroadcast
  | _ => []

theorem tableMarks_answered (bs : List Byte) (t : State) :
    tableMarks (.next (t.answered bs)) = t.tickets.table.map Record.pendingBroadcast := by
  rw [State.answered, settle_shape]
  rfl

end Sys2Proof.Machine

open Sys2Proof Sys2Proof.Machine

/-- Refutes O36: under a local grant with 24 places occupied the CLOSED frame evicts the burst of another ticket, whose
record in the table is then marked pending broadcast. -/
theorem not_payConfirmCommitsTheOffer : ¬ Obligations.PayConfirmCommitsTheOffer := by
  unfold Obligations.PayConfirmCommitsTheOffer
  intro h
  obtain ⟨-, -, hcommit⟩ := h crowdedPay crowdedOffer crowdedRecord ⟨2, 1⟩ crowdedState (by decide) (by decide) (by decide)
    (by decide)
  obtain ⟨t, hexec, -, -, -, htable, -⟩ :=
    hcommit rfl rfl rfl (by decide) rfl rfl rfl (fun hgrant => absurd hgrant (by decide)) (by decide)
  have hmarked : tableMarks (exec (.payConfirm (ticketBytes ⟨2, 1⟩)) crowdedState) = [true] := by decide
  rw [hexec] at hmarked
  have hmarks : t.tickets.table.map Record.pendingBroadcast = [true] := (tableMarks_answered _ t).symm.trans hmarked
  rw [htable] at hmarks
  exact absurd hmarks (by decide)

end


section
/-! What the part does with a good frame of a peer that is present: the frame is read back, the roster hears the peer, and the
frame goes to its block. RELEASE and CLOSED. -/

namespace Sys2Proof.Machine

/-! ### The reading itself (R88 to R90) -/

/-- The acknowledge slot is driven but in JOINING and SILENT, and the roster hears the peer. -/
def State.heardFrom (x : Nat) (s : State) : State :=
  { s with link := { s.link with
      ackDriven := !(decide (s.link.state = .joining) || decide (s.link.state = .silent))
      roster := s.link.roster.map (fun p => if p.id = x then { p with present := true, sinceHeard := 0 } else p) } }

theorem heardFrom_eq_heard {x : Nat} {s : State} (hj : s.link.state ≠ .joining) (hs : s.link.state ≠ .silent) :
    s.heardFrom x = s.heard x := by
  unfold State.heardFrom State.heard
  rw [decide_eq_false hj, decide_eq_false hs]
  rfl

theorem peer_of_present {x : Nat} {s : State} (h : s.present x = true) : ∃ p, s.peer x = some p := by
  unfold State.present at h
  cases hp : s.peer x with
  | none => rw [hp] at h; exact absurd h (by decide)
  | some p => exact ⟨p, rfl⟩

theorem refreshPeer_present {x : Nat} {s : State} (h : s.present x = true) :
    refreshPeer x (driveAck true s) = s.heardFrom x := by
  obtain ⟨p, hp⟩ := peer_of_present h
  have h' : (driveAck true s).present x = true := h
  have hp' : (driveAck true s).peer x = some p := hp
  rw [refreshPeer, if_pos h', hearPeer, hp']
  rfl

/-- A frame in range from another station is read back and goes to its sender's context, then to its block. -/
theorem receive_peer {f : Frame} {x : Nat} {s : State} (h1 : 1 ≤ x) (h15 : x ≤ 15) (hne : x ≠ s.myId) (hf : f.inRange = true) :
    receive f.kind x f.payload s = deliver x f (reassemble x f (refreshPeer x (driveAck true s))) := by
  have hne' : x ≠ (driveAck true s).myId := hne
  have hrange : ¬ (x = 0 ∨ 15 < x) := by omega
  unfold receive
  simp only [if_neg hrange, if_neg hne', everyFrameIsReadBack f hf]

theorem receive_hears {f : Frame} {x : Nat} {s : State} (h : s.hears x) (hf : f.inRange = true) :
    receive f.kind x f.payload s = deliver x f (reassemble x f (s.heardFrom x)) := by
  obtain ⟨-, h1, h15, hne, -, hp⟩ := h
  rw [receive_peer h1 h15 hne hf, refreshPeer_present hp]

theorem exec_received (f : Frame) (x : Nat) (s : State) :
    exec (f.received x) s = .next (powered (receive f.kind x f.payload) s) := by
  cases f <;> rfl

theorem exec_hears {f : Frame} {x : Nat} {s : State} (h : s.hears x) (hf : f.inRange = true) :
    exec (f.received x) s = .next (settle (deliver x f (reassemble x f (s.heardFrom x)))) := by
  rw [exec_received, powered, if_pos h.1, receive_hears h hf]

/-- Outside a burst a frame of any kind but HEAD goes to its block alone. -/
theorem reassemble_outside {f : Frame} {x : Nat} {s : State} (hc : s.contextOf x = none) (hk : f.kind ≠ .head) :
    reassemble x f s = s := by
  cases f
  case head => exact absurd rfl hk
  all_goals simp only [reassemble, hc]

theorem exec_hears_outside {f : Frame} {x : Nat} {s : State} (h : s.hears x) (hc : s.contextOf x = none)
    (hk : f.kind ≠ .head) (hf : f.inRange = true) :
    exec (f.received x) s = .next (settle (deliver x f (s.heardFrom x))) := by
  rw [exec_hears h hf, reassemble_outside (by exact hc) hk]

theorem exec_reads {f : Frame} {x : Nat} {s : State} (h : s.reads x) (hc : s.contextOf x = none)
    (hk : f.kind ≠ .head) (hf : f.inRange = true) :
    exec (f.received x) s = .next (settle (deliver x f (s.heard x))) := by
  rw [exec_hears_outside h.1 hc hk hf, heardFrom_eq_heard (by rw [h.2]; decide) (by rw [h.2]; decide)]

/-! ### The block of each kind, with an ID in force (R90) -/

section
variable {s : State} (h : s.waitId = false) (x : Nat) (n : TicketNo)
include h

theorem deliver_release : deliver x (.release n) s = judgeRelease x n s := if_neg (by simp [h])

theorem deliver_closed (how : Settlement) (cash : Nat) (transfer : Int) (seller : Bool) :
    deliver x (.closed n how cash transfer seller) s = observeClosure n (.settled how cash transfer x seller) s :=
  if_neg (by simp [h])

theorem deliver_claim (p : Purpose) (step : Nat) : deliver x (.claim n p step) s = judgeClaim x n p step s :=
  if_neg (by simp [h])

theorem deliver_object (c holder : Nat) (reason : ObjectReason) (step : Nat) :
    deliver x (.object n c holder reason step) s = judgeObject x n c holder reason step s := if_neg (by simp [h])

theorem deliver_ask (step : Nat) : deliver x (.ask n step) s = answerAsk n step s := if_neg (by simp [h])

end

/-! ### Holds of a peer (R97, R132) -/

theorem freeTakenBy_holder {x : Nat} {n : TicketNo} {r : Record} {p : Purpose} {s : State} (hf : s.findRecord n = some r)
    (hc : r.custody = .taken x p) : freeTakenBy x n s = modifyRecord n (fun r => { r with custody := .free }) s := by
  simp only [freeTakenBy, hf, hc, if_true]
  exact setCustody_not_own _ hf (by rw [hc]; rfl)

theorem freeTakenBy_other {x : Nat} {n : TicketNo} {s : State} (h : ∀ r ∈ s.findRecord n, r.taker ≠ some x) :
    freeTakenBy x n s = s := by
  cases hf : s.findRecord n with
  | none => simp only [freeTakenBy, hf]
  | some r =>
    have hr := h r hf
    cases hc : r.custody with
    | taken y p =>
      have hy : y ≠ x := fun he => hr (by rw [Record.taker, hc, he])
      simp only [freeTakenBy, hf, hc, if_neg hy]
    | _ => simp only [freeTakenBy, hf, hc]

/-! ### Closures (R133) -/

theorem endByClosure_other {slot : SlotId} {n : TicketNo} {s : State}
    (h : ∀ u ∈ (s.claimTimer slot).subject, u.ticket ≠ n) : endByClosure slot n s = s := by
  unfold endByClosure State.subjectIn
  cases hs : (s.claimTimer slot).subject with
  | none => simp
  | some u => simp [h u hs]

end Sys2Proof.Machine

open Sys2Proof Sys2Proof.Machine

/-- Settles O49: neither frame asks more than the peer's own hold, or a ticket that no slot works on. -/
theorem releaseAndClosedReceived : Obligations.ReleaseAndClosedReceived := by
  intro x n r s hr hc h1 h15 hs1 hs hf
  have hok : ticketOk n = true := ticketOk_iff.2 ⟨h1, h15, hs1, hs⟩
  have hf' : (s.heard x).findRecord n = some r := hf
  have hid : (s.heard x).waitId = false := hr.1.2.2.2.2.1
  refine ⟨fun y p hy => ?_, fun how cash transfer seller hcash hlow hhigh hw hp hnew hroom hnotice => ?_⟩
  · have hexec := exec_reads (f := .release n) hr hc (fun h => nomatch h) (by exact hok)
    rw [deliver_release hid, judgeRelease, moveHolder, modifyEntry_eq] at hexec
    have hmoved (l : List RegEntry) : l.map (fun e => if e.serial = n.serial then
          (if e.holder = x then { e with holder := 0 } else e) else e) =
        l.map (fun e => if e.serial = n.serial ∧ e.holder = x then { e with holder := 0 } else e) :=
      List.map_congr_left fun e _ => (ite_and_split ..).symm
    by_cases hyx : y = x
    · subst hyx
      rw [freeTakenBy_holder hf' hy] at hexec
      exact ⟨_, hexec, rfl, (if_pos rfl).symm, fun ho h0 => (if_pos ⟨ho, h0⟩).trans (hmoved _), rfl⟩
    · have hother : ∀ q ∈ (s.heard x).findRecord n, q.taker ≠ some x := by
        intro q hq
        rw [hf', Option.mem_some_iff] at hq
        rw [← hq, Record.taker, hy]
        exact fun he => hyx (Option.some.inj he)
      rw [freeTakenBy_other hother] at hexec
      exact ⟨_, hexec, rfl, (if_neg hyx).symm, fun ho h0 => (if_pos ⟨ho, h0⟩).trans (hmoved _), rfl⟩
  · have hrange : (Frame.closed n how cash transfer seller).inRange = true := by
      simp [Frame.inRange, hok, Config.maxAmount, hcash]
      exact decide_eq_true (by omega)
    have hexec := exec_reads (f := .closed n how cash transfer seller) hr hc (fun h => nomatch h) hrange
    have hsome : ((s.heard x).findRecord n).isSome = true := by rw [hf']; rfl
    have hfree (u : State) (hu : u.weighTimer = s.weighTimer) (hu' : u.payTimer = s.payTimer) :
        endAllByClosure n u = u := by
      have hnone : ∀ slot, ∀ q ∈ (u.claimTimer slot).subject, q.ticket ≠ n := by
        intro slot q hq
        cases slot
        · rw [show (u.claimTimer .weigh).subject = none from (congrArg ClaimTimer.subject hu).trans hw] at hq
          cases hq
        · rw [show (u.claimTimer .pay).subject = none from (congrArg ClaimTimer.subject hu').trans hp] at hq
          cases hq
      rw [endAllByClosure, endByClosure_other (hnone .weigh), endByClosure_other (hnone .pay)]
    rw [deliver_closed hid, observeClosure, if_pos hsome, closeTicket_eq,
      show (s.heard x).tickets = s.tickets from rfl, closedAs_new hf hnew, if_neg (Nat.not_le.2 hroom),
      postNotice_room (by exact hnotice), hfree _ (by rfl) (by rfl)] at hexec
    have hlife : how.life = if how = .paid then .paid else .voided := by cases how <;> rfl
    exact ⟨_, hexec, rfl, rfl, rfl, fun ho h0 => (if_pos ⟨ho, h0⟩).trans (by simp only [RegEntry.close, hlife]), rfl⟩

end


section
/-! The roster: what it hears of a peer's ANNOUNCE, the notices of its changes, and the answer to an ASK. -/

namespace Sys2Proof.Machine

/-! ### The roster's entry of a peer (R110, R111) -/

/-- The values an ANNOUNCE gives its sender's entry. -/
def Peer.announcing (a : AnnounceValues) (p : Peer) : Peer :=
  { p with role := some a.role, dayNumber := some a.dayNumber, dayOpen := some a.dayOpen, tableLoad := some a.tableLoad }

theorem find_map_peer {x : Nat} {p : Peer} {f : Peer → Peer} (hf : ∀ q, (f q).id = q.id) {l : List Peer}
    (h : l.find? (fun q => decide (q.id = x)) = some p) :
    (l.map (fun q => if q.id = x then f q else q)).find? (fun q => decide (q.id = x)) = some (f p) := by
  have hid (q : Peer) : (if q.id = x then f q else q).id = q.id := by split <;> simp [hf]
  have hx : p.id = x := by simpa using List.find?_some h
  rw [List.find?_map, show ((fun q : Peer => decide (q.id = x)) ∘ fun q => if q.id = x then f q else q) =
    (fun q => decide (q.id = x)) from funext fun q => by simp only [Function.comp_apply, hid], h]
  exact congrArg some (if_pos hx)

theorem peer_modifyPeer {x : Nat} {p : Peer} {f : Peer → Peer} {s : State} (hf : ∀ q, (f q).id = q.id)
    (h : s.peer x = some p) : (modifyPeer x f s).peer x = some (f p) := find_map_peer hf h

/-- The state once one more notice stands in the queue. -/
def State.told (n : Notice) (s : State) : State :=
  { s with notices := { s.notices with
      queue := s.notices.queue ++ [(s.notices.seq, n)]
      seq := (s.notices.seq + 1) % 256 } }

theorem postNotice_told {n : Notice} {s : State} (h : s.notices.queue.length < 16) : postNotice n s = s.told n :=
  postNotice_room h

theorem postPeer_told {x : Nat} {p : Peer} {c : PeerChange} {s : State} (hp : s.peer x = some p)
    (h : s.notices.queue.length < 16) : postPeer x c s = s.told (.peer x c p.role p.dayNumber p.dayOpen) := by
  simp only [postPeer, hp]
  exact postNotice_told h

/-- The changes an ANNOUNCE reports, in their order. -/
def Peer.changes (a : AnnounceValues) (p : Peer) : List PeerChange :=
  (if p.role = some a.role then [] else [.role]) ++ (if p.dayOpen = some a.dayOpen then [] else [.dayState])

/-- The reports of an ANNOUNCE's changes. -/
def State.reports (x : Nat) (a : AnnounceValues) (cs : List PeerChange) (s : State) : State :=
  cs.foldl (fun s c => s.told (.peer x c (some a.role) (some a.dayNumber) (some a.dayOpen))) s

/-- A change that is reported only where condition `c` fails; the queue keeps room for the later reports. -/
theorem reportUnless {x : Nat} {a : AnnounceValues} {p : Peer} {k : PeerChange} {ks : List PeerChange} {s : State} (c : Prop)
    [Decidable c] (hp : s.peer x = some (p.announcing a))
    (h : s.notices.queue.length + ((if c then [] else [k]) ++ ks).length ≤ 16) :
    (if c then s else postPeer x k s) = s.reports x a (if c then [] else [k]) ∧
      (s.reports x a (if c then [] else [k])).peer x = some (p.announcing a) ∧
      (s.reports x a (if c then [] else [k])).notices.queue.length + ks.length ≤ 16 := by
  by_cases hc : c
  · simp only [if_pos hc] at h ⊢
    exact ⟨rfl, hp, h⟩
  · simp only [if_neg hc, List.cons_append, List.nil_append, List.length_cons] at h ⊢
    refine ⟨postPeer_told hp (by omega), hp, ?_⟩
    simp only [State.reports, List.foldl_cons, List.foldl_nil, State.told, List.length_append, List.length_cons, List.length_nil]
    omega

theorem reports_append (x : Nat) (a : AnnounceValues) (cs ds : List PeerChange) (s : State) :
    s.reports x a (cs ++ ds) = (s.reports x a cs).reports x a ds := List.foldl_append

/-- An ANNOUNCE's values are set, then its changes and its restart mark are reported. -/
theorem hearAnnounce_eq {x : Nat} {a : AnnounceValues} {p : Peer} {s : State} (hp : s.peer x = some p)
    (hroom : s.notices.queue.length + (p.changes a ++ if a.restart = true then [PeerChange.restart] else []).length ≤ 16) :
    hearAnnounce x a s = (modifyPeer x (Peer.announcing a) s).reports x a
      (p.changes a ++ if a.restart = true then [.restart] else []) := by
  have hset : (modifyPeer x (Peer.announcing a) s).peer x = some (p.announcing a) := peer_modifyPeer (fun _ => rfl) hp
  have hn : (modifyPeer x (Peer.announcing a) s).notices = s.notices := rfl
  rw [← hn] at hroom
  have hhear : hearAnnounce x a s =
      (let u := modifyPeer x (Peer.announcing a) s
       let u := if p.role = some a.role then u else postPeer x .role u
       let u := if p.dayOpen = some a.dayOpen then u else postPeer x .dayState u
       if a.restart then postPeer x .restart u else u) := by
    simp only [hearAnnounce, hp]
    rfl
  rw [hhear]
  generalize modifyPeer x (Peer.announcing a) s = u at hset hroom
  rw [Peer.changes, List.append_assoc] at hroom
  obtain ⟨hrole, hset, hroom⟩ := reportUnless _ hset hroom
  obtain ⟨hday, hset, hroom⟩ := reportUnless _ hset hroom
  obtain ⟨hrestart, -, -⟩ := reportUnless (k := .restart) (ks := []) (¬ a.restart = true) hset (by rwa [List.append_nil, ite_not])
  dsimp only
  rw [Peer.changes, reports_append, reports_append, hrole, hday]
  rwa [ite_not, ite_not] at hrestart

theorem modifyPeer_heard (x : Nat) (a : AnnounceValues) (s : State) :
    modifyPeer x (Peer.announcing a) (s.heard x) = { s.heard x with link := { (s.heard x).link with
      roster := s.link.roster.map (fun q => if q.id = x then
        { q with present := true, sinceHeard := 0, role := some a.role, dayNumber := some a.dayNumber,
                 dayOpen := some a.dayOpen, tableLoad := some a.tableLoad } else q) } } := by
  have hroster : (s.heard x).link.roster.map (fun q => if q.id = x then Peer.announcing a q else q) =
      s.link.roster.map (fun q => if q.id = x then
        { q with present := true, sinceHeard := 0, role := some a.role, dayNumber := some a.dayNumber,
                 dayOpen := some a.dayOpen, tableLoad := some a.tableLoad } else q) := by
    rw [show (s.heard x).link.roster = s.link.roster.map (fun p =>
      if p.id = x then { p with present := true, sinceHeard := 0 } else p) from rfl, List.map_map]
    refine List.map_congr_left fun q _ => ?_
    by_cases hq : q.id = x <;> simp [hq, Peer.announcing]
  rw [modifyPeer, State.onLink, hroster]

/-- The reports take the sequence numbers one after the other. -/
theorem reports_eq (x : Nat) (a : AnnounceValues) (cs : List PeerChange) (s : State) (h : s.notices.seq < 256) :
    s.reports x a cs = { s with notices := { s.notices with
      queue := s.notices.queue ++ cs.mapIdx (fun i c =>
        ((s.notices.seq + i) % 256, .peer x c (some a.role) (some a.dayNumber) (some a.dayOpen)))
      seq := (s.notices.seq + cs.length) % 256 } } := by
  induction cs generalizing s with
  | nil => simp only [State.reports, List.foldl_nil, List.mapIdx_nil, List.append_nil, List.length_nil, Nat.add_zero, Nat.mod_eq_of_lt h]
  | cons c cs ih =>
    have hnext (i : Nat) : ((s.notices.seq + 1) % 256 + i) % 256 = (s.notices.seq + (i + 1)) % 256 := by omega
    have hrest := ih (s.told (.peer x c (some a.role) (some a.dayNumber) (some a.dayOpen))) (Nat.mod_lt _ (by decide))
    have hcons : s.reports x a (c :: cs) =
        (s.told (.peer x c (some a.role) (some a.dayNumber) (some a.dayOpen))).reports x a cs := rfl
    rw [hcons, hrest]
    simp only [State.told, hnext, List.mapIdx_cons, List.append_assoc, List.cons_append, List.nil_append, List.length_cons,
      Nat.add_zero, Nat.mod_eq_of_lt h]

theorem deliver_announce {x : Nat} {a : AnnounceValues} {s : State} (h : a.restart = false) :
    deliver x (.announce a) s = hearAnnounce x a s := if_neg (by simp [h])

theorem deliver_announce_restart {x : Nat} {a : AnnounceValues} {s : State} (h : a.restart = true)
    (hw : (hearAnnounce x a s).waitId = false) : deliver x (.announce a) s = freeHolds x (hearAnnounce x a s) :=
  if_pos (by simp [h, hw])

/-- A burst that has its places beside all that is queued. -/
theorem queueBurst_room {r : Record} {s : State} (hl : s.linkHolds = false) (h : s.occupied + r.burst.length ≤ 24) :
    queueBurst r s = some (enqueue (burstItem r)
      (s.onLink (fun l => { l with queue := l.queue.filter (fun i => !i.isUnstarted r.number) }))) := by
  have hsub : (s.onLink (fun l => { l with queue := l.queue.filter (fun i => !i.isUnstarted r.number) })).occupied ≤ s.occupied := by
    simp only [State.occupied, Link.framesQueued]
    refine Nat.add_le_add (sum_le_of_sublist (List.filter_sublist.map _)) (Nat.le_of_eq rfl)
  rw [queueBurst, if_neg (by rw [hl]; decide)]
  dsimp only
  rw [if_pos (by rw [State.freePlaces, Config.queuePlaces]; omega)]
  rfl

/-- A first frame makes the entry, behind the entries of lower IDs. -/
theorem find_insertPeer {x : Nat} {l : List Peer} :
    (insertPeer (Peer.first x) l).find? (fun q => decide (q.id = x)) = some (Peer.first x) := by
  have hlow : (l.takeWhile (fun q => decide (q.id < x))).find? (fun q => decide (q.id = x)) = none := by
    rw [List.find?_eq_none]
    intro q hq he
    have := of_mem_takeWhile hq
    simp only [decide_eq_true_eq] at this he
    omega
  have hid : (Peer.first x).id = x := rfl
  rw [insertPeer, hid, List.append_assoc, List.find?_append, hlow, Option.none_or]
  exact List.find?_cons_of_pos (by exact decide_eq_true hid)

theorem map_insertPeer {x : Nat} {f : Peer → Peer} {l : List Peer} (h : ∀ q ∈ l, q.id ≠ x) :
    (insertPeer (Peer.first x) l).map (fun q => if q.id = x then f q else q) =
      l.takeWhile (fun q => decide (q.id < x)) ++ [f (Peer.first x)] ++ l.dropWhile (fun q => decide (q.id < x)) := by
  have hid {l' : List Peer} (hs : l' ⊆ l) : l'.map (fun q => if q.id = x then f q else q) = l' :=
    (List.map_congr_left fun q hq => if_neg (h q (hs hq))).trans (List.map_id _)
  rw [insertPeer, List.map_append, List.map_append, hid (List.takeWhile_subset _), hid (List.dropWhile_subset _)]
  simp only [List.map_cons, List.map_nil, show (Peer.first x).id = x from rfl, if_true]

/-- The first good frame of a peer makes its entry and is reported. -/
theorem refreshPeer_new {x : Nat} {s : State} (hp : s.peer x = none) (hl : s.link.state ≠ .alone)
    (hroom : s.notices.queue.length < 16) : refreshPeer x s =
      State.told (.peer x .present none none none) { s with link := { s.link with
        upAlone := none, roster := insertPeer (Peer.first x) s.link.roster } } := by
  have habsent : ¬ s.present x = true := by simp [State.present, hp]
  have hhear : hearPeer x s = s.onLink (fun l => { l with roster := insertPeer (Peer.first x) l.roster }) := by
    simp only [hearPeer, hp]
  rw [refreshPeer, if_neg habsent, hhear, postPeer_told (p := Peer.first x) (by exact find_insertPeer) (by exact hroom)]
  exact if_neg hl

end Sys2Proof.Machine

open Sys2Proof Sys2Proof.Machine

/-- Settles O51: the ASK by who may answer it, the ANNOUNCE by the reports of its changes and its restart mark. -/
theorem askAndAnnounceReceived : Obligations.AskAndAnnounceReceived := by
  refine ⟨fun x a s hpow h1 h15 hne hwait hnew hup hc hday hload hrestart hroom hseq => ?_, fun x s hr hc => ⟨?_, ?_⟩⟩
  · have hexec : exec (.announceReceived x (Frame.announce a).payload) s =
        .next (settle (deliver x (.announce a) (reassemble x (.announce a) (refreshPeer x (driveAck true s))))) := by
      rw [← receive_peer h1 h15 hne (by simp [Frame.inRange, hday, hload, Config.tableCapacity])]
      exact congrArg Host.Outcome.next (if_pos hpow)
    have habsent : ∀ q ∈ s.link.roster, q.id ≠ x := by simpa [State.peer] using hnew
    have hsubset : (driveAck true s) = { s with link := { s.link with ackDriven := true } } := by
      simp [driveAck, State.onLink, hup]
    rw [hsubset, refreshPeer_new (s := { s with link := { s.link with ackDriven := true } }) (by exact hnew)
      (by rw [hup]; decide) (by exact Nat.lt_of_lt_of_le hroom (by decide)), reassemble_outside (f := .announce a) (by exact hc) (fun h => nomatch h),
      deliver_announce hrestart] at hexec
    have hchanges : (Peer.first x).changes a ++ (if a.restart = true then [PeerChange.restart] else []) = [.role, .dayState] := by
      rw [hrestart]
      rfl
    rw [hearAnnounce_eq (p := Peer.first x) (by exact find_insertPeer) (by
      rw [hchanges]
      simp only [State.told, List.length_append, List.length_cons, List.length_nil]
      omega), hchanges, reports_eq _ _ _ _ (by exact Nat.mod_lt _ (by decide)), modifyPeer, State.onLink] at hexec
    have hmod (i : Nat) : ((s.notices.seq + 1) % 256 + i) % 256 = (s.notices.seq + (i + 1)) % 256 := by omega
    simp only [State.told, map_insertPeer habsent, List.mapIdx_cons, List.mapIdx_nil, List.length_cons, List.length_nil, hmod,
      List.append_assoc, List.cons_append, List.nil_append] at hexec
    simp only [List.append_assoc, List.cons_append, List.nil_append]
    exact hexec
  · intro n step r h1 h15 hs1 hs hstep hf
    have hok : ticketOk n = true := ticketOk_iff.2 ⟨h1, h15, hs1, hs⟩
    have hexec := exec_reads (f := .ask n step) hr hc (fun h => nomatch h) (by simp [Frame.inRange, hok, hstep])
    have hf' : (s.heard x).findRecord n = some r := hf
    have hid : (s.heard x).waitId = false := hr.1.2.2.2.2.1
    have hme : (s.heard x).myId = s.myId := rfl
    simp only [deliver_ask hid, answerAsk, hf', hme] at hexec
    refine ⟨fun h => ?_, fun hstale hle hw hroom => ?_⟩
    · have hno : ¬ (r.stale = false ∧ step ≤ r.step ∧ r.lastWriter = s.myId) := by
        rintro ⟨hs0, hle, hw⟩
        rcases h with h | h | h
        · rw [hs0] at h
          exact absurd h (by decide)
        · omega
        · exact h hw
      rw [if_neg hno] at hexec
      exact hexec
    · rw [if_pos ⟨hstale, hle, hw⟩, queueBurst_room (s := s.heard x) (by simp [State.linkHolds, State.heard, hr.2]) hroom] at hexec
      exact ⟨_, hexec, rfl, _, mem_placed _ _, rfl, by rw [← findRecord_number hf]; rfl, rfl⟩
  · intro a p hday hload hp t
    have hexec := exec_reads (f := .announce a) hr hc (fun h => nomatch h) (by simp [Frame.inRange, hday, hload, Config.tableCapacity])
    have hp' : (s.heard x).peer x = some { p with present := true, sinceHeard := 0 } :=
      find_map_peer (f := fun p => { p with present := true, sinceHeard := 0 }) (fun _ => rfl) hp
    have hn : (s.heard x).notices = s.notices := rfl
    have hsame (hrole : p.role = some a.role) (hopen : p.dayOpen = some a.dayOpen) :
        Peer.changes a { p with present := true, sinceHeard := 0 } = [] := by
      rw [Peer.changes, if_pos hrole, if_pos hopen]
      rfl
    have hset := modifyPeer_heard x a s
    refine ⟨fun hrole hopen hrestart => ?_, fun hrole hopen hrestart hroom => ?_, fun hrestart hroom hseq => ?_⟩
    · have hhear : hearAnnounce x a (s.heard x) = modifyPeer x (Peer.announcing a) (s.heard x) := by
        simp only [hearAnnounce, hp', hrole, hopen, hrestart, if_true, Bool.false_eq_true, if_false]
        rfl
      rw [deliver_announce hrestart, hhear, hset] at hexec
      exact hexec
    · have hone : (Peer.changes a { p with present := true, sinceHeard := 0 } ++
          if a.restart = true then [PeerChange.restart] else []) = [.restart] := by
        rw [hsame hrole hopen, hrestart]
        rfl
      have hhear := hearAnnounce_eq hp' (by rw [hone, hn]; exact hroom)
      rw [hone, hset] at hhear
      rw [deliver_announce_restart hrestart (by rw [hhear]; exact hr.1.2.2.2.2.1), hhear] at hexec
      exact hexec
    · have hplain : (Peer.changes a { p with present := true, sinceHeard := 0 } ++
          if a.restart = true then [PeerChange.restart] else []) = p.changes a := by
        rw [hrestart]
        exact List.append_nil _
      have htwo : (p.changes a).length ≤ 2 := by
        unfold Peer.changes
        split <;> split <;> decide
      have hhear := hearAnnounce_eq hp' (by rw [hplain, hn]; omega)
      rw [hplain, hset, reports_eq _ _ _ _ (by exact hseq)] at hhear
      rw [deliver_announce hrestart, hhear] at hexec
      exact hexec

end


section
/-! The feed of pending broadcasts, and the timers of the yard link. -/

namespace Sys2Proof.Machine

/-! ### The feed of pending broadcasts (R101) -/

/-- A ticket with no burst in the queue has none that an answer could take the place of. -/
theorem filter_unstarted_of_not_queued {t : TicketNo} {s : State} (h : s.burstQueued t = false) :
    s.onLink (fun l => { l with queue := l.queue.filter (fun i => !i.isUnstarted t) }) = s := by
  have hnone : ∀ i ∈ s.link.queue, i.burst ≠ some t := by simpa [State.burstQueued] using h
  have hq : s.link.queue.filter (fun i => !i.isUnstarted t) = s.link.queue :=
    List.filter_eq_self.2 fun i hi => by simp [QueueItem.isUnstarted, hnone i hi]
  rw [State.onLink, hq]

/-- The feed only adds to the queue. -/
theorem feed_adds : ∀ (l : List Record) (s : State),
    ∃ q, feed l s = { s with link := { s.link with queue := q } } ∧ s.link.queue ⊆ q
  | [], s => ⟨_, rfl, List.Subset.refl _⟩
  | r :: rest, s => by
    unfold feed
    by_cases hdue : (r.pendingBroadcast && !s.burstQueued r.number) = true
    · rw [if_pos hdue]
      cases hb : queueBurst r s with
      | none => exact ⟨_, rfl, List.Subset.refl _⟩
      | some u =>
        have hnew : s.burstQueued r.number = false := by
          simp only [Bool.and_eq_true, Bool.not_eq_true'] at hdue
          exact hdue.2
        have hu : u = enqueue (burstItem r) s := by
          unfold queueBurst at hb
          rw [filter_unstarted_of_not_queued hnew] at hb
          dsimp only at hb
          rw [Option.ite_none_left_eq_some, Option.ite_none_right_eq_some] at hb
          exact (Option.some.inj hb.2.2).symm
        obtain ⟨q, hq, hsub⟩ := feed_adds rest u
        rw [hu] at hq
        refine ⟨q, by rw [hu]; exact hq, List.Subset.trans ?_ hsub⟩
        rw [hu]
        exact fun i hi => (placed_perm _ _).mem_iff.2 (List.mem_cons_of_mem _ hi)
    · rw [if_neg hdue]
      exact feed_adds rest s

theorem feedPending_adds (s : State) :
    ∃ q, feedPending s = { s with link := { s.link with queue := q } } ∧ s.link.queue ⊆ q := by
  unfold feedPending
  split
  · exact feed_adds _ s
  · exact ⟨_, rfl, List.Subset.refl _⟩

/-- Records that are not pending are passed by. -/
theorem feed_skips {before : List Record} (h : ∀ r ∈ before, r.pendingBroadcast = false) (l : List Record) (s : State) :
    feed (before ++ l) s = feed l s := by
  induction before with
  | nil => rfl
  | cons r before ih =>
    rw [List.cons_append, feed, if_neg (by simp [h r List.mem_cons_self])]
    exact ih fun q hq => h q (List.mem_cons_of_mem _ hq)

theorem feedPending_none {s : State} (h : ∀ r ∈ s.tickets.table, r.pendingBroadcast = false) : feedPending s = s := by
  have hfeed := feed_skips h [] s
  rw [List.append_nil] at hfeed
  rw [feedPending, hfeed]
  exact ite_self _

/-- A pending record whose burst is not queued has it queued, where there is room. -/
theorem feed_queues {r : Record} {rest : List Record} {s : State} (hp : r.pendingBroadcast = true)
    (hq : s.burstQueued r.number = false) (hl : s.linkHolds = false) (hroom : s.occupied + r.burst.length ≤ 24) :
    feed (r :: rest) s = feed rest (enqueue (burstItem r) s) := by
  rw [feed, if_pos (by simp [hp, hq]), queueBurst_room hl hroom, filter_unstarted_of_not_queued hq]

/-! ### Entering UP and ALONE (R102 to R104, R106) -/

/-- The link in UP or ALONE, before the feed. -/
def State.sending (st : LinkState) (s : State) : State :=
  { s with link := { s.link with
      state := st
      undelivered := 0
      probe := none
      upAlone := if st = .up ∧ s.anyPresent = false then some Config.upAloneMs else none } }

theorem feedPending_sending (st : LinkState) (s : State) : feedPending (s.sending st) = enterSending st s := rfl

theorem sending_up (s : State) : s.sending .up = { s with link := { s.link with
    state := .up
    undelivered := 0
    probe := none
    upAlone := if s.link.roster.any (fun p => p.present) = true then none else some 3000 } } := by
  have hcount : (if LinkState.up = .up ∧ s.anyPresent = false then some Config.upAloneMs else none) =
      if s.link.roster.any (fun p => p.present) = true then none else some 3000 := by
    cases h : s.anyPresent with
    | true => exact (if_neg (fun hf => absurd hf.2 (by decide))).trans (if_pos h).symm
    | false => exact (if_pos ⟨rfl, rfl⟩).trans (if_neg (by rw [show s.link.roster.any (fun p => p.present) = false from h]; decide)).symm
  rw [State.sending, hcount]

theorem enterSending_adds (st : LinkState) (s : State) :
    ∃ q, enterSending st s = { s.sending st with link := { (s.sending st).link with queue := q } } ∧ s.link.queue ⊆ q :=
  feedPending_adds (s.sending st)

/-- An ANNOUNCE is queued where there is none and a place is empty. -/
theorem sendAnnounce_room {s : State} (h : ∀ i ∈ s.link.queue, i.frames.head?.map Frame.kind ≠ some .announce)
    (hroom : s.occupied < 24) : sendAnnounce s = enqueue (.single (.announce s.announceValues)) s := by
  have hnone : ¬ s.link.queue.any (fun i => i.kind? == some .announce) = true := by
    rw [List.any_eq_true]
    rintro ⟨i, hi, hk⟩
    exact h i hi (by simpa [QueueItem.kind?] using hk)
  rw [sendAnnounce, if_neg hnone, if_pos (freePlaces_pos_iff.2 hroom)]

/-! ### A lost burst of a ticket without a record (R97) -/

theorem markStale_unknown {t : TicketNo} {s : State} (h : s.findRecord t = none) : markStale t s = s := by
  simp only [markStale, h]

theorem loseBurst_unknown {x : Nat} {t : TicketNo} {s : State} (h : s.findRecord t = none) :
    loseBurst x t s = latchEvent .reassemblyLost (.reassembly x t) s := by
  obtain ⟨flags, notices, hu, -⟩ := latchEvent_shape .reassemblyLost (.reassembly x t) s
  have hnone : (latchEvent .reassemblyLost (.reassembly x t) s).findRecord t = none := by
    rw [hu]
    exact h
  rw [loseBurst, markStale_unknown hnone, freeTakenBy_other (by rw [hnone]; exact fun r hr => nomatch hr)]
  exact ite_self _

/-! ### The passing of time -/

theorem elapse_occupied (n : Nat) (s : State) : (elapse n s).occupied = s.occupied := by
  simp only [State.occupied, Link.framesQueued, State.closingPlaces, elapse, Link.elapse, List.map_map]
  cases s.payOp <;> rfl

theorem elapse_queue_forall {p : QueueItem → Prop} {n : Nat} {s : State}
    (h : ∀ i ∈ s.link.queue, p { i with timeout := spend n i.timeout }) : ∀ i ∈ (elapse n s).link.queue, p i := by
  intro i hi
  obtain ⟨j, hj, rfl⟩ := List.mem_map.1 hi
  exact h j hj

theorem elapse_contextOf {x : Nat} {c : Reassembly} {n : Nat} {s : State} (h : s.contextOf x = some c) :
    (elapse n s).contextOf x = some { c with timer := c.timer - n } := by
  show (s.link.contexts.map (fun c => { c with timer := c.timer - n })).find? _ = _
  rw [List.find?_map]
  exact congrArg (Option.map _) h

theorem elapse_peer {x : Nat} {p : Peer} {n : Nat} {s : State} (h : s.peer x = some p) :
    (elapse n s).peer x = some { p with sinceHeard := aged n p.sinceHeard } := by
  show (s.link.roster.map (fun p => { p with sinceHeard := aged n p.sinceHeard })).find? _ = _
  rw [List.find?_map]
  exact congrArg (Option.map _) h

theorem elapse_present (x n : Nat) (s : State) :
    (modifyPeer x (fun p => { p with present := false }) (elapse n s)).anyPresent = false ↔
      ∀ q ∈ s.link.roster, q.id ≠ x → q.present = false := by
  simp only [State.anyPresent, modifyPeer, State.onLink, elapse, Link.elapse, List.any_eq_false, List.mem_map,
    forall_exists_index, and_imp, forall_apply_eq_imp_iff₂]
  refine forall₂_congr fun q _ => ?_
  by_cases hq : q.id = x <;> simp [hq]

theorem elapse_anyPresent (n : Nat) (s : State) : (elapse n s).anyPresent = s.anyPresent := by
  simp only [State.anyPresent, elapse, Link.elapse, List.any_map]
  rfl

theorem joined_adds {s : State} (h : ∀ i ∈ s.link.queue, i.frames.head?.map Frame.kind ≠ some .announce)
    (hroom : s.occupied < 24) :
    ∃ q, joined s = { s with link := { s.link with
        state := if s.anyPresent = true then .up else .alone
        joinTimer := none
        announceTimer := some 1000
        undelivered := 0
        queue := q } } ∧ placed (.single (.announce s.announceValues)) s.link.queue ⊆ q := by
  have hjoined : joined s = feedPending (sendAnnounce { s with link := { s.link with
      state := if s.anyPresent = true then .up else .alone, joinTimer := none, announceTimer := some 1000, undelivered := 0 } }) := rfl
  rw [hjoined, sendAnnounce_room (by exact h) (by exact hroom)]
  exact feedPending_adds _

/-- The entry of a peer that becomes absent, its notice, and the link's state. -/
theorem peerAbsent_shape {x : Nat} {p : Peer} {s : State} (hp : s.peer x = some p) (hroom : s.notices.queue.length < 16) :
    ∃ l, peerAbsent x s = State.told (.peer x .absent p.role p.dayNumber p.dayOpen) { s with link := l } ∧
      l.roster = s.link.roster.map (fun q => if q.id = x then { q with present := false } else q) ∧
      l.state = if s.link.state = .up ∧ (modifyPeer x (fun p => { p with present := false }) s).anyPresent = false
        then .alone else s.link.state := by
  have htold := postPeer_told (c := .absent) (peer_modifyPeer (f := fun p => { p with present := false }) (fun _ => rfl) hp) hroom
  unfold peerAbsent
  rw [htold]
  by_cases hc : s.link.state = .up ∧ (modifyPeer x (fun p => { p with present := false }) s).anyPresent = false
  · obtain ⟨q, hq, -⟩ := enterSending_adds .alone (State.told (.peer x .absent p.role p.dayNumber p.dayOpen)
      (modifyPeer x (fun p => { p with present := false }) s))
    exact ⟨_, (if_pos hc).trans hq, rfl, (if_pos hc).symm⟩
  · exact ⟨_, if_neg hc, rfl, (if_neg hc).symm⟩

/-! ### The expiries and the probe -/

section
variable {s : State} (hpow : s.powered = true) {ms : Nat}
include hpow

theorem joinTimer_expires (h : s.link.joinTimer = some ms) : exec .joinTimerExpiry s = .next (settle (joined (elapse ms s))) := by
  have hrun : exec .joinTimerExpiry s = execJoinTimerExpiry s := rfl
  rw [hrun, execJoinTimerExpiry]
  simp only [h, powered, hpow, if_true]

theorem announceTimer_expires (h : s.link.announceTimer = some ms) : exec .announceTimerExpiry s =
    .next (settle (announceDue ((elapse ms s).onLink (fun l => { l with announceTimer := some Config.announceMs })))) := by
  have hrun : exec .announceTimerExpiry s = execAnnounceTimerExpiry s := rfl
  rw [hrun, execAnnounceTimerExpiry]
  simp only [h, powered, hpow, if_true]

theorem upAlone_expires (h : s.link.upAlone = some ms) :
    exec .upAloneTimeout s = .next (settle (enterSending .alone (elapse ms s))) := by
  have hrun : exec .upAloneTimeout s = execUpAloneTimeout s := rfl
  rw [hrun, execUpAloneTimeout]
  simp only [h, powered, hpow, if_true]

theorem presence_expires {x : Nat} {p : Peer} (h : s.peer x = some p) (hp : p.present = true) : exec (.peerPresenceTimeout x) s =
    .next (settle (peerAbsent x (elapse (Config.presenceMs - p.sinceHeard) s))) := by
  have hrun : exec (.peerPresenceTimeout x) s = execPeerPresenceTimeout x s := rfl
  rw [hrun, execPeerPresenceTimeout]
  simp only [h, hp, powered, hpow, if_true]

theorem reassembly_expires {x : Nat} {c : Reassembly} (h : s.contextOf x = some c) :
    exec (.reassemblyTimeout x) s = .next (settle (breakContext x (elapse c.timer s))) := by
  have hrun : exec (.reassemblyTimeout x) s = execReassemblyTimeout x s := rfl
  rw [hrun, execReassemblyTimeout]
  simp only [h, powered, hpow, if_true]

theorem probe_ends {a : AnnounceValues} {bits : List Bool} (h : s.link.wire = some ⟨.announce a, true, bits⟩) (ack : Bool) :
    exec (.attemptEnd ack) s = .next (settle (endProbe (.announce a) ack s)) := by
  have hrun : exec (.attemptEnd ack) s = .next (powered (endAttempt ack) s) := rfl
  rw [hrun, powered, if_pos hpow, endAttempt]
  simp only [h, if_true]

end

/-- An acknowledged probe brings DOWN to UP. -/
theorem endProbe_acknowledged {a : AnnounceValues} {s : State} (h : s.link.state = .down) :
    endProbe (.announce a) true s = enterSending .up { s with link := { s.link with
      wire := none, restartOwed := if a.restart = true then false else s.link.restartOwed } } := by
  have hstate : (announced a (s.onLink (fun l => { l with wire := none }))).link.state = .down := by
    unfold announced
    split <;> exact h
  have hend : endProbe (.announce a) true s = acknowledgedFrame (announced a (s.onLink (fun l => { l with wire := none }))) :=
    if_pos (by simp [h])
  rw [hend, acknowledgedFrame, hstate]
  unfold announced
  cases a.restart <;> rfl

end Sys2Proof.Machine

open Sys2Proof Sys2Proof.Machine

/-- Settles O52: each timer's event, then the feed, which only adds bursts to the queue. -/
theorem linkTimers : Obligations.LinkTimers := by
  intro s hpow
  have hrun (f : State → State) : powered f s = settle (f s) := if_pos hpow
  refine ⟨fun ms hms hroom hnone => ?_, fun ms hms hdown => ?_, fun a hwire hdown hprobe => ?_, fun a bits hwire hdown => ?_,
    fun ms hms hup hroom hnone => ?_, fun x p hp hpresent hroom => ?_, fun ms hms => ?_, fun x c hc hf => ?_⟩
  · obtain ⟨q, hq, hsub⟩ := joined_adds (s := elapse ms s) (elapse_queue_forall hnone)
      (Nat.lt_of_le_of_lt (Nat.le_of_eq (elapse_occupied ms s)) hroom)
    rw [joinTimer_expires hpow hms, hq, elapse_anyPresent]
    exact ⟨_, rfl, rfl, rfl, rfl, rfl, ⟨_, hsub (mem_placed _ _), rfl⟩, rfl, rfl, rfl⟩
  · rw [announceTimer_expires hpow hms, announceDue]
    simp only [State.onLink, show (elapse ms s).link.state = .down from hdown]
    rfl
  · have hstart : startFrame s = s.onLink (fun l => { l with
        probe := none
        wire := some { frame := .announce a, probe := true, bits := frameBits s.myId (.announce a) } }) := by
      unfold startFrame
      simp only [hwire, hdown, hprobe]
    show Host.Outcome.next (powered startFrame s) = _
    rw [hrun, hstart]
    rfl
  · refine ⟨?_, ?_, fun hno => ?_, fun before r after htable hbefore hr hidle hroom => ?_⟩
    · rw [probe_ends hpow hwire]
      rfl
    · show Host.Outcome.next (powered loseArbitration s) = _
      rw [hrun, loseArbitration]
      simp only [hwire, if_true]
      rfl
    · rw [probe_ends hpow hwire, endProbe_acknowledged hdown, ← feedPending_sending, feedPending_none (by exact hno), sending_up]
    · rw [probe_ends hpow hwire, endProbe_acknowledged hdown, ← feedPending_sending]
      obtain ⟨u, hu⟩ : ∃ u : State, u = State.sending .up { s with link := { s.link with
        wire := none, restartOwed := if a.restart = true then false else s.link.restartOwed } } := ⟨_, rfl⟩
      have hup : u.link.state = .up := by rw [hu]; rfl
      have hqueue : u.link.queue = s.link.queue := by rw [hu]; rfl
      have htickets : u.tickets = s.tickets := by rw [hu]; rfl
      have hzero : u.link.undelivered = 0 := by rw [hu]; rfl
      have hfed : feedPending u = feed after (enqueue (burstItem r) u) := by
        rw [feedPending, if_pos (.inl hup), htickets, htable, feed_skips hbefore,
          feed_queues hr (by simpa [State.burstQueued, hqueue] using hidle) (by simp [State.linkHolds, hup])
            (by rw [hu]; exact hroom)]
      obtain ⟨q, hq, hsub⟩ := feed_adds after (enqueue (burstItem r) u)
      rw [← hu, hfed, hq]
      refine ⟨_, rfl, hup, hzero, ⟨_, hsub (mem_placed _ _), rfl, rfl, rfl⟩, fun i hi _ => hsub ?_, htickets⟩
      exact (placed_perm _ _).mem_iff.2 (List.mem_cons_of_mem _ (hqueue ▸ hi))
  · rw [announceTimer_expires hpow hms, announceDue]
    simp only [State.onLink, show (elapse ms s).link.state = .up from hup]
    rw [sendAnnounce_room (by exact elapse_queue_forall hnone) (by exact Nat.lt_of_le_of_lt (Nat.le_of_eq (elapse_occupied ms s)) hroom)]
    refine ⟨_, rfl, rfl, ⟨_, mem_placed _ _, rfl⟩, ?_, rfl⟩
    exact (placed_perm _ _).length_eq.trans (congrArg (· + 1) (List.length_map ..))
  · obtain ⟨l, hl, hroster, hstate⟩ := peerAbsent_shape (elapse_peer (n := Config.presenceMs - p.sinceHeard) hp) hroom
    rw [presence_expires hpow hp hpresent, hl]
    refine ⟨_, rfl, ?_, ?_, rfl, rfl, rfl⟩
    · have hfind := (congrArg (List.find? (fun q => decide (q.id = x))) hroster).trans
        (find_map_peer (f := fun q => { q with present := false }) (fun _ => rfl) (elapse_peer hp))
      rw [State.present, State.peer, show (State.told _ _).link.roster = l.roster from rfl, hfind]
    · rw [show (State.told _ _).link.state = l.state from rfl, hstate]
      simp only [elapse_present]
      rfl
  · rw [upAlone_expires hpow hms]
    obtain ⟨q, hq, -⟩ := enterSending_adds .alone (elapse ms s)
    rw [hq]
    exact ⟨_, rfl, rfl, rfl, rfl, rfl⟩
  · rw [reassembly_expires hpow hc, breakContext, elapse_contextOf hc]
    exact congrArg (fun u => Host.Outcome.next (settle u)) (loseBurst_unknown (by exact hf))

end


section
/-! Frames that leave the queue undelivered: what their removal means to their requesters, one after the other, on entry to DOWN
and to SILENT. -/

namespace Sys2Proof.Machine

/-! ### The removal of queued frames (R95, R106, R108, R118) -/

/-- Every record of the ticket is FREE. -/
def State.freedIn (n : TicketNo) (s : State) : Prop := ∀ r ∈ s.tickets.table, r.number = n → r.custody = .free

/-- Every record of the ticket that this station wrote last is pending broadcast. -/
def State.markedIn (n : TicketNo) (s : State) : Prop :=
  ∀ r ∈ s.tickets.table, r.number = n → r.lastWriter = s.myId → r.pendingBroadcast = true

/-- How many of the slots work. -/
def State.slotsBusy (s : State) : Nat := s.payOp.isSome.toNat + s.weigh.isSome.toNat

/-- A record is another's, or was so before a mark and its custody's end. -/
structure Record.Follows (q r : Record) : Prop where
  number : r.number = q.number
  lastWriter : r.lastWriter = q.lastWriter
  pending : q.pendingBroadcast = true → r.pendingBroadcast = true
  custody : r.custody = q.custody ∨ r.custody = .free

theorem Record.Follows.refl (r : Record) : r.Follows r := ⟨rfl, rfl, id, .inl rfl⟩

theorem Record.Follows.trans {a b c : Record} (h : a.Follows b) (h' : b.Follows c) : a.Follows c where
  number := h'.number.trans h.number
  lastWriter := h'.lastWriter.trans h.lastWriter
  pending := h'.pending ∘ h.pending
  custody := h'.custody.elim (fun e => h.custody.imp e.trans e.trans) .inr

/-- The pay slot's operation has ended TIMEOUT between `s` and `t`, with a notice where the queue has room. -/
structure PayTimedOut (k : Nat) (o : PayOp) (s t : State) : Prop where
  op : t.payOp = none
  timer : t.payTimer.phase = .ended
  jobs : t.printer.jobs = s.printer.jobs.filter (fun j => decide (some j.number ≠ o.placeholder))
  freed : t.freedIn o.target
  told : s.notices.queue.length + s.slotsBusy + k ≤ 16 →
    ∃ q, (q, Notice.done .pay .timeout (some o.target) none 0 0) ∈ t.notices.queue

/-- The weigh slot's operation on a ticket has ended TIMEOUT between `s` and `t`. -/
structure WeighTimedOut (k : Nat) (n : TicketNo) (s t : State) : Prop where
  op : t.weigh = none
  timer : t.weighTimer.phase = .ended
  freed : t.freedIn n
  told : s.notices.queue.length + s.slotsBusy + k ≤ 16 →
    ∃ q, (q, Notice.done .weigh .timeout (some n) none 0 0) ∈ t.notices.queue

/-- What removals do outside the link: operations end TIMEOUT, their records are freed, others are marked pending; `k` notices
may come beside those of the operations that end. -/
structure Removes (k : Nat) (s t : State) : Prop where
  identity : t.identity = s.identity
  day : t.day = s.day
  drawer : t.drawer = s.drawer
  pricing : t.pricing = s.pricing
  settings : t.settings = s.settings
  register : t.tickets.register = s.tickets.register
  closed : t.tickets.closed = s.tickets.closed
  latched : ∀ f, s.latched f = true → t.latched f = true
  queue : s.notices.queue <+: t.notices.queue
  room : t.notices.queue.length + t.slotsBusy ≤ s.notices.queue.length + s.slotsBusy + k
  records : ∀ r ∈ t.tickets.table, ∃ q ∈ s.tickets.table, q.Follows r
  pay : (t.payOp = s.payOp ∧ t.payTimer = s.payTimer ∧ t.printer.jobs = s.printer.jobs) ∨ ∃ o, s.payOp = some o ∧ PayTimedOut k o s t
  weigh : (t.weigh = s.weigh ∧ t.weighTimer = s.weighTimer) ∨ ∃ o n, s.weigh = some o ∧ o.target = some n ∧ WeighTimedOut k n s t

theorem Removes.refl (s : State) : Removes 0 s s where
  identity := rfl
  day := rfl
  drawer := rfl
  pricing := rfl
  settings := rfl
  register := rfl
  closed := rfl
  latched _ := id
  queue := List.prefix_refl _
  room := Nat.le_refl _
  records r hr := ⟨r, hr, .refl r⟩
  pay := .inl ⟨rfl, rfl, rfl⟩
  weigh := .inl ⟨rfl, rfl⟩

theorem Removes.freedIn {k : Nat} {n : TicketNo} {s t : State} (h : Removes k s t) (hf : s.freedIn n) : t.freedIn n := by
  intro r hr hn
  obtain ⟨q, hq, hfollows⟩ := h.records r hr
  rcases hfollows.custody with hc | hc
  · exact hc.trans (hf q hq (hfollows.number.symm.trans hn))
  · exact hc

theorem Removes.markedIn {k : Nat} {n : TicketNo} {s t : State} (h : Removes k s t) (hm : s.markedIn n) : t.markedIn n := by
  intro r hr hn hw
  obtain ⟨q, hq, hfollows⟩ := h.records r hr
  refine hfollows.pending (hm q hq (hfollows.number.symm.trans hn) (hfollows.lastWriter.symm.trans (hw.trans ?_)))
  rw [State.myId, State.myId, h.identity]

theorem Removes.trans {j k : Nat} {s t u : State} (h : Removes j s t) (h' : Removes k t u) : Removes (j + k) s u where
  identity := h'.identity.trans h.identity
  day := h'.day.trans h.day
  drawer := h'.drawer.trans h.drawer
  pricing := h'.pricing.trans h.pricing
  settings := h'.settings.trans h.settings
  register := h'.register.trans h.register
  closed := h'.closed.trans h.closed
  latched f hf := h'.latched f (h.latched f hf)
  queue := h.queue.trans h'.queue
  room := by have := h.room; have := h'.room; omega
  records r hr := by
    obtain ⟨q, hq, hr⟩ := h'.records r hr
    obtain ⟨p, hp, hq⟩ := h.records q hq
    exact ⟨p, hp, hq.trans hr⟩
  pay := by
    have hroom := h.room
    rcases h.pay with ⟨hop, htimer, hjobs⟩ | ⟨o, ho, he⟩
    · refine h'.pay.imp (fun ⟨hop', htimer', hjobs'⟩ => ⟨hop'.trans hop, htimer'.trans htimer, hjobs'.trans hjobs⟩)
        fun ⟨o, ho, he⟩ => ⟨o, hop.symm.trans ho, he.op, he.timer, by rw [he.jobs, hjobs], he.freed, fun _ => he.told (by omega)⟩
    · rcases h'.pay with ⟨hop', htimer', hjobs'⟩ | ⟨o', ho', -⟩
      · exact .inr ⟨o, ho, hop'.trans he.op, htimer' ▸ he.timer, hjobs'.trans he.jobs, h'.freedIn he.freed,
          fun _ => (he.told (by omega)).imp fun _ hq => h'.queue.subset hq⟩
      · exact absurd (he.op.symm.trans ho') (by simp)
  weigh := by
    have hroom := h.room
    rcases h.weigh with ⟨hop, htimer⟩ | ⟨o, n, ho, hn, he⟩
    · refine h'.weigh.imp (fun ⟨hop', htimer'⟩ => ⟨hop'.trans hop, htimer'.trans htimer⟩)
        fun ⟨o, n, ho, hn, he⟩ => ⟨o, n, hop.symm.trans ho, hn, he.op, he.timer, he.freed, fun _ => he.told (by omega)⟩
    · rcases h'.weigh with ⟨hop', htimer'⟩ | ⟨o', n', ho', -⟩
      · exact .inr ⟨o, n, ho, hn, hop'.trans he.op, htimer' ▸ he.timer, h'.freedIn he.freed,
          fun _ => (he.told (by omega)).imp fun _ hq => h'.queue.subset hq⟩
      · exact absurd (he.op.symm.trans ho') (by simp)

theorem Removes.pay_none {k : Nat} {s t : State} (h : Removes k s t) (hs : s.payOp = none) : t.payOp = none := by
  rcases h.pay with ⟨hop, -⟩ | ⟨o, ho, -⟩
  · exact hop.trans hs
  · exact absurd (hs.symm.trans ho) (by simp)

theorem Removes.weigh_none {k : Nat} {s t : State} (h : Removes k s t) (hs : s.weigh = none) : t.weigh = none := by
  rcases h.weigh with ⟨hop, -⟩ | ⟨o, n, ho, -⟩
  · exact hop.trans hs
  · exact absurd (hs.symm.trans ho) (by simp)

/-! ### The removal of one item -/

theorem Posts.removes {k : Nat} {s t : State} (h : Posts k s t) : Removes k s t where
  identity := by rw [h.shape]
  day := by rw [h.shape]
  drawer := by rw [h.shape]
  pricing := by rw [h.shape]
  settings := by rw [h.shape]
  register := by rw [h.shape]
  closed := by rw [h.shape]
  latched := h.latched
  queue := h.queue
  room := by
    have hlength := h.length
    have hbusy : t.slotsBusy = s.slotsBusy := by rw [h.shape]; rfl
    omega
  records r hr := ⟨r, by rw [h.shape] at hr; exact hr, .refl r⟩
  pay := .inl ⟨by rw [h.shape], by rw [h.shape], by rw [h.shape]⟩
  weigh := .inl ⟨by rw [h.shape], by rw [h.shape]⟩

/-- The link has no part in it. -/
theorem removes_onLink (f : Link → Link) (s : State) : Removes 0 s (s.onLink f) :=
  { Removes.refl s with
    pay := .inl ⟨rfl, rfl, rfl⟩
    weigh := .inl ⟨rfl, rfl⟩ }

theorem markPending_eq (n : TicketNo) (s : State) : markPending n s = { s with tickets := { s.tickets with
    table := s.tickets.table.map (fun r =>
      if r.number = n ∧ r.lastWriter = s.myId then { r with pendingBroadcast := true } else r) } } := by
  simp only [markPending, modifyRecord, State.onTickets, ite_and_split]

theorem markPending_removes (n : TicketNo) (s : State) : Removes 0 s (markPending n s) := by
  rw [markPending_eq]
  refine { Removes.refl s with records := fun r hr => ?_, pay := .inl ⟨rfl, rfl, rfl⟩, weigh := .inl ⟨rfl, rfl⟩ }
  obtain ⟨q, hq, rfl⟩ := List.mem_map.1 hr
  refine ⟨q, hq, ?_⟩
  split
  · exact ⟨rfl, rfl, fun _ => rfl, .inl rfl⟩
  · exact .refl q

theorem markPending_markedIn (n : TicketNo) (s : State) : (markPending n s).markedIn n := by
  rw [markPending_eq]
  intro r hr hn hw
  obtain ⟨q, -, rfl⟩ := List.mem_map.1 hr
  by_cases hq : q.number = n ∧ q.lastWriter = s.myId
  · rw [if_pos hq]
  · rw [if_neg hq] at hn hw
    exact absurd ⟨hn, hw⟩ hq

/-- Custody set FREE changes no register entry and no closed list, and leaves records with their marks. -/
theorem setCustody_free_follows (n : TicketNo) (s : State) :
    (setCustody n .free s).tickets.register = s.tickets.register ∧ (setCustody n .free s).tickets.closed = s.tickets.closed ∧
      ∀ r ∈ (setCustody n .free s).tickets.table, ∃ q ∈ s.tickets.table, q.Follows r := by
  have hset : ∀ r ∈ (modifyRecord n (fun r => { r with custody := .free }) s).tickets.table, ∃ q ∈ s.tickets.table, q.Follows r := by
    intro r hr
    obtain ⟨q, hq, rfl⟩ := List.mem_map.1 hr
    refine ⟨q, hq, ?_⟩
    by_cases hn : q.number = n
    · rw [if_pos hn]
      exact ⟨rfl, rfl, id, .inr rfl⟩
    · rw [if_neg hn]
      exact .refl q
  unfold setCustody
  split
  · exact ⟨rfl, rfl, fun r hr => ⟨r, hr, .refl r⟩⟩
  · dsimp only
    split
    · unfold applyFilter
      split
      · split
        · exact ⟨rfl, rfl, hset⟩
        · exact ⟨rfl, rfl, fun r hr => hset r (List.mem_filter.1 hr).1⟩
      · exact ⟨rfl, rfl, hset⟩
    · exact ⟨rfl, rfl, hset⟩

theorem claimDropped_pay {o : PayOp} {s : State} (hp : s.payOp = some o) :
    claimDropped .pay s = endOp .pay .timeout none 0 (setCustody o.target .free s) := by
  have hslot : s.slotTicket .pay = some o.target := by rw [State.slotTicket, hp]; rfl
  rw [claimDropped, hslot]

theorem claimDropped_weigh {o : WeighOp} {n : TicketNo} {s : State} (hw : s.weigh = some o) (hn : o.target = some n) :
    claimDropped .weigh s = endOp .weigh .timeout none 0 (setCustody n .free s) := by
  have hslot : s.slotTicket .weigh = some n := by rw [State.slotTicket, hw]; exact hn
  rw [claimDropped, hslot]

theorem claimDropped_none {slot : SlotId} {s : State} (h : s.slotTicket slot = none) : claimDropped slot s = s := by
  rw [claimDropped, h]

theorem setCustody_free_removes (n : TicketNo) (s : State) : Removes 0 s (setCustody n .free s) := by
  obtain ⟨hregister, hclosed, hrecords⟩ := setCustody_free_follows n s
  rw [setCustody_shape]
  exact { Removes.refl s with
    register := hregister
    closed := hclosed
    records := hrecords
    pay := .inl ⟨rfl, rfl, rfl⟩
    weigh := .inl ⟨rfl, rfl⟩ }

theorem endOp_timeout_pay {o : PayOp} {s : State} (hp : s.payOp = some o) (hf : s.freedIn o.target) :
    Removes 0 s (endOp .pay .timeout none 0 s) := by
  obtain ⟨u, hu⟩ : ∃ u : State, u = { s with
    payOp := none
    payTimer := { s.payTimer with phase := .ended, count := none }
    printer := s.printer.withoutJob o.placeholder } := ⟨_, rfl⟩
  have hbusy : s.slotsBusy = u.slotsBusy + 1 := by
    simp only [State.slotsBusy, hu, hp, Option.isSome_some, Option.isSome_none, Bool.toNat_true, Bool.toNat_false]
    omega
  have hn : u.notices = s.notices := by rw [hu]
  have hposts := postNotice_posts (.done .pay .timeout (some o.target) none 0 0) u
  rw [endOp_pay hp, ← hu]
  have hsame : (postNotice (.done .pay .timeout (some o.target) none 0 0) u).slotsBusy = u.slotsBusy := by rw [hposts.shape]; rfl
  have hlength := hposts.length
  rw [hn] at hlength
  exact {
    identity := by rw [hposts.shape, hu]
    day := by rw [hposts.shape, hu]
    drawer := by rw [hposts.shape, hu]
    pricing := by rw [hposts.shape, hu]
    settings := by rw [hposts.shape, hu]
    register := by rw [hposts.shape, hu]
    closed := by rw [hposts.shape, hu]
    latched := fun f hf => hposts.latched f (by rw [hu]; exact hf)
    queue := hn ▸ hposts.queue
    room := by omega
    records := fun r hr => ⟨r, by rw [hposts.shape, hu] at hr; exact hr, .refl r⟩
    pay := .inr ⟨o, hp, by rw [hposts.shape, hu], by rw [hposts.shape, hu], by rw [hposts.shape, hu, Printer.withoutJob_eq],
      fun r hr => hf r (by rw [hposts.shape, hu] at hr; exact hr), fun _ => ⟨_, mem_postNotice (by rw [hn]; omega)⟩⟩
    weigh := .inl ⟨by rw [hposts.shape, hu], by rw [hposts.shape, hu]⟩ }

theorem endOp_timeout_weigh {o : WeighOp} {n : TicketNo} {s : State} (hw : s.weigh = some o) (ht : o.target = some n)
    (hf : s.freedIn n) : Removes 0 s (endOp .weigh .timeout none 0 s) := by
  obtain ⟨u, hu⟩ : ∃ u : State, u = { s with
    weigh := none
    scale := { s.scale with context := none }
    weighTimer := { s.weighTimer with phase := .ended, count := none } } := ⟨_, rfl⟩
  have hbusy : s.slotsBusy = u.slotsBusy + 1 := by
    simp only [State.slotsBusy, hu, hw, Option.isSome_some, Option.isSome_none, Bool.toNat_true, Bool.toNat_false]
  have hn : u.notices = s.notices := by rw [hu]
  have hposts := postNotice_posts (.done .weigh .timeout (some n) none 0 0) u
  rw [endOp_weigh hw ht, ← hu]
  have hsame : (postNotice (.done .weigh .timeout (some n) none 0 0) u).slotsBusy = u.slotsBusy := by rw [hposts.shape]; rfl
  have hlength := hposts.length
  rw [hn] at hlength
  exact {
    identity := by rw [hposts.shape, hu]
    day := by rw [hposts.shape, hu]
    drawer := by rw [hposts.shape, hu]
    pricing := by rw [hposts.shape, hu]
    settings := by rw [hposts.shape, hu]
    register := by rw [hposts.shape, hu]
    closed := by rw [hposts.shape, hu]
    latched := fun f hf => hposts.latched f (by rw [hu]; exact hf)
    queue := hn ▸ hposts.queue
    room := by omega
    records := fun r hr => ⟨r, by rw [hposts.shape, hu] at hr; exact hr, .refl r⟩
    pay := .inl ⟨by rw [hposts.shape, hu], by rw [hposts.shape, hu], by rw [hposts.shape, hu]⟩
    weigh := .inr ⟨o, n, hw, ht, by rw [hposts.shape, hu], by rw [hposts.shape, hu],
      fun r hr => hf r (by rw [hposts.shape, hu] at hr; exact hr), fun _ => ⟨_, mem_postNotice (by rw [hn]; omega)⟩⟩ }

/-- A dropped CLAIM ends the operation it was queued for, if the slot still works for a ticket. -/
theorem claimDropped_removes (slot : SlotId) (s : State) : Removes 0 s (claimDropped slot s) := by
  cases slot with
  | pay =>
    cases hp : s.payOp with
    | none =>
      rw [claimDropped_none (by rw [State.slotTicket, hp]; rfl)]
      exact .refl s
    | some o =>
      rw [claimDropped_pay hp]
      exact (setCustody_free_removes o.target s).trans
        (endOp_timeout_pay (by rw [setCustody_shape]; exact hp) (setCustody_free_table o.target s).1)
  | weigh =>
    cases hn : s.weigh.bind WeighOp.target with
    | none =>
      rw [claimDropped_none (by exact hn)]
      exact .refl s
    | some n =>
      obtain ⟨o, hw, ht⟩ := Option.bind_eq_some_iff.1 hn
      rw [claimDropped_weigh hw ht]
      exact (setCustody_free_removes n s).trans
        (endOp_timeout_weigh (by rw [setCustody_shape]; exact hw) ht (setCustody_free_table n s).1)

theorem removed_removes (i : QueueItem) (s : State) : Removes 0 s (removed i s) := by
  unfold removed
  split
  · exact claimDropped_removes _ s
  · exact markPending_removes _ s
  · exact .refl s

/-! ### What is left of an item that was removed -/

/-- No slot works for the item's CLAIM, and the record of its burst waits for its broadcast. -/
structure State.DisposedOf (i : QueueItem) (s : State) : Prop where
  burst : ∀ n, i.slot = none → i.burst = some n → s.markedIn n
  pay : i.slot = some .pay → s.payOp = none
  weigh : i.slot = some .weigh → ∀ o ∈ s.weigh, o.target = none

theorem claimDropped_pay_op (s : State) : (claimDropped .pay s).payOp = none := by
  cases hp : s.payOp with
  | none => rw [claimDropped_none (by rw [State.slotTicket, hp]; rfl), hp]
  | some o => rw [claimDropped_pay hp, endOp_pay (o := o) (by rw [setCustody_shape]; exact hp), (postNotice_posts _ _).shape]

theorem claimDropped_weigh_op (s : State) : ∀ o ∈ (claimDropped .weigh s).weigh, o.target = none := by
  intro o ho
  cases hn : s.weigh.bind WeighOp.target with
  | none =>
    rw [claimDropped_none (by exact hn)] at ho
    rw [Option.mem_def.1 ho] at hn
    exact hn
  | some n =>
    obtain ⟨p, hw, ht⟩ := Option.bind_eq_some_iff.1 hn
    rw [claimDropped_weigh hw ht, endOp_weigh (o := p) (by rw [setCustody_shape]; exact hw) ht, (postNotice_posts _ _).shape] at ho
    cases ho

theorem removed_disposes (i : QueueItem) (s : State) : (removed i s).DisposedOf i := by
  refine ⟨fun n hs hb => ?_, fun hs => ?_, fun hs => ?_⟩ <;> simp only [removed, hs]
  · rw [hb]
    exact markPending_markedIn n s
  · exact claimDropped_pay_op s
  · exact claimDropped_weigh_op s

theorem Removes.disposedOf {k : Nat} {i : QueueItem} {s t : State} (h : Removes k s t) (hs : s.DisposedOf i) : t.DisposedOf i where
  burst n hslot hb := h.markedIn (hs.burst n hslot hb)
  pay hslot := h.pay_none (hs.pay hslot)
  weigh hslot o ho := by
    rcases h.weigh with ⟨hw, -⟩ | ⟨_, _, -, -, he⟩
    · exact hs.weigh hslot o (hw ▸ ho)
    · rw [he.op] at ho
      cases ho

theorem removed_link (i : QueueItem) (s : State) : (removed i s).link = s.link := by
  have hdropped (slot : SlotId) : (claimDropped slot s).link = s.link := by
    unfold claimDropped
    split <;> simp
  unfold removed
  split
  · exact hdropped _
  · simp
  · rfl

/-- The items removed one after the other. -/
def removeAll (l : List QueueItem) (s : State) : State := l.foldl (fun s i => removed i s) s

theorem removeAll_removes : ∀ (l : List QueueItem) (s : State),
    Removes 0 s (removeAll l s) ∧ (removeAll l s).link = s.link ∧ ∀ i ∈ l, (removeAll l s).DisposedOf i
  | [], s => ⟨.refl s, rfl, fun _ hi => nomatch hi⟩
  | i :: l, s => by
    obtain ⟨hremoves, hlink, hgone⟩ := removeAll_removes l (removed i s)
    refine ⟨(removed_removes i s).trans hremoves, hlink.trans (removed_link i s), fun j hj => ?_⟩
    rcases List.mem_cons.1 hj with rfl | hj
    · exact hremoves.disposedOf (removed_disposes j s)
    · exact hgone j hj

end Sys2Proof.Machine

open Sys2Proof Sys2Proof.Machine

end


section
/-! The entries to DOWN and to SILENT, and damaged frames. -/

namespace Sys2Proof.Machine

/-! ### The queue is sorted (R106, R108) -/

theorem isHeld_eq (i : QueueItem) : i.isHeld = (decide (i.frames.head?.map Frame.kind = some .release) ||
    decide (i.frames.head?.map Frame.kind = some .closed)) := by
  rw [QueueItem.isHeld, QueueItem.kind?]
  cases i.frames.head? with
  | none => rfl
  | some f => cases f <;> rfl

theorem isHeld_false_of_claim {i : QueueItem} (h : i.frames.head?.map Frame.kind = some .claim) : i.isHeld = false := by
  rw [isHeld_eq, h]
  rfl

theorem sortQueue_removes (s : State) : Removes 0 s (sortQueue s) ∧
    (sortQueue s).link = { s.link with queue := (s.link.queue.filter QueueItem.isHeld).map QueueItem.held } ∧
    ∀ i ∈ s.link.queue, i.isHeld = false → (sortQueue s).DisposedOf i := by
  obtain ⟨hremoves, hlink, hgone⟩ := removeAll_removes (s.link.queue.filter (fun i => !i.isHeld))
    (s.onLink (fun l => { l with queue := (l.queue.filter QueueItem.isHeld).map QueueItem.held }))
  exact ⟨(removes_onLink _ s).trans hremoves, hlink, fun i hi hh => hgone i (List.mem_filter.2 ⟨hi, by simp [hh]⟩)⟩

/-- The link in DOWN before LINK DOWN is judged. -/
def State.downed (s : State) : State :=
  s.onLink (fun l => { l with state := .down, undelivered := 0, upAlone := none, probe := none })

theorem enterDown_removes (s : State) : Removes 1 s (enterDown s) ∧
    (enterDown s).link = { s.link with
      state := .down, undelivered := 0, upAlone := none, probe := none
      queue := (s.link.queue.filter QueueItem.isHeld).map QueueItem.held } ∧
    (enterDown s).latched .linkDown = true ∧
    (judge .linkDown s.downed).notices.queue <+: (enterDown s).notices.queue ∧
    ∀ i ∈ s.link.queue, i.isHeld = false → (enterDown s).DisposedOf i := by
  have hposts := judge_posts .linkDown s.downed
  have hlink : (judge .linkDown s.downed).link = s.downed.link := by rw [hposts.shape]
  have hlatched : (judge .linkDown s.downed).latched .linkDown = true := by
    rw [judge_holds (by rfl), latched_latchCondition (by decide)]
    simp
  obtain ⟨hremoves, hsorted, hgone⟩ := sortQueue_removes (judge .linkDown s.downed)
  rw [hlink] at hsorted hgone
  exact ⟨((removes_onLink _ s).trans hposts.removes).trans hremoves, hsorted, hremoves.latched _ hlatched, hremoves.queue, hgone⟩

/-- The link in SILENT before ID CONFLICT is latched. -/
def State.silenced (s : State) : State :=
  s.onLink (fun l => { l with
    state := .silent, joinTimer := none, announceTimer := none, upAlone := none, wire := none, probe := none
    queue := l.queue.map (fun i => { i with onWire := false }) })

theorem enterSilent_removes (how : IdConflictHow) (s : State) : Removes 1 s (enterSilent how s) ∧
    (enterSilent how s).link = { s.silenced.link with
      queue := (s.silenced.link.queue.filter QueueItem.isHeld).map QueueItem.held } ∧
    (enterSilent how s).latched .idConflict = true ∧
    ∀ i ∈ s.link.queue, i.isHeld = false → (enterSilent how s).DisposedOf i := by
  have hposts := latchCondition_posts .idConflict (.idConflict how) s.silenced
  have hlink : (latchCondition .idConflict (.idConflict how) s.silenced).link = s.silenced.link := by rw [hposts.shape]
  have hlatched : (latchCondition .idConflict (.idConflict how) s.silenced).latched .idConflict = true := by
    rw [latched_latchCondition (by decide)]
    simp
  obtain ⟨hremoves, hsorted, hgone⟩ := sortQueue_removes (latchCondition .idConflict (.idConflict how) s.silenced)
  rw [hlink] at hsorted hgone
  refine ⟨((removes_onLink _ s).trans hposts.removes).trans hremoves, hsorted, hremoves.latched _ hlatched, fun i hi hh => ?_⟩
  obtain ⟨hburst, hpay, hweigh⟩ := hgone { i with onWire := false } (List.mem_map_of_mem hi) hh
  exact ⟨hburst, hpay, hweigh⟩

/-- The frames that are left in SILENT. -/
theorem silenced_frames (s : State) :
    ((s.silenced.link.queue.filter QueueItem.isHeld).map QueueItem.held).map QueueItem.frames =
      (s.link.queue.filter (fun i => decide (i.frames.head?.map Frame.kind = some .release) ||
        decide (i.frames.head?.map Frame.kind = some .closed))).map QueueItem.frames := by
  have hheld : QueueItem.isHeld ∘ (fun i : QueueItem => { i with onWire := false }) = fun i =>
      decide (i.frames.head?.map Frame.kind = some .release) || decide (i.frames.head?.map Frame.kind = some .closed) :=
    funext fun i => isHeld_eq { i with onWire := false }
  rw [State.silenced, State.onLink, List.filter_map, hheld, List.map_map, List.map_map]
  rfl

end Sys2Proof.Machine

open Sys2Proof Sys2Proof.Machine

/-- Settles O46: SILENT by the sorting of its queue, the damaged frames by what is done before their contents are judged. -/
theorem idConflictAndDamagedFrames : Obligations.IdConflictAndDamagedFrames := by
  intro s hpow silenced
  have hrun (f : State → State) : powered f s = settle (f s) := if_pos hpow
  have hsilent {c : Instr} {how : IdConflictHow} (ack : Bool) (h : exec c s = .next (settle (enterSilent how
      { s with link := { s.link with ackDriven := ack } }))) : silenced c := by
    obtain ⟨hremoves, hlink, hlatched, hgone⟩ := enterSilent_removes how { s with link := { s.link with ackDriven := ack } }
    refine ⟨_, h, by rw [hlink]; rfl, by rw [hlink]; rfl, by rw [hlink]; rfl, by rw [hlink]; rfl, hlatched,
      by rw [hlink]; exact silenced_frames _, fun i hi hslot hclaim => (hgone i hi (isHeld_false_of_claim hclaim)).pay hslot,
      fun i hi o hslot hclaim ho hn => ?_, fun i hi n hburst hslot hr hc r hmem hnum hw => ?_, by rw [hlink]; rfl, by rw [hlink]; rfl,
      hremoves.register, hremoves.closed, hremoves.day, hremoves.drawer⟩
    · have hnone := (hgone i hi (isHeld_false_of_claim hclaim)).weigh hslot
      rcases hremoves.weigh with ⟨hkept, -⟩ | ⟨_, _, -, -, he⟩
      · exact absurd (hnone o (hkept.trans ho)) hn
      · exact he.op
    · refine (hgone i hi (by rw [isHeld_eq, hr, hc]; rfl)).burst n hslot hburst r hmem hnum (hw.trans ?_)
      rw [State.myId, State.myId, hremoves.identity]
  refine ⟨fun hwire => ?_, fun f hf h1 h15 => ?_, fun hwire => ?_, ?_, fun x hr hc => ?_, fun hup => ?_⟩
  · refine hsilent (how := .bit) s.link.ackDriven ?_
    show Host.Outcome.next (powered _ s) = _
    rw [hrun, if_pos (Option.isSome_iff_ne_none.2 hwire)]
  · have hexec : exec (f.received s.myId) s = .next (settle (enterSilent
        (if f.kind = .announce ∧ s.link.state = .joining then .announce else .frame) (driveAck true s))) := by
      have hrange : ¬ (s.myId = 0 ∨ 15 < s.myId) := by omega
      have hme : s.myId = (driveAck true s).myId := rfl
      rw [exec_received, hrun, receive]
      simp only [if_neg hrange, if_pos hme, everyFrameIsReadBack f hf]
      rfl
    exact hsilent _ hexec
  · show Host.Outcome.next (powered _ s) = _
    rw [hrun, hwire]
    rfl
  · show Host.Outcome.next (powered _ s) = _
    rw [hrun]
    rfl
  · have hrange : ¬ (x = 0 ∨ 15 < x ∨ x = (driveAck true s).myId) := by
      have hne : x ≠ (driveAck true s).myId := hr.1.2.2.2.1
      have := hr.1.2.1
      have := hr.1.2.2.1
      omega
    have hnone : (s.heardFrom x).contextOf x = none := hc
    show Host.Outcome.next (powered (receiveMalformed x) s) = _
    rw [hrun, receiveMalformed, if_neg hrange, refreshPeer_present hr.1.2.2.2.2.2, breakContext, hnone,
      heardFrom_eq_heard (by rw [hr.2]; decide) (by rw [hr.2]; decide)]
  · have hack : driveAck true s = { s with link := { s.link with ackDriven := true } } := by
      simp [driveAck, State.onLink, hup]
    show Host.Outcome.next (powered (receiveMalformed s.myId) s) = _
    rw [hrun, receiveMalformed, if_pos (.inr (.inr rfl)), hack]

end


section
/-! Own frames in UP and ALONE: their start, their delivery and their drop. -/

namespace Sys2Proof.Machine

/-! ### The item on the wire (R86, R93) -/

section
variable {i : QueueItem} {before after : List QueueItem} {s : State}

theorem onWire_eq (hq : s.link.queue = before ++ i :: after) (hb : ∀ x ∈ before, x.onWire = false) (hi : i.onWire = true) :
    s.link.onWire? = some i := by
  have hnone : before.find? QueueItem.onWire = none := List.find?_eq_none.2 fun x hx => by simp [hb x hx]
  rw [Link.onWire?, hq, List.find?_append, hnone, Option.none_or, List.find?_cons_of_pos hi]

theorem dropOnWire_eq (hq : s.link.queue = before ++ i :: after) (hb : ∀ x ∈ before, x.onWire = false) (hi : i.onWire = true) :
    dropOnWire s = { s with link := { s.link with queue := before ++ after } } := by
  have hnone : ∀ x ∈ before, ¬ x.onWire = true := fun x hx => by simp [hb x hx]
  have herase : s.link.queue.eraseP QueueItem.onWire = before ++ after := by
    rw [hq, List.eraseP_append_right _ hnone, List.eraseP_cons_of_pos hi]
  rw [dropOnWire, State.onLink, herase]

theorem mapOnWire_eq (hq : s.link.queue = before ++ i :: after) (hb : ∀ x ∈ before, x.onWire = false) (hi : i.onWire = true)
    (f : QueueItem → QueueItem) : mapOnWire f s = { s with link := { s.link with queue := before ++ f i :: after } } := by
  rw [mapOnWire, State.onLink, hq, modifyFirst_split hb hi]

end

/-! ### The events of an own frame -/

/-- The head's frame is started (R85, R91). -/
theorem startFrame_head {f : Frame} {s : State} (hl : s.link.state = .up ∨ s.link.state = .alone) (hw : s.link.wire = none)
    (hf : s.link.head?.bind QueueItem.front? = some f) : startFrame s = s.onLink (fun l => { l with
      queue := l.onHead (fun i => { i with onWire := true })
      wire := some { frame := f, probe := false, bits := frameBits s.myId f } }) := by
  unfold startFrame
  rcases hl with hl | hl <;> simp only [hw, hl, hf]

theorem head_underWay {l : Link} {before rest : List QueueItem} {i : QueueItem} (hq : l.queue = before ++ i :: rest)
    (hb : ∀ x ∈ before, x.underWay = false) (hi : i.underWay = true) : l.head? = some i := by
  have hnone : before.find? QueueItem.underWay = none := List.find?_eq_none.2 fun x hx => by simp [hb x hx]
  rw [Link.head?, hq, List.find?_append, hnone, Option.none_or, List.find?_cons_of_pos hi]

theorem head_first {l : Link} {rest : List QueueItem} {i : QueueItem} (hq : l.queue = i :: rest)
    (hn : ∀ x ∈ l.queue, x.underWay = false) : l.head? = some i := by
  have hnone : l.queue.find? QueueItem.underWay = none := List.find?_eq_none.2 fun x hx => by simp [hn x hx]
  rw [Link.head?, hnone, hq]
  rfl

/-- The wire is free again. -/
def State.offWire (s : State) : State := { s with link := { s.link with wire := none } }

section
variable {w : Wire} {s : State} (hw : s.link.wire = some w) (hp : w.probe = false)
include hw hp

theorem endAttempt_queued (ack : Bool) : endAttempt ack s = endQueued ack s.offWire := by
  simp only [endAttempt, hw, hp, Bool.false_eq_true, if_false]
  rfl

theorem loseArbitration_queued {i : QueueItem} (hi : s.offWire.link.onWire? = some i) : loseArbitration s =
    if i.timedOut = true then droppedItem i (dropOnWire s.offWire)
    else mapOnWire (fun i => { i with onWire := false }) s.offWire := by
  have hi' : (s.onLink (fun l => { l with wire := none })).link.onWire? = some i := hi
  simp only [loseArbitration, hw, hp, Bool.false_eq_true, if_false, hi']
  rfl

end

/-- A delivery ends the undelivered frames in a row, in UP. -/
def State.delivering (s : State) : State :=
  s.onLink (fun l => { l with undelivered := if l.state = .up then 0 else l.undelivered })

/-- A frame that is acknowledged in UP, or sent once in ALONE, is delivered. -/
theorem endQueued_delivers {i : QueueItem} {ack : Bool} {s : State} (hl : s.link.state = .up ∨ s.link.state = .alone)
    (hack : ack = true ∨ s.link.state = .alone) (hi : s.link.onWire? = some i)
    (hsame : (advanceOnWire i s).link.state = s.link.state) :
    endQueued ack s = deliveredFrame i (advanceOnWire i s).delivering := by
  unfold endQueued State.delivering State.onLink
  rcases hl with hl | hl <;> rw [hl] at hsame
  · obtain rfl : ack = true := hack.resolve_right (by rw [hl]; decide)
    simp only [hi, hl, if_true, acknowledgedFrame, hsame]
    rw [State.onLink, hsame]
  · have halone : ¬ (advanceOnWire i s).link.state = .up := by rw [hsame]; decide
    simp only [hi, hl, if_neg halone]

theorem endQueued_fails {i : QueueItem} {s : State} (hl : s.link.state = .up) (hi : s.link.onWire? = some i) :
    endQueued false s = failedAttempt i s := by
  simp only [endQueued, hi, hl, Bool.false_eq_true, if_false]

/-! ### What a delivery means to the requester (R93, R94, R109, R118) -/

section
variable {i : QueueItem} {f : Frame} {s : State}

theorem deliveredFrame_more {g : Frame} {rest : List Frame} (h : i.frames = f :: g :: rest) : deliveredFrame i s = s := by
  simp only [deliveredFrame, h]

theorem deliveredFrame_claim {slot : SlotId} (h : i.frames = [f]) (hs : i.slot = some slot) :
    deliveredFrame i s = claimDelivered slot s := by
  simp only [deliveredFrame, h, hs]

theorem deliveredFrame_burst {n : TicketNo} (h : i.frames = [f]) (hs : i.slot = none) (hb : i.burst = some n) :
    deliveredFrame i s = burstDelivered n s := by
  simp only [deliveredFrame, h, hs, hb]

theorem deliveredFrame_announce {a : AnnounceValues} (h : i.frames = [.announce a]) (hs : i.slot = none) (hb : i.burst = none) :
    deliveredFrame i s = announced a s := by
  simp only [deliveredFrame, h, hs, hb]

theorem deliveredFrame_single (h : i.frames = [f]) (hs : i.slot = none) (hb : i.burst = none) (hk : f.kind ≠ .announce) :
    deliveredFrame i s = s := by
  cases f
  case announce => exact absurd rfl hk
  all_goals simp only [deliveredFrame, h, hs, hb]

end

/-- The last pending record is served: nothing is left to feed. -/
theorem burstDelivered_last {n : TicketNo} {s : State} (h : ∀ r ∈ s.tickets.table, r.number ≠ n → r.pendingBroadcast = false) :
    burstDelivered n s = modifyRecord n (fun r => { r with pendingBroadcast := false }) s := by
  refine feedPending_none fun r hr => ?_
  obtain ⟨q, hq, rfl⟩ := List.mem_map.1 hr
  by_cases hn : q.number = n
  · rw [if_pos hn]
  · rw [if_neg hn]
    exact h q hq hn

theorem announced_eq (a : AnnounceValues) (s : State) : announced a s = { s with link := { s.link with
    restartOwed := s.link.restartOwed && !a.restart } } := by
  unfold announced
  cases a.restart <;> simp [State.onLink]

section
variable {i : QueueItem} {w : Wire} {before after : List QueueItem} {s : State} (hpow : s.powered = true)
  (hlink : s.link.state = .up ∨ s.link.state = .alone) (hw : s.link.wire = some w) (hp : w.probe = false)
  (hq : s.link.queue = before ++ i :: after) (hb : ∀ x ∈ before, x.onWire = false) (hi : i.onWire = true)
include hpow hw hp hq hb hi

/-- The state with the wire free and this queue. -/
def State.offWireWith (q : List QueueItem) (s : State) : State :=
  { s with link := { s.link with
      wire := none
      queue := q } }

theorem arbitrationLost_eq : exec .arbitrationLost s = .next (settle (if i.timedOut = true
    then droppedItem i (s.offWireWith (before ++ after))
    else s.offWireWith (before ++ { i with onWire := false } :: after))) := by
  show Host.Outcome.next (powered loseArbitration s) = _
  rw [powered, if_pos hpow, loseArbitration_queued hw hp (onWire_eq (s := s.offWire) hq hb hi), dropOnWire_eq (s := s.offWire) hq hb hi,
    mapOnWire_eq (s := s.offWire) hq hb hi]
  rfl

theorem attemptEnd_fails (hup : s.link.state = .up) : exec (.attemptEnd false) s = .next (settle (
    if i.timedOut = true ∨ 2 ≤ i.attempts then droppedItem i (s.offWireWith (before ++ after))
    else s.offWireWith (before ++ { i with started := true, onWire := false, attempts := i.attempts + 1 } :: after))) := by
  have hcount : (i.timedOut = true ∨ Config.maxAttempts ≤ i.attempts + 1) ↔ (i.timedOut = true ∨ 2 ≤ i.attempts) :=
    or_congr_right Nat.succ_le_succ_iff
  show Host.Outcome.next (powered (endAttempt false) s) = _
  rw [powered, if_pos hpow, endAttempt_queued hw hp, endQueued_fails (s := s.offWire) hup (onWire_eq (s := s.offWire) hq hb hi),
    failedAttempt, dropOnWire_eq (s := s.offWire) hq hb hi, mapOnWire_eq (s := s.offWire) hq hb hi]
  simp only [hcount]
  rfl

include hlink

/-- A delivered frame that ends its item. -/
theorem attemptEnd_delivers {ack : Bool} (hack : ack = true ∨ s.link.state = .alone) (hlast : i.frames.length ≤ 1) :
    exec (.attemptEnd ack) s = .next (settle (deliveredFrame i (s.offWireWith (before ++ after)).delivering)) := by
  have hadvance : advanceOnWire i s.offWire = s.offWireWith (before ++ after) := by
    rw [advanceOnWire, if_pos hlast, dropOnWire_eq (s := s.offWire) hq hb hi]
    rfl
  show Host.Outcome.next (powered (endAttempt ack) s) = _
  rw [powered, if_pos hpow, endAttempt_queued hw hp, endQueued_delivers (s := s.offWire) hlink hack
    (onWire_eq (s := s.offWire) hq hb hi) (by rw [hadvance]; rfl), hadvance]

/-- A delivered frame of a burst that goes on. -/
theorem attemptEnd_advances {ack : Bool} {f g : Frame} {rest : List Frame} (hack : ack = true ∨ s.link.state = .alone)
    (h : i.frames = f :: g :: rest) : exec (.attemptEnd ack) s = .next (settle (s.offWireWith (before ++
      { i with frames := g :: rest, started := true, onWire := false, attempts := 0, timeout := none, timedOut := false }
        :: after)).delivering) := by
  have hadvance : advanceOnWire i s.offWire = s.offWireWith (before ++
      { i with frames := g :: rest, started := true, onWire := false, attempts := 0, timeout := none, timedOut := false }
        :: after) := by
    rw [advanceOnWire, if_neg (by rw [h, List.length_cons, List.length_cons]; omega), mapOnWire_eq (s := s.offWire) hq hb hi, h]
    rfl
  show Host.Outcome.next (powered (endAttempt ack) s) = _
  rw [powered, if_pos hpow, endAttempt_queued hw hp, endQueued_delivers (s := s.offWire) hlink hack
    (onWire_eq (s := s.offWire) hq hb hi) (by rw [hadvance]; rfl), hadvance, deliveredFrame_more h]

end

/-! ### The transmit timeout (R93) -/

theorem modifyAt_eq {f : QueueItem → QueueItem} {i : QueueItem} : ∀ {p : Nat} {q : List QueueItem}, q[p]? = some i →
    modifyAt f p q = q.set p (f i)
  | 0, _ :: _, h => by
    obtain rfl := Option.some.inj h
    rfl
  | p + 1, x :: q, h => congrArg (x :: ·) (modifyAt_eq (p := p) h)

theorem transmitTimeout_eq {i : QueueItem} {p ms : Nat} {s : State} (hpow : s.powered = true) (hp : s.link.queue[p]? = some i)
    (hms : i.timeout = some ms) : exec (.transmitTimeout p) s = .next (settle (timeoutAt p i (elapse ms s))) := by
  have hrun : exec (.transmitTimeout p) s = execTransmitTimeout p s := rfl
  rw [hrun, execTransmitTimeout]
  simp only [hp, hms, powered, hpow, if_true]

/-! ### What a drop leaves (R93, R95, R105, R118) -/

/-- `u` is `s` with another link, in the same state and with the same undelivered count, and after some time. -/
def Passes (s u : State) : Prop :=
  ∃ (day : YardDay) (scale : ScaleUnit) (link : Link) (weighCount payCount : Option Nat) (confirm : PayOp → Option Nat)
    (stall : Option Nat) (port : Port), link.state = s.link.state ∧ link.undelivered = s.link.undelivered ∧
    u = { s with
      day := day
      scale := scale
      link := link
      weighTimer := { s.weighTimer with count := weighCount }
      payTimer := { s.payTimer with count := payCount }
      payOp := s.payOp.map (fun o => { o with confirm := confirm o })
      printer := { s.printer with stall := stall }
      port := port }

theorem passes_link {s : State} {l : Link} (h : l.state = s.link.state) (hu : l.undelivered = s.link.undelivered) :
    Passes s { s with link := l } := by
  refine ⟨s.day, s.scale, l, s.weighTimer.count, s.payTimer.count, PayOp.confirm, s.printer.stall, s.port, h, hu, ?_⟩
  have hid : s.payOp.map (fun o => { o with confirm := o.confirm }) = s.payOp := by cases s.payOp <;> rfl
  rw [hid]

theorem passes_elapse {s : State} {l : Link} {n : Nat} (h : l.state = s.link.state) (hu : l.undelivered = s.link.undelivered) :
    Passes s { elapse n s with link := l } := ⟨_, _, _, _, _, _, _, _, h, hu, rfl⟩

theorem removed_plain {i : QueueItem} {u : State} (hs : i.slot = none) (hb : i.burst = none) : removed i u = u := by
  simp only [removed, hs, hb]

theorem removed_burst {i : QueueItem} {n : TicketNo} {u : State} (hs : i.slot = none) (hb : i.burst = some n) :
    removed i u = markPending n u := by
  simp only [removed, hs, hb]

theorem removed_claim {i : QueueItem} {slot : SlotId} {u : State} (hs : i.slot = some slot) : removed i u = claimDropped slot u := by
  simp only [removed, hs]

/-- A drop in ALONE is not counted, and the first two in a row in UP only are. -/
theorem countDrop_counts {u : State} (h : u.link.state = .up ∨ u.link.state = .alone)
    (hlow : u.link.state = .alone ∨ u.link.undelivered < 2) : countDrop u = { u with link := { u.link with
      undelivered := if u.link.state = .up then u.link.undelivered + 1 else u.link.undelivered } } := by
  rcases h with h | h
  · have hcount : u.link.undelivered < 2 := hlow.resolve_left (by rw [h]; decide)
    rw [countDrop, if_pos h, if_pos h, if_neg (by rw [Config.maxUndelivered]; omega)]
    rfl
  · rw [countDrop, if_neg (by rw [h]; decide), if_neg (by rw [h]; decide)]

theorem countDrop_third {u : State} (h : u.link.state = .up) (hthird : u.link.undelivered = 2) : countDrop u = enterDown u := by
  rw [countDrop, if_pos h, if_pos (by rw [hthird]; decide)]

/-- The removed CLAIM of a weigh slot whose record it claims. -/
theorem claimDropped_weigh_eq {o : WeighOp} {r : Record} {p : Purpose} {u : State} (hw : u.weigh = some o)
    (ht : o.target = some r.number) (hf : u.findRecord r.number = some r) (hc : r.custody = .claiming .weigh p)
    (hroom : u.notices.queue.length < 16) : claimDropped .weigh u = { u with
      weigh := none
      scale := { u.scale with context := none }
      weighTimer := { u.weighTimer with phase := .ended, count := none }
      tickets := { u.tickets.handedBack r (u.roleKeeps r) with register := u.tickets.register }
      notices := { u.notices with
        queue := u.notices.queue ++ [(u.notices.seq, .done .weigh .timeout (some r.number) none 0 0)]
        seq := (u.notices.seq + 1) % 256 } } := by
  rw [claimDropped_weigh hw ht, setCustody_free hf (by rw [hc]; rfl), endOp_weigh (o := o) (by exact hw) ht,
    postNotice_room (by exact hroom)]
  rfl

theorem claimDropped_pay_eq {o : PayOp} {r : Record} {p : Purpose} {u : State} (hp : u.payOp = some o)
    (ht : o.target = r.number) (hf : u.findRecord r.number = some r) (hc : r.custody = .claiming .pay p)
    (hroom : u.notices.queue.length < 16) : claimDropped .pay u = { u with
      payOp := none
      payTimer := { u.payTimer with phase := .ended, count := none }
      printer := { u.printer with jobs := u.printer.jobs.filter (fun j => decide (some j.number ≠ o.placeholder)) }
      tickets := { u.tickets.handedBack r (u.roleKeeps r) with register := u.tickets.register }
      notices := { u.notices with
        queue := u.notices.queue ++ [(u.notices.seq, .done .pay .timeout (some r.number) none 0 0)]
        seq := (u.notices.seq + 1) % 256 } } := by
  rw [claimDropped_pay hp, ht, setCustody_free hf (by rw [hc]; rfl), endOp_pay (o := o) (by exact hp),
    postNotice_room (by exact hroom), ht, Printer.withoutJob_eq]
  rfl

/-- The notice of the operation whose CLAIM was removed. -/
theorem claimDropped_told {slot : SlotId} {n : TicketNo} {u : State} (h : u.slotTicket slot = some n)
    (hroom : u.notices.queue.length < 16) : (claimDropped slot u).flags = u.flags ∧ (claimDropped slot u).notices = { u.notices with
      queue := u.notices.queue ++ [(u.notices.seq, .done slot .timeout (some n) none 0 0)]
      seq := (u.notices.seq + 1) % 256 } := by
  have hslot : (setCustody n .free u).slotTicket slot = some n := by rw [setCustody_shape]; cases slot <;> exact h
  have hn : (closeSlot slot .ended (setCustody n .free u)).notices = u.notices := by simp
  have hf : (closeSlot slot .ended (setCustody n .free u)).flags = u.flags := by simp
  rw [claimDropped, h]
  dsimp only
  rw [endOp, hslot, postNotice_room (by rw [hn]; exact hroom)]
  exact ⟨hf, by rw [State.onNotices, hn]⟩

/-- The third drop in a row: the item's requester is told first, then LINK DOWN is latched and the queue sorted. -/
theorem droppedItem_third (i : QueueItem) {u : State} (hup : u.link.state = .up) (hthird : u.link.undelivered = 2) :
    Removes 1 u (droppedItem i u) ∧
    (droppedItem i u).link = { u.link with
      state := .down, undelivered := 0, upAlone := none, probe := none
      queue := (u.link.queue.filter QueueItem.isHeld).map QueueItem.held } ∧
    (droppedItem i u).latched .linkDown = true ∧
    (judge .linkDown (removed i u).downed).notices.queue <+: (droppedItem i u).notices.queue ∧
    ∀ j, j = i ∨ (j ∈ u.link.queue ∧ j.isHeld = false) → (droppedItem i u).DisposedOf j := by
  have hlink := removed_link i u
  obtain ⟨hremoves, hsorted, hlatched, hprefix, hgone⟩ := enterDown_removes (removed i u)
  rw [droppedItem, countDrop_third (by rw [hlink]; exact hup) (by rw [hlink]; exact hthird)]
  rw [hlink] at hsorted hgone
  refine ⟨(removed_removes i u).trans hremoves, hsorted, hlatched, hprefix, fun j hj => ?_⟩
  rcases hj with rfl | ⟨hj, hheld⟩
  · exact hremoves.disposedOf (removed_disposes j u)
  · exact hgone j hj hheld

/-- The notice of LINK DOWN stands behind those of the removed item. -/
theorem linkDown_told {u : State} (hl : u.latched .linkDown = false) (hroom : u.notices.queue.length < 16) :
    (judge .linkDown u.downed).notices.queue = u.notices.queue ++ [(u.notices.seq, .flag .linkDown .none)] := by
  rw [judge_holds (by rfl), latchCondition_clear (by exact hl), flagPosted_eq (by exact hroom)]
  rfl

theorem removed_silent {i : QueueItem} {u : State} (hs : i.slot = none) :
    (removed i u).flags = u.flags ∧ (removed i u).notices = u.notices := by
  cases hb : i.burst with
  | none =>
    rw [removed_plain hs hb]
    exact ⟨rfl, rfl⟩
  | some n =>
    rw [removed_burst hs hb]
    exact ⟨rfl, rfl⟩

theorem getElem?_prefix {α : Type} {l m : List α} (h : l <+: m) {k : Nat} {a : α} (ha : l[k]? = some a) : m[k]? = some a := by
  obtain ⟨r, rfl⟩ := h
  rw [List.getElem?_append_left (List.getElem?_eq_some_iff.1 ha).1, ha]

end Sys2Proof.Machine

open Sys2Proof Sys2Proof.Machine

/-- Settles O45: a drop is told to its requester and counted, the third leads to DOWN; a delivery goes by the item's frames. -/
theorem ownFramesOnTheWire : Obligations.OwnFramesOnTheWire := by
  intro i f s hpow hlink told dropped leadsDown
  have hrun (f : State → State) : powered f s = settle (f s) := if_pos hpow
  have hdropped {c : Instr} {u : State} (hu : Passes s u) (hexec : exec c s = .next (settle (droppedItem i u)))
      (hlow : s.link.state = .alone ∨ s.link.undelivered < 2) : dropped c u := by
    have hstate : u.link.state = s.link.state := by obtain ⟨_, _, _, _, _, _, _, _, h, -, rfl⟩ := hu; exact h
    have hundelivered : u.link.undelivered = s.link.undelivered := by obtain ⟨_, _, _, _, _, _, _, _, -, h, rfl⟩ := hu; exact h
    have hcount (v : State) (hv : v.link = u.link) : countDrop v = { v with link := { u.link with
        undelivered := if s.link.state = .up then s.link.undelivered + 1 else s.link.undelivered } } := by
      rw [countDrop_counts (by rw [hv, hstate]; exact hlink) (by rw [hv, hstate, hundelivered]; exact hlow), hv, hstate,
        hundelivered]
    rw [droppedItem, hcount _ (removed_link i u)] at hexec
    obtain ⟨day, scale, link, weighCount, payCount, confirm, stall, port, -, -, rfl⟩ := hu
    refine ⟨fun hs hb => ?_, fun n hs hb => ?_, fun o r p hs hw ht hf hc hroom => ?_, fun o r p hs hp ht hf hc hroom => ?_⟩
    · rw [hexec, removed_plain hs hb]
    · rw [hexec, removed_burst hs hb, markPending_eq]
      rfl
    · rw [hexec, removed_claim hs, claimDropped_weigh_eq (by exact hw) ht (by exact hf) hc (by exact hroom)]
      rfl
    · rw [hexec, removed_claim hs,
        claimDropped_pay_eq (o := { o with confirm := confirm o }) (by rw [hp]; rfl) ht (by exact hf) hc (by exact hroom)]
      rfl
  have hdown {c : Instr} {u : State} (hu : Passes s u) (hexec : s.link.state = .up → exec c s = .next (settle (droppedItem i u))) : leadsDown c u := by
    intro hup hthird heldKind gone freed
    obtain ⟨day, scale, link, weighCount, payCount, confirm, stall, port, hstate, hundelivered, hu⟩ := hu
    obtain ⟨hremoves, hlink', hlatched, hprefix, hgone⟩ := droppedItem_third i (u := u) (by rw [hu]; exact hstate.trans hup)
      (by rw [hu]; exact hundelivered.trans hthird)
    have hgone' (j : QueueItem) (hj : gone j) : (droppedItem i u).DisposedOf j :=
      hgone j (hj.imp id fun ⟨hj, hk⟩ => ⟨hj, (isHeld_eq j).trans hk⟩)
    have hbusy : s.notices.queue.length < 13 → u.notices.queue.length + u.slotsBusy + 1 ≤ 16 := by
      intro hroom
      have hn : u.notices = s.notices := by rw [hu]
      have hp := Bool.toNat_le u.payOp.isSome
      have hw := Bool.toNat_le u.weigh.isSome
      rw [hn, State.slotsBusy]
      omega
    refine ⟨droppedItem i u, hexec hup, ?_, hlatched, fun hclear => ⟨fun hs hroom => ?_, fun slot n hs hn hroom => ?_⟩,
      fun j hj n hs hb r hr hnum hw => ?_, fun j hj o hs ho => ?_, fun j hj o n hs ho hn => ?_,
      by rw [hremoves.register, hu], by rw [hremoves.closed, hu], hremoves.day, by rw [hremoves.drawer, hu],
      by rw [hremoves.pricing, hu], by rw [hremoves.settings, hu]⟩
    · rw [hlink', show heldKind = QueueItem.isHeld from funext fun j => (isHeld_eq j).symm]
      rfl
    · obtain ⟨hflags, hn⟩ := removed_silent (u := u) hs
      have htold := linkDown_told (u := removed i u) (by rw [State.latched, State.flag, hflags, hu]; exact hclear)
        (by rw [hn, hu]; exact hroom)
      rw [hn, hu] at htold
      refine getElem?_prefix hprefix ?_
      rw [hu, htold]
      simp
    · have hslot : u.slotTicket slot = some n := by
        cases slot with
        | weigh => rw [hu]; exact hn
        | pay =>
          obtain ⟨o, ho, ht⟩ := Option.map_eq_some_iff.1 hn
          rw [hu, State.slotTicket, ho]
          exact congrArg some ht
      obtain ⟨hflags, htold⟩ := claimDropped_told hslot (by rw [hu]; exact Nat.lt_succ_of_lt hroom)
      rw [← removed_claim (i := i) hs] at hflags htold
      have hdown := linkDown_told (u := removed i u) (by rw [State.latched, State.flag, hflags, hu]; exact hclear)
        (by rw [htold, hu, List.length_append]; exact Nat.succ_lt_succ hroom)
      rw [htold, show u.notices = s.notices by rw [hu], List.append_assoc, List.cons_append, List.nil_append] at hdown
      rw [hdown] at hprefix
      exact ⟨getElem?_prefix hprefix (by simp), getElem?_prefix hprefix (by simp)⟩
    · refine (hgone' j hj).burst n hs hb r hr hnum (hw.trans ?_)
      rw [State.myId, State.myId, hremoves.identity, hu]
    · have hnone := (hgone' j hj).pay hs
      rcases hremoves.pay with ⟨hop, -⟩ | ⟨q, hq, he⟩
      · rw [hnone, hu, ho] at hop
        cases hop
      · have hqo : q = { o with confirm := confirm o } := by
          rw [hu, ho] at hq
          exact (Option.some.inj hq).symm
        rw [hqo] at he
        exact ⟨hnone, he.timer, he.freed, he.jobs, fun hroom => he.told (hbusy hroom)⟩
    · have hnone := (hgone' j hj).weigh hs
      have hw : u.weigh = some o := by rw [hu]; exact ho
      rcases hremoves.weigh with ⟨hop, -⟩ | ⟨q, m, hq, hm, he⟩
      · exact absurd (hn.symm.trans (hnone o (hop.trans hw))) (by simp)
      · obtain rfl : o = q := Option.some.inj (hw.symm.trans hq)
        obtain rfl : n = m := Option.some.inj (hn.symm.trans hm)
        exact ⟨he.op, he.timer, he.freed, fun hroom => he.told (hbusy hroom)⟩
  clear_value dropped leadsDown
  clear told
  have hwaits {x : QueueItem} (h : x.burst = none ∨ (x.started = false ∧ x.onWire = false)) : x.underWay = false :=
    QueueItem.underWay_false.2 h
  refine ⟨fun before rest hw hq hf hhead => ?_, fun w before after hw hp hq hb hi => ?_, fun p ms hp hms => ?_⟩
  · have hstart : s.link.head?.bind QueueItem.front? = some f ∧ s.link.onHead (fun i => { i with onWire := true }) =
        before ++ { i with onWire := true } :: rest := by
      rcases hhead with ⟨hburst, hway, hb⟩ | ⟨rfl, hn⟩
      · have hi := QueueItem.underWay_iff.2 ⟨hburst, hway⟩
        have hb' := fun x hx => hwaits (hb x hx)
        exact ⟨by rw [head_underWay hq hb' hi]; exact hf, Link.onHead_underWay hq hb' hi⟩
      · have hn' := fun x hx => hwaits (hn x hx)
        exact ⟨by rw [head_first hq hn']; exact hf, Link.onHead_first hq hn'⟩
    show Host.Outcome.next (powered startFrame s) = _
    rw [hrun, startFrame_head hlink hw hstart.1, State.onLink, hstart.2]
  · intro without
    have hpasses : Passes s (s.offWireWith (before ++ after)) := passes_link rfl rfl
    have hlose := arbitrationLost_eq hpow hw hp hq hb hi
    have hlate (ht : i.timedOut = true) :
        exec .arbitrationLost s = .next (settle (droppedItem i (s.offWireWith (before ++ after)))) := by rw [hlose, if_pos ht]
    have hfail := attemptEnd_fails hpow hw hp hq hb hi
    have hlast (h : i.timedOut = true ∨ i.attempts = 2) (hup : s.link.state = .up) :
        exec (.attemptEnd false) s = .next (settle (droppedItem i (s.offWireWith (before ++ after)))) := by
      rw [hfail hup, if_pos (h.imp id fun h => Nat.le_of_eq h.symm)]
    refine ⟨fun ht => ?_, fun ht hlow => ?_, fun ack hack => ?_, fun hup ht hlow => ?_, fun hup h hlow => ?_, fun ht => ?_,
      fun h => ?_⟩
    · rw [hlose, if_neg (by simp [ht])]
      rfl
    · exact hdropped hpasses (hlate ht) hlow
    · intro link
      have hwhole {g : Frame} (h : i.frames = [g]) :
          exec (.attemptEnd ack) s = .next (settle (deliveredFrame i { s with link := link })) :=
        attemptEnd_delivers hpow hlink hw hp hq hb hi hack (by rw [h]; exact Nat.le_refl 1)
      refine ⟨fun h hs hbu hk => ?_, fun a h hs hbu => ?_, fun h hs => ?_, fun h hs => ?_, fun g rest h => ?_, fun n h hs hbu hn => ?_⟩
      · rw [hwhole h, deliveredFrame_single h hs hbu hk]
      · rw [hwhole h, deliveredFrame_announce h hs hbu, announced_eq]
      · rw [hwhole h, deliveredFrame_claim h hs]
        rfl
      · rw [hwhole h, deliveredFrame_claim h hs]
        rfl
      · exact attemptEnd_advances hpow hlink hw hp hq hb hi hack h
      · rw [hwhole h, deliveredFrame_burst h hs hbu, burstDelivered_last (by exact hn)]
        rfl
    · rw [hfail hup, if_neg (by simp [ht]; omega)]
      rfl
    · exact hdropped hpasses (hlast h hup) (.inr hlow)
    · exact hdown hpasses fun _ => hlate ht
    · exact hdown hpasses (hlast h)
  · have hexec := transmitTimeout_eq hpow hp hms
    have hpasses : Passes s { elapse ms s with link := { (elapse ms s).link with
        queue := (elapse ms s).link.queue.eraseIdx p } } := passes_elapse rfl rfl
    have hoff (hi : i.onWire = false) : timeoutAt p i (elapse ms s) = droppedItem i { elapse ms s with
        link := { (elapse ms s).link with
          queue := (elapse ms s).link.queue.eraseIdx p } } := if_neg (by simp [hi])
    refine ⟨fun hi => ?_, fun hi hlow => hdropped hpasses (by rw [hexec, hoff hi]) hlow,
      fun hi => hdown hpasses fun _ => by rw [hexec, hoff hi]⟩
    have hat : (elapse ms s).link.queue[p]? = some { i with timeout := spend ms i.timeout } := by
      show (s.link.queue.map _)[p]? = _
      rw [List.getElem?_map, hp]
      rfl
    rw [hexec, timeoutAt, if_pos hi, State.onLink, modifyAt_eq hat]

end


section
/-! The judging of a peer's CLAIM: the OBJECT it draws, the custody it takes, and the stale mark with its ASK. -/

namespace Sys2Proof.Machine

/-! ### The stale mark (R9, R100) -/

section
variable {n : TicketNo} {r : Record} {step : Nat} {s : State}

theorem endOffer_none {loss : LossReason} (h : ∀ q ∈ s.payOp, q.target = n → q.offer = none) : endOffer n loss s = s := by
  unfold endOffer
  cases hp : s.payOp with
  | none => rfl
  | some q =>
    have hq := h q hp
    by_cases ht : q.target = n
    · simp [hq ht]
    · simp [ht]

theorem sendAsk_holds (h : s.linkHolds = true) : sendAsk n step s = s := if_pos h

theorem sendAsk_full (h : 24 ≤ s.occupied) : sendAsk n step s = s := by
  unfold sendAsk
  rw [if_neg (fun hp => absurd (freePlaces_pos_iff.1 hp) (Nat.not_lt.2 h))]
  exact ite_self _

theorem sendAsk_room (hl : s.linkHolds = false) (h : s.occupied < 24) : sendAsk n step s = enqueue (.single (.ask n step)) s := by
  rw [sendAsk, if_neg (by simp [hl]), if_pos (freePlaces_pos_iff.2 h)]

/-- A record that is not behind the step, or is stale already, stays as it is. -/
theorem markIfBehind_kept (h : ∀ r ∈ s.findRecord n, r.step < step → r.stale = true) : markIfBehind n step s = s := by
  unfold markIfBehind
  cases hf : s.findRecord n with
  | none => rfl
  | some r =>
    dsimp only
    by_cases hb : r.step < step
    · rw [if_pos hb]
      simp only [markStale, hf, h r hf hb, if_true]
    · rw [if_neg hb]

theorem markIfBehind_record (hf : s.findRecord n = some r) (h : r.step < step → r.stale = true) : markIfBehind n step s = s :=
  markIfBehind_kept fun _ hq => Option.some.inj (hf.symm.trans hq) ▸ h

theorem markIfBehind_none (hf : s.findRecord n = none) : markIfBehind n step s = s :=
  markIfBehind_kept fun _ hq => nomatch hf.symm.trans hq

/-- A record behind the step is marked, and its ASK sent. -/
theorem markStale_marks (hf : s.findRecord n = some r) (hs : r.stale = false)
    (hoffer : ∀ q ∈ s.payOp, q.target = n → q.offer = none) :
    markStale n s = sendAsk n r.step (modifyRecord n (fun r => { r with stale := true }) s) := by
  have hp : (sendAsk n r.step (modifyRecord n (fun r => { r with stale := true }) s)).payOp = s.payOp := by simp
  simp only [markStale, hf, hs, Bool.false_eq_true, if_false]
  exact endOffer_none (by rwa [hp])

theorem markIfBehind_marks (hf : s.findRecord n = some r) (hb : r.step < step) (hs : r.stale = false)
    (hoffer : ∀ q ∈ s.payOp, q.target = n → q.offer = none) :
    markIfBehind n step s = sendAsk n r.step (modifyRecord n (fun r => { r with stale := true }) s) := by
  rw [← markStale_marks hf hs hoffer]
  simp only [markIfBehind, hf, if_pos hb]

end

/-! ### The OBJECT and the custody a CLAIM takes (R121 to R125) -/

section
variable {x holder : Nat} {n : TicketNo} {p : Purpose} {r : Record} {reason : ObjectReason} {s : State}

theorem object_silent (h : s.link.state ≠ .up) (h' : s.link.state ≠ .alone) : object n x holder reason s = s :=
  if_neg (fun hc => hc.elim h h')

theorem object_room (h : s.link.state = .up) (hroom : s.occupied < 24) :
    object n x holder reason s = enqueue (.single (.object n x holder reason (s.knownStep n))) s := by
  have hl : s.linkHolds = false := by simp [State.linkHolds, h]
  rw [object, if_pos (.inl h), sendAsking, hl, Bool.false_and, if_neg (by decide), if_pos (freePlaces_pos_iff.2 hroom)]

theorem knownStep_record (hf : s.findRecord n = some r) : s.knownStep n = r.step := by
  simp only [State.knownStep, hf]

theorem knownStep_entry {e : RegEntry} (hf : s.findRecord n = none) (he : s.regEntry n = some e) : s.knownStep n = e.step := by
  simp only [State.knownStep, hf, he]

theorem knownStep_none (hf : s.findRecord n = none) (he : s.regEntry n = none) : s.knownStep n = 0 := by
  simp only [State.knownStep, hf, he]

theorem takenBy_eq (hf : s.findRecord n = some r) (ho : r.custody.isOwn = false) :
    takenBy x n p s = { s with tickets := s.tickets.held n (.taken x p) x } := by
  rw [takenBy, setCustody_not_own _ hf ho, setHolder_eq]
  rfl

theorem takenBy_own (hf : s.findRecord n = some r) (ho : r.custody.isOwn = true) :
    takenBy x n p s = { s with tickets := s.tickets.handedOver r (.taken x p) x (s.roleKeeps r) } := handOver_eq x hf ho rfl

theorem free_or_taken_not_own (h : r.custody = .free ∨ r.taker = some x) : r.custody.isOwn = false := by
  rcases h with h | h
  · rw [h]
    rfl
  · obtain ⟨q, hq⟩ := taker_eq_some.1 h
    rw [hq]
    rfl

/-- A record that is free for the claimant: taken, unless it is ahead. -/
theorem judgeAgainstRecord_free (step : Nat) (h : r.custody = .free ∨ r.taker = some x) :
    judgeAgainstRecord x n p step r s = if step < r.step then object n x 0 .stale s else takenBy x n p s := by
  rcases h with h | h
  · simp only [judgeAgainstRecord, h]
  · obtain ⟨q, hq⟩ := taker_eq_some.1 h
    simp only [judgeAgainstRecord, hq, ne_eq, not_true_eq_false, if_false]

theorem judgeAgainstRecord_taken (step : Nat) {y : Nat} (h : r.taker = some y) (hy : y ≠ x) :
    judgeAgainstRecord x n p step r s = object n x y .held s := by
  obtain ⟨q, hq⟩ := taker_eq_some.1 h
  simp only [judgeAgainstRecord, hq, ne_eq, hy, not_false_eq_true, if_true]

theorem judgeAgainstRecord_held (step : Nat) {slot : SlotId} {q : Purpose} (h : r.custody = .held slot q) :
    judgeAgainstRecord x n p step r s = object n x s.myId .held s := by
  simp only [judgeAgainstRecord, h]

theorem judgeAgainstRecord_delivered (step : Nat) {slot : SlotId} {q : Purpose} (h : r.custody = .claiming slot q)
    (hp : (s.claimTimer slot).phase ≠ .queued) : judgeAgainstRecord x n p step r s = object n x s.myId .held s := by
  simp only [judgeAgainstRecord, h, if_neg hp]

theorem judgeAgainstRecord_queued (step : Nat) {slot : SlotId} {q : Purpose} (h : r.custody = .claiming slot q)
    (hp : (s.claimTimer slot).phase = .queued) : judgeAgainstRecord x n p step r s =
      if step < r.step then object n x 0 .stale s
      else endOp slot .lost (some .withdrawn) x (takenBy x n p (withdrawClaim slot s)) := by
  simp only [judgeAgainstRecord, h, if_pos hp]

end

/-! ### The whole judgement (R121) -/

section
variable {x step : Nat} {n : TicketNo} {p : Purpose} {s : State}

theorem judgeClaim_unread (h : s.link.state = .joining ∨ s.link.state = .silent) :
    judgeClaim x n p step s = markIfBehind n step s := by
  rw [judgeClaim, if_pos h]

variable (h : ¬ (s.link.state = .joining ∨ s.link.state = .silent))
include h

theorem judgeClaim_closed (hc : s.isClosed n = true) :
    judgeClaim x n p step s = markIfBehind n step (object n x 0 .closed s) := by
  rw [judgeClaim, if_neg h, if_pos hc]

theorem judgeClaim_record {r : Record} (hc : s.isClosed n = false) (hf : s.findRecord n = some r) :
    judgeClaim x n p step s = markIfBehind n step (judgeAgainstRecord x n p step r s) := by
  rw [judgeClaim, if_neg h, if_neg (by simp [hc])]
  simp only [hf]

theorem judgeClaim_entry {e : RegEntry} (hc : s.isClosed n = false) (hf : s.findRecord n = none) (he : s.regEntry n = some e) :
    judgeClaim x n p step s = markIfBehind n step (judgeAgainstEntry x n step e s) := by
  rw [judgeClaim, if_neg h, if_neg (by simp [hc])]
  simp only [hf, he]

theorem judgeClaim_unknown (hc : s.isClosed n = false) (hf : s.findRecord n = none) (he : s.regEntry n = none) :
    judgeClaim x n p step s = markIfBehind n step s := by
  rw [judgeClaim, if_neg h, if_neg (by simp [hc])]
  simp only [hf, he]

end

theorem judgeAgainstEntry_other {x step : Nat} {n : TicketNo} {e : RegEntry} {s : State} (h0 : e.holder ≠ 0) (hx : e.holder ≠ x) :
    judgeAgainstEntry x n step e s = object n x e.holder .held s := if_pos ⟨h0, hx⟩

theorem judgeAgainstEntry_free {x step : Nat} {n : TicketNo} {e : RegEntry} {s : State} (h : e.holder = 0 ∨ e.holder = x) :
    judgeAgainstEntry x n step e s = if step < e.step then object n x 0 .stale s else setHolder n x s :=
  if_neg (fun hc => h.elim hc.1 hc.2)

theorem setHolder_speaks {n : TicketNo} {h : Nat} {e : RegEntry} {s : State} (he : s.regEntry n = some e) :
    setHolder n h s = { s with tickets := { s.tickets with
      register := s.tickets.register.map (fun q => if q.serial = n.serial then { q with holder := h } else q) } } := by
  rw [setHolder, modifyEntry_eq, if_pos (speaksFor_of_regEntry he)]

theorem heardFrom_unread {x : Nat} {s : State} (h : s.link.state = .joining ∨ s.link.state = .silent) :
    s.heardFrom x = { s.heard x with link := { (s.heard x).link with ackDriven := false } } := by
  unfold State.heardFrom State.heard
  rcases h with h | h <;> rw [h] <;> rfl

theorem isClosed_of_entry {n : TicketNo} {e : RegEntry} {s : State} (he : s.regEntry n = some e)
    (hl : e.life = .paid ∨ e.life = .voided ∨ e.life = .closed) : s.isClosed n = true := by
  have hclosed : e.life.isClosed = true := by rcases hl with h | h | h <;> rw [h] <;> rfl
  simp [State.isClosed, he, hclosed]

/-- A record whose custody left this station's slots is the same but for its custody, where it is still kept. -/
theorem findRecord_handedOver {r : Record} {c : Custody} {h : Nat} {kept : Prop} [Decidable kept] {s u : State}
    (hu : u.tickets = s.tickets.handedOver r c h kept) (hf : s.findRecord r.number = some r) :
    ∀ q ∈ u.findRecord r.number, q = { r with custody := c } := by
  intro q hq
  have htable : u.tickets.table = if kept then s.tickets.table.map (fun x => if x.number = r.number then { x with custody := c } else x)
      else s.tickets.table.filter (fun x => decide (x.number ≠ r.number)) := by rw [hu]; rfl
  by_cases hk : kept
  · rw [if_pos hk] at htable
    have hq' : u.findRecord r.number = some { r with custody := c } :=
      (congrArg (List.find? _) htable).trans (findRecord_custody c hf)
    exact Option.some.inj (hq.symm.trans hq')
  · rw [if_neg hk] at htable
    have hmem := List.mem_of_find?_eq_some hq
    have hnum := List.find?_some hq
    rw [htable, List.mem_filter] at hmem
    simp_all

section
variable {x step : Nat} {n : TicketNo} (p : Purpose) {s : State} (hc : s.contextOf x = none) (h1 : 1 ≤ n.home) (h15 : n.home ≤ 15)
  (hs1 : 1 ≤ n.serial) (hs : n.serial ≤ 65535) (hstep : step ≤ 8)
include hc h1 h15 hs1 hs hstep

theorem claim_heard (hr : s.hears x) : exec (.claimReceived x (ticketBytes n ++ [byte p.code, byte step])) s =
    .next (settle (judgeClaim x n p step (s.heardFrom x))) := by
  have hok : ticketOk n = true := ticketOk_iff.2 ⟨h1, h15, hs1, hs⟩
  have hid : (s.heardFrom x).waitId = false := hr.2.2.2.2.1
  rw [← deliver_claim hid]
  exact exec_hears_outside (f := .claim n p step) hr hc (fun h => nomatch h) (by simp [Frame.inRange, hok, hstep])

theorem claim_read (hr : s.reads x) : exec (.claimReceived x (ticketBytes n ++ [byte p.code, byte step])) s =
    .next (settle (judgeClaim x n p step (s.heard x))) := by
  rw [claim_heard p hc h1 h15 hs1 hs hstep hr.1, heardFrom_eq_heard (by rw [hr.2]; decide) (by rw [hr.2]; decide)]

end

end Sys2Proof.Machine

open Sys2Proof Sys2Proof.Machine

/-- Settles O47: in UP, DOWN, JOINING and SILENT by the collection that knows the ticket, then the stale mark. -/
theorem claimReceived : Obligations.ClaimReceived := by
  refine ⟨fun x n p step s hr hc h1 h15 hs1 hs hstep => ?_, fun x n p step s hr hc h1 h15 hs1 hs hstep hoffer => ?_⟩
  · intro c objecting taken
    have hexec : exec c s = .next (settle (judgeClaim x n p step (s.heard x))) := claim_read p hc h1 h15 hs1 hs hstep hr
    have hlinked : ¬ ((s.heard x).link.state = .joining ∨ (s.heard x).link.state = .silent) := by
      rw [show (s.heard x).link.state = s.link.state from rfl, hr.2]
      decide
    have hobject {h : Nat} {reason : ObjectReason} {own : Nat} (hown : s.knownStep n = own)
        (hkept : ∀ r ∈ s.findRecord n, r.step < step → r.stale = true)
        (hj : judgeClaim x n p step (s.heard x) = markIfBehind n step (object n x h reason (s.heard x))) : objecting h reason own := by
      intro hroom
      rw [hexec, hj, object_room (by exact hr.2) (by exact hroom), markIfBehind_kept (by exact hkept), show (s.heard x).knownStep n = own from hown]
      rfl
    have htaken {r : Record} (hcl : s.isClosed n = false) (hf : s.findRecord n = some r) (hfree : r.custody = .free ∨ r.taker = some x)
        (hle : r.step ≤ step) : judgeClaim x n p step (s.heard x) = markIfBehind n step { s.heard x with tickets := taken } := by
      rw [judgeClaim_record hlinked (by exact hcl) (by exact hf), judgeAgainstRecord_free step hfree, if_neg (Nat.not_lt.2 hle),
        takenBy_eq (by exact hf) (free_or_taken_not_own hfree)]
      rfl
    have hfound {r : Record} (hf : s.findRecord n = some r) :
        ({ s.heard x with tickets := taken } : State).findRecord n = some { r with custody := .taken x p } :=
      findRecord_held (s := s) x rfl hf
    have hkept {r : Record} (hf : s.findRecord n = some r) (hle : step ≤ r.step) :
        ∀ q ∈ s.findRecord n, q.step < step → q.stale = true := fun q hq hb =>
      absurd (Option.some.inj (hf.symm.trans hq) ▸ hle) (Nat.not_le.2 hb)
    have hnone (hf : s.findRecord n = none) : ∀ q ∈ s.findRecord n, q.step < step → q.stale = true := fun q hq =>
      nomatch hf.symm.trans hq
    refine ⟨fun r hcl hf hfree => ⟨fun he => ?_, fun hb hst => ?_, fun hb hst hp hroom => ?_, fun ha => ?_⟩,
      fun r hcl hf hle => ⟨fun y hy hyx => ?_, fun slot q hq => ?_, fun slot q hq hph => ?_, fun slot q hq hph ha => ?_⟩,
      fun hcl hf he => ?_, fun hcl hf he => ?_, fun e hf he => ⟨fun hl => ?_, fun hcl hh ha => ?_, fun hcl hh hle => ?_, fun hcl h0 hx => ?_⟩,
      fun r q hcl hf he hroom => ?_⟩
    · rw [hexec, htaken hcl hf hfree (Nat.le_of_eq he), markIfBehind_record (hfound hf) (fun hb => absurd he (Nat.ne_of_lt hb))]
    · rw [hexec, htaken hcl hf hfree (Nat.le_of_lt hb), markIfBehind_record (hfound hf) (fun _ => hst)]
    · have hno : ∀ q ∈ s.payOp, q.target = n → q.offer = none := by
        rw [hp]
        exact fun q hq => nomatch hq
      rw [hexec, htaken hcl hf hfree (Nat.le_of_lt hb), markIfBehind_marks (hfound hf) hb hst hno,
        sendAsk_room (by simp [State.linkHolds, modifyRecord, State.onTickets, State.heard, hr.2]) (by exact hroom)]
      rfl
    · refine hobject (knownStep_record hf) (hkept hf (Nat.le_of_lt ha)) ?_
      rw [judgeClaim_record hlinked (by exact hcl) (by exact hf), judgeAgainstRecord_free step hfree, if_pos ha]
    · refine hobject (knownStep_record hf) (hkept hf hle) ?_
      rw [judgeClaim_record hlinked (by exact hcl) (by exact hf), judgeAgainstRecord_taken step hy hyx]
    · refine hobject (knownStep_record hf) (hkept hf hle) ?_
      rw [judgeClaim_record hlinked (by exact hcl) (by exact hf), judgeAgainstRecord_held step hq]
      rfl
    · refine hobject (knownStep_record hf) (hkept hf hle) ?_
      rw [judgeClaim_record hlinked (by exact hcl) (by exact hf), judgeAgainstRecord_delivered step hq (by cases slot <;> exact hph)]
      rfl
    · refine hobject (knownStep_record hf) (hkept hf hle) ?_
      rw [judgeClaim_record hlinked (by exact hcl) (by exact hf), judgeAgainstRecord_queued step hq (by cases slot <;> exact hph), if_pos ha]
    · exact hobject (knownStep_none hf he) (hnone hf) (judgeClaim_closed hlinked (by exact hcl))
    · rw [hexec, judgeClaim_unknown hlinked (by exact hcl) (by exact hf) (by exact he), markIfBehind_none (by exact hf)]
    · refine hobject (knownStep_entry hf he) (hnone hf) (judgeClaim_closed hlinked ?_)
      exact isClosed_of_entry (s := s) he hl
    · refine hobject (knownStep_entry hf he) (hnone hf) ?_
      rw [judgeClaim_entry hlinked (by exact hcl) (by exact hf) (by exact he), judgeAgainstEntry_free hh, if_pos ha]
    · rw [hexec, judgeClaim_entry hlinked (by exact hcl) (by exact hf) (by exact he), judgeAgainstEntry_free hh,
        if_neg (Nat.not_lt.2 hle), setHolder_speaks (by exact he), markIfBehind_none (by exact hf)]
      rfl
    · refine hobject (knownStep_entry hf he) (hnone hf) ?_
      rw [judgeClaim_entry hlinked (by exact hcl) (by exact hf) (by exact he), judgeAgainstEntry_other h0 hx]
    · intro withdrawn
      obtain rfl := findRecord_number hf
      have hjudge {slot : SlotId} (hq : r.custody = .claiming slot q) (hph : (s.claimTimer slot).phase = .queued) :
          judgeClaim x r.number p step (s.heard x) = markIfBehind r.number step (endOp slot .lost (some .withdrawn) x
            { withdrawClaim slot (s.heard x) with tickets := s.tickets.handedOver r (.taken x p) x (s.roleKeeps r) }) := by
        rw [judgeClaim_record hlinked (by exact hcl) (by exact hf), judgeAgainstRecord_queued step hq (by cases slot <;> exact hph),
          if_neg (by omega), takenBy_own (by exact hf) (by rw [hq]; rfl)]
        rfl
      have hsame {u : State} (hu : u.tickets = s.tickets.handedOver r (.taken x p) x (s.roleKeeps r)) :
          markIfBehind r.number step u = u := by
        refine markIfBehind_kept fun q hq hb => ?_
        rw [findRecord_handedOver hu hf q hq] at hb
        exact absurd he (by exact Nat.ne_of_lt hb)
      refine ⟨fun o hq hph hw ht => ?_, fun o hq hph hp ht => ?_⟩
      · rw [hexec, hjudge hq hph, endOp_weigh (o := o) (by exact hw) ht, postNotice_room (by exact hroom), hsame rfl]
        rfl
      · rw [hexec, hjudge hq hph, endOp_pay (o := o) (by exact hp), postNotice_room (by exact hroom), hsame rfl,
          Printer.withoutJob_eq, ht]
        rfl
  · intro c judged newlyStale stale
    have hexec : exec c s = .next (settle (judgeClaim x n p step (s.heardFrom x))) := claim_heard p hc h1 h15 hs1 hs hstep hr
    have hoffer' (k : Tickets) : ∀ q ∈ ({ s.heardFrom x with tickets := k } : State).payOp, q.target = n → q.offer = none := hoffer
    refine ⟨fun hdown => ?_, fun hunread => ?_⟩
    · have hheard : s.heardFrom x = s.heard x := heardFrom_eq_heard (by rw [hdown]; decide) (by rw [hdown]; decide)
      rw [hheard] at hexec
      have hlinked : ¬ ((s.heard x).link.state = .joining ∨ (s.heard x).link.state = .silent) := by
        rw [show (s.heard x).link.state = s.link.state from rfl, hdown]
        decide
      have hobject (h : Nat) (reason : ObjectReason) : object n x h reason (s.heard x) = s.heard x :=
        object_silent (by exact fun h => nomatch hdown.symm.trans h) (by exact fun h => nomatch hdown.symm.trans h)
      refine ⟨fun r hf => ?_, fun hf => ⟨fun h => ?_, fun e hcl he => ?_⟩⟩
      · intro after free
        have hafter {k : Tickets} {q : Custody}
            (hj : judgeClaim x n p step (s.heard x) = markIfBehind n step { s.heard x with tickets := k })
            (hk : ({ s.heard x with tickets := k } : State).findRecord n = some { r with custody := q }) : after k := by
          refine ⟨fun hnew => ?_, fun hold => ?_⟩
          · show exec c s = _
            rw [hexec, hj, markIfBehind_marks hk hnew.1 hnew.2 (hoffer' k),
              sendAsk_holds (by simp [State.linkHolds, modifyRecord, State.onTickets, State.heard, hdown])]
            rfl
          · show exec c s = _
            rw [hexec, hj, markIfBehind_record hk fun hb => Bool.of_not_eq_false fun hst => hold ⟨hb, hst⟩]
            rfl
        have hsame (hj : s.isClosed n = false → judgeAgainstRecord x n p step r (s.heard x) = s.heard x) : after s.tickets := by
          refine hafter (q := r.custody) ?_ hf
          cases hcl : s.isClosed n with
          | true =>
            rw [judgeClaim_closed hlinked (by exact hcl), hobject]
            rfl
          | false =>
            rw [judgeClaim_record hlinked (by exact hcl) (by exact hf), hj hcl]
            rfl
        refine ⟨fun hfree hle => ?_, fun hfree ha => ?_, fun hcl => ?_, fun y hy hyx => ?_, fun slot q hq => ?_, fun slot q hq hph => ?_⟩
        · refine hafter ?_ (findRecord_held (s := s) x rfl hf)
          rw [judgeClaim_record hlinked (by exact hfree.1) (by exact hf), judgeAgainstRecord_free step hfree.2,
            if_neg (Nat.not_lt.2 hle), takenBy_eq (by exact hf) (free_or_taken_not_own hfree.2)]
          rfl
        · exact hsame fun _ => by rw [judgeAgainstRecord_free step hfree.2, if_pos ha, hobject]
        · exact hsame fun h => absurd (h.symm.trans hcl) (by decide)
        · exact hsame fun _ => by rw [judgeAgainstRecord_taken step hy hyx, hobject]
        · exact hsame fun _ => by rw [judgeAgainstRecord_held step hq, hobject]
        · refine hsame fun _ => ?_
          by_cases hqueued : (s.claimTimer slot).phase = .queued
          · rw [judgeAgainstRecord_queued step hq (by cases slot <;> exact hqueued), if_pos (hph.resolve_left (Classical.not_not.2 hqueued)), hobject]
          · rw [judgeAgainstRecord_delivered step hq (by cases slot <;> exact hqueued), hobject]
      · show exec c s = _
        cases hcl : s.isClosed n with
        | true =>
          rw [hexec, judgeClaim_closed hlinked (by exact hcl), hobject, markIfBehind_none (by exact hf)]
          rfl
        | false =>
          have he : s.regEntry n = none := h.resolve_left (by rw [hcl]; decide)
          rw [hexec, judgeClaim_unknown hlinked (by exact hcl) (by exact hf) (by exact he), markIfBehind_none (by exact hf)]
          rfl
      · intro free
        have hj := judgeClaim_entry (x := x) (p := p) (step := step) (s := s.heard x) hlinked hcl hf he
        refine ⟨fun hh hle => ?_, fun h => ?_⟩
        · show exec c s = _
          rw [hexec, hj, judgeAgainstEntry_free hh, if_neg (Nat.not_lt.2 hle), setHolder_speaks (by exact he),
            markIfBehind_none (by exact hf)]
          rfl
        · have hsame : judgeAgainstEntry x n step e (s.heard x) = s.heard x := by
            by_cases hh : free
            · rw [judgeAgainstEntry_free hh, if_pos (h.resolve_left (Classical.not_not.2 hh)), hobject]
            · rw [judgeAgainstEntry_other (fun h0 => hh (.inl h0)) (fun hx => hh (.inr hx)), hobject]
          show exec c s = _
          rw [hexec, hj, hsame, markIfBehind_none (by exact hf)]
          rfl
    · rw [judgeClaim_unread (by exact hunread), heardFrom_unread hunread] at hexec
      refine ⟨fun hf => ?_, fun r hf => ⟨fun hold => ?_, fun hnew => ⟨fun hlost => ?_, fun hjoin hroom => ?_⟩⟩⟩
      · show exec c s = _
        rw [hexec, markIfBehind_none (by exact hf)]
        rfl
      · show exec c s = _
        rw [hexec, markIfBehind_record (by exact hf) fun hb => Bool.of_not_eq_false fun hst => hold ⟨hb, hst⟩]
        rfl
      · have hunsent (u : State) (hu : u.link.state = s.link.state) (ho : u.occupied = s.occupied) : sendAsk n r.step u = u := by
          rcases hlost with h | h
          · exact sendAsk_holds (by simp [State.linkHolds, hu, h])
          · exact sendAsk_full (by rw [ho]; exact h)
        show exec c s = _
        rw [hexec, markIfBehind_marks (by exact hf) hnew.1 hnew.2 (by exact hoffer), hunsent _ (by rfl) (by rfl)]
        rfl
      · show exec c s = _
        rw [hexec, markIfBehind_marks (by exact hf) hnew.1 hnew.2 (by exact hoffer),
          sendAsk_room (by simp [State.linkHolds, modifyRecord, State.onTickets, State.heard, hjoin]) (by exact hroom)]
        rfl

end


section
/-! A slot's operation on a ticket ends, whichever slot it is, and the judging of a peer's OBJECT. -/

namespace Sys2Proof.Machine

/-! ### The slot that works on a ticket (R45, R51, R140) -/

/-- The slot works on the ticket, with or without a closing place. -/
def State.slotWorks (slot : SlotId) (n : TicketNo) (closing : Bool) (s : State) : Prop :=
  match slot with
  | .weigh => ∃ o, s.weigh = some o ∧ o.target = some n ∧ o.closing = closing
  | .pay => ∃ o, s.payOp = some o ∧ o.target = n ∧ o.closing = closing

/-- The slot is IDLE, its timer ENDED, its placeholder gone. -/
def State.slotEnded (slot : SlotId) (s : State) : State :=
  match slot with
  | .weigh => { s with
      weigh := none
      scale := { s.scale with context := none }
      weighTimer := { s.weighTimer with phase := .ended, count := none } }
  | .pay => { s with
      payOp := none
      payTimer := { s.payTimer with phase := .ended, count := none }
      printer := s.printer.withoutJob (s.payOp.bind PayOp.placeholder) }

section
variable {slot : SlotId} {n : TicketNo} {b : Bool} {s : State} (h : s.slotWorks slot n b)
include h

theorem endOp_works (outcome : Result) (loss : Option LossReason) (holder : Nat) : endOp slot outcome loss holder s =
    postNotice (.done slot outcome (some n) loss holder 0) (s.slotEnded slot) := by
  cases slot with
  | weigh =>
    obtain ⟨o, hw, ht, -⟩ := h
    exact endOp_weigh hw ht outcome loss holder
  | pay =>
    obtain ⟨o, hp, rfl, -⟩ := h
    rw [endOp_pay hp, State.slotEnded, hp]
    rfl

theorem endHold_works {r : Record} (hf : s.findRecord n = some r) (ho : r.custody.isOwn = true) (outcome : Result)
    (loss : Option LossReason) (holder : Nat) : endHold slot n outcome loss holder s =
      postNotice (.done slot outcome (some n) loss holder 0) (State.slotEnded slot { s with
        link := s.link.closing b (.release n), tickets := s.tickets.handedBack r (s.roleKeeps r) }) := by
  cases slot with
  | weigh =>
    obtain ⟨o, hw, ht, rfl⟩ := h
    rw [endHold_weigh hw ht hf ho, State.weighReleased, findRecord_number hf]
    rfl
  | pay =>
    obtain ⟨o, hp, rfl, rfl⟩ := h
    rw [endHold_pay hp rfl hf ho, State.payReleased, findRecord_number hf, State.slotEnded, hp]
    rfl

/-- The closing place of an operation that has ended is given back. -/
theorem slotEnded_closingPlaces : (s.slotEnded slot).closingPlaces + b.toNat = s.closingPlaces := by
  cases slot with
  | weigh =>
    obtain ⟨o, hw, -, rfl⟩ := h
    simp only [State.closingPlaces, State.slotEnded, hw]
    omega
  | pay =>
    obtain ⟨o, hp, -, rfl⟩ := h
    simp only [State.closingPlaces, State.slotEnded, hp]
    omega

end

/-! ### Records in a changed table -/

theorem find_map_record {n : TicketNo} {f : Record → Record} (hf : ∀ q, (f q).number = q.number) (l : List Record) :
    (l.map (fun q => if q.number = n then f q else q)).find? (fun q => decide (q.number = n)) =
      (l.find? (fun q => decide (q.number = n))).map f := by
  have hid (q : Record) : (if q.number = n then f q else q).number = q.number := by split <;> simp [hf]
  rw [List.find?_map, show ((fun q : Record => decide (q.number = n)) ∘ fun q => if q.number = n then f q else q) =
    (fun q => decide (q.number = n)) from funext fun q => by simp only [Function.comp_apply, hid]]
  cases hq : l.find? (fun q => decide (q.number = n)) with
  | none => rfl
  | some q => exact congrArg some (if_pos (by simpa using List.find?_some hq))

theorem findRecord_modify {n : TicketNo} {f : Record → Record} (hf : ∀ q, (f q).number = q.number) (s : State) :
    (modifyRecord n f s).findRecord n = (s.findRecord n).map f := find_map_record hf _

theorem findRecord_handedOver_kept {r : Record} {c : Custody} {h : Nat} {kept : Prop} [Decidable kept] {s u : State} (hk : kept)
    (hu : u.tickets.table = (s.tickets.handedOver r c h kept).table) (hf : s.findRecord r.number = some r) :
    u.findRecord r.number = some { r with custody := c } := by
  have htable : u.tickets.table = s.tickets.table.map (fun x => if x.number = r.number then { x with custody := c } else x) :=
    hu.trans (if_pos hk)
  exact (congrArg (List.find? _) htable).trans (findRecord_custody c hf)

theorem findRecord_closedAs {n : TicketNo} {c : Closure} {s u : State} (hu : u.tickets = s.tickets.closedAs n c) :
    u.findRecord n = none := by
  rw [State.findRecord, hu]
  exact List.find?_eq_none.2 fun q hq => by simpa using (List.mem_filter.1 hq).2

/-! ### What an OBJECT is matched against (R126) -/

theorem subjectIn_iff {slot : SlotId} {n : TicketNo} {phases : List Phase} {s : State} : s.subjectIn slot n phases = true ↔
    (∃ u, (s.claimTimer slot).subject = some u ∧ u.ticket = n) ∧ (s.claimTimer slot).phase ∈ phases := by
  unfold State.subjectIn
  cases (s.claimTimer slot).subject with
  | none => simp
  | some u => simp

theorem subjectIn_false {slot : SlotId} {n : TicketNo} {phases : List Phase} {s : State}
    (h : ∀ u ∈ (s.claimTimer slot).subject, u.ticket = n → (s.claimTimer slot).phase ∉ phases) :
    s.subjectIn slot n phases = false :=
  Bool.eq_false_iff.2 fun hc => by
    obtain ⟨⟨u, hu, hn⟩, hp⟩ := subjectIn_iff.1 hc
    exact h u hu hn hp

theorem objected_weigh {n : TicketNo} {s : State} (h : s.subjectIn .weigh n [.window, .granted] = true) :
    s.objected n = some (.weigh, s.weighTimer.phase) ∧ s.holdsNone n = false := by
  rw [State.objected, if_pos h, State.holdsNone, h]
  exact ⟨rfl, rfl⟩

theorem objected_pay {n : TicketNo} {s : State} (hw : s.subjectIn .weigh n [.window, .granted] = false)
    (h : s.subjectIn .pay n [.window, .granted] = true) :
    s.objected n = some (.pay, s.payTimer.phase) ∧ s.holdsNone n = false := by
  rw [State.objected, if_neg (by simp [hw]), if_pos h, State.holdsNone, hw, h]
  exact ⟨rfl, rfl⟩

theorem objected_committed {n : TicketNo} {s : State} (hph : s.weighTimer.phase = .committed)
    (hsub : ∃ u, s.weighTimer.subject = some u ∧ u.ticket = n) (hpay : s.payTimer.subject = none) :
    s.objected n = some (.weigh, .committed) := by
  have hphase : (s.claimTimer .weigh).phase = .committed := hph
  have hweigh : s.subjectIn .weigh n [.window, .granted] = false := subjectIn_false fun _ _ _ => by rw [hphase]; decide
  have hpayNone : s.subjectIn .pay n [.window, .granted] = false :=
    subjectIn_false fun _ hu => absurd (hpay.symm.trans hu) (Option.some_ne_none _).symm
  rw [State.objected, hweigh, hpayNone, if_neg Bool.false_ne_true, if_neg Bool.false_ne_true,
    if_pos (subjectIn_iff.2 ⟨(by exact hsub), by rw [hphase]; decide⟩)]

theorem subjectPurpose_eq {slot : SlotId} {u : Subject} {s : State} (h : (s.claimTimer slot).subject = some u) :
    s.subjectPurpose slot = u.purpose := by
  rw [State.subjectPurpose, h]

theorem endByClosure_idle {slot : SlotId} {n : TicketNo} {s : State} (h : s.subjectIn slot n [.queued, .window, .granted] = false) :
    endByClosure slot n s = s := by
  rw [endByClosure, h]
  rfl

/-- An OBJECT that names this station as holder of what it claims is not disowned. -/
theorem judgeObject_own {o h step : Nat} {n : TicketNo} {slot : SlotId} {reason : ObjectReason} {s : State}
    (hn : s.holdsNone n = false) :
    (s.objected n = some (slot, .window) → judgeObject o n s.myId h reason step s =
      markIfBehind n step (obeyInWindow slot n (s.subjectPurpose slot) h reason s)) ∧
    (s.objected n = some (slot, .granted) → judgeObject o n s.myId h reason step s =
      markIfBehind n step (obeyInHold slot n h reason s)) := by
  have hno : ¬ (reason = .held ∧ h = s.myId ∧ s.holdsNone n = true) := fun hc => absurd hc.2.2 (by simp [hn])
  constructor <;> intro hobj <;> simp only [judgeObject, if_true, hobj, if_neg hno]

/-! ### An OBJECT that is obeyed (R126, R127) -/

/-- The ticket store once the record is yielded to a peer, or freed where the holder is none. -/
def State.yielded (r : Record) (p : Purpose) (h : Nat) (s : State) : Tickets :=
  if 1 ≤ h ∧ h ≠ s.myId then s.tickets.handedOver r (.taken h p) h (s.roleKeeps r)
  else s.tickets.handedOver r .free 0 (s.roleKeeps r)

section
variable {slot : SlotId} {n : TicketNo} {b : Bool} {r : Record} {s : State} (hwork : s.slotWorks slot n b)
  (hf : s.findRecord n = some r) (ho : r.custody.isOwn = true) (hroom : s.notices.queue.length < 16)
include hwork hroom

/-- The operation ends LOST once the ticket store is `k` and the link `l`. -/
def State.slotLost (slot : SlotId) (n : TicketNo) (why : LossReason) (holder : Nat) (k : Tickets) (l : Link) (s : State) : State :=
  State.told (.done slot .lost (some n) (some why) holder 0) (State.slotEnded slot { s with tickets := k, link := l })

theorem endOp_lost (k : Tickets) (why : LossReason) (holder : Nat) :
    endOp slot .lost (some why) holder { s with tickets := k } = s.slotLost slot n why holder k s.link := by
  have hwork' : State.slotWorks slot n b { s with tickets := k } := by cases slot <;> exact hwork
  have hn : (State.slotEnded slot { s with tickets := k }).notices = s.notices := by cases slot <;> rfl
  rw [endOp_works hwork', postNotice_told (by rw [hn]; exact hroom)]
  rfl

include hf ho

theorem endHold_lost (why : LossReason) (holder : Nat) : endHold slot n .lost (some why) holder s =
    s.slotLost slot n why holder (s.tickets.handedOver r .free 0 (s.roleKeeps r)) (s.link.closing b (.release n)) := by
  have hn (k : Tickets) (l : Link) : (State.slotEnded slot { s with tickets := k, link := l }).notices = s.notices := by
    cases slot <;> rfl
  rw [endHold_works hwork hf ho, postNotice_told (by rw [hn]; exact hroom)]
  rfl

theorem obeyInWindow_held (p : Purpose) (h : Nat) : obeyInWindow slot n p h .held s = s.slotLost slot n .held h
    (s.yielded r p h) s.link := by
  have hyield : yieldTo n h p s = { s with tickets := s.yielded r p h } := by
    have hpeer : s.isPeerId h = true ↔ 1 ≤ h ∧ h ≠ s.myId := by
      simp only [State.isPeerId, Bool.and_eq_true, decide_eq_true_eq, Nat.one_le_iff_ne_zero]
    by_cases hp : 1 ≤ h ∧ h ≠ s.myId
    · rw [yieldTo, if_pos (hpeer.2 hp), takenBy_own hf ho, State.yielded, if_pos hp]
    · rw [yieldTo, if_neg (fun hc => hp (hpeer.1 hc)), handOver_eq 0 hf ho rfl, State.yielded, if_neg hp]
  simp only [obeyInWindow]
  rw [hyield]
  exact endOp_lost hwork hroom _ .held h

theorem obeyInWindow_stale (p : Purpose) (h : Nat) : obeyInWindow slot n p h .stale s =
    markStale n (s.slotLost slot n .stale 0
      { s.tickets.handedOver r .free 0 (s.roleKeeps r) with register := s.tickets.register } s.link) := by
  simp only [obeyInWindow]
  rw [setCustody_free hf ho]
  exact congrArg (markStale n) (endOp_lost hwork hroom _ .stale 0)

theorem obeyInHold_held (h : Nat) : obeyInHold slot n h .held s = s.slotLost slot n .held h
    (s.tickets.handedOver r .free 0 (s.roleKeeps r)) (s.link.closing b (.release n)) :=
  endHold_lost hwork hf ho hroom .held h

theorem obeyInHold_stale (h : Nat) : obeyInHold slot n h .stale s = markStale n (s.slotLost slot n .stale 0
    (s.tickets.handedOver r .free 0 (s.roleKeeps r)) (s.link.closing b (.release n))) :=
  congrArg (markStale n) (endHold_lost hwork hf ho hroom .stale 0)

omit hf ho

/-- CLOSED: the ticket is closed before the operation ends, and no RELEASE goes out. -/
theorem endOp_closed (hother : ∀ other, other ≠ slot → s.subjectIn other n [.queued, .window, .granted] = false) :
    endAllByClosure n (endOp slot .lost (some .closed) 0 (closeTicket n .elsewhere s)) =
      s.slotLost slot n .closed 0 (s.tickets.closedAs n .elsewhere) s.link := by
  rw [closeTicket_eq, endOp_lost hwork hroom]
  have hidle (other : SlotId) : State.subjectIn other n [.queued, .window, .granted]
      (s.slotLost slot n .closed 0 (s.tickets.closedAs n .elsewhere) s.link) = false := by
    by_cases hs : other = slot
    · subst hs
      refine subjectIn_false fun u _ _ => ?_
      cases other <;> exact fun hmem => by simp [State.slotLost, State.told, State.slotEnded, State.claimTimer] at hmem
    · have h := hother other hs
      cases slot with
      | weigh =>
        obtain rfl : other = .pay := by cases other <;> trivial
        exact h
      | pay =>
        obtain rfl : other = .weigh := by cases other <;> trivial
        exact h
  rw [endAllByClosure, endByClosure_idle (hidle .weigh), endByClosure_idle (hidle .pay)]

end

/-- An OBJECT in the claim window, by its reason. -/
theorem judgeObject_window {slot : SlotId} {n : TicketNo} {b : Bool} {r : Record} {s : State} {o c h step : Nat} {p : Purpose}
    (hc : c = s.myId)
    (hobj : s.objected n = some (slot, .window)) (hnone : s.holdsNone n = false) (hp : s.subjectPurpose slot = p)
    (hwork : s.slotWorks slot n b) (hf : s.findRecord n = some r) (ho : r.custody.isOwn = true) (hroom : s.notices.queue.length < 16)
    (hother : ∀ other, other ≠ slot → s.subjectIn other n [.queued, .window, .granted] = false) :
    judgeObject o n c h .held step s =
      markIfBehind n step (s.slotLost slot n .held h (s.yielded r p h) (s.link.closing false (.release n))) ∧
    judgeObject o n c h .stale step s = markIfBehind n step (markStale n (s.slotLost slot n .stale 0
      { s.tickets.handedOver r .free 0 (s.roleKeeps r) with register := s.tickets.register } (s.link.closing false (.release n)))) ∧
    judgeObject o n c h .closed step s =
      markIfBehind n step (s.slotLost slot n .closed 0 (s.tickets.closedAs n .elsewhere) s.link) := by
  subst hc
  refine ⟨?_, ?_, ?_⟩ <;> rw [(judgeObject_own hnone).1 hobj]
  · rw [obeyInWindow_held hwork hf ho hroom, hp]
    rfl
  · rw [obeyInWindow_stale hwork hf ho hroom]
    rfl
  · exact congrArg (markIfBehind n step) (endOp_closed hwork hroom hother)

/-- An OBJECT in a hold before its commit, by its reason. -/
theorem judgeObject_hold {slot : SlotId} {n : TicketNo} {b : Bool} {r : Record} {s : State} {o c h step : Nat} (hc : c = s.myId)
    (hobj : s.objected n = some (slot, .granted)) (hnone : s.holdsNone n = false)
    (hwork : s.slotWorks slot n b) (hf : s.findRecord n = some r) (ho : r.custody.isOwn = true) (hroom : s.notices.queue.length < 16)
    (hother : ∀ other, other ≠ slot → s.subjectIn other n [.queued, .window, .granted] = false) :
    judgeObject o n c h .held step s = markIfBehind n step (s.slotLost slot n .held h
      (s.tickets.handedOver r .free 0 (s.roleKeeps r)) (s.link.closing b (.release n))) ∧
    judgeObject o n c h .stale step s = markIfBehind n step (markStale n (s.slotLost slot n .stale 0
      (s.tickets.handedOver r .free 0 (s.roleKeeps r)) (s.link.closing b (.release n)))) ∧
    judgeObject o n c h .closed step s =
      markIfBehind n step (s.slotLost slot n .closed 0 (s.tickets.closedAs n .elsewhere) s.link) := by
  subst hc
  refine ⟨?_, ?_, ?_⟩ <;> rw [(judgeObject_own hnone).2 hobj]
  · rw [obeyInHold_held hwork hf ho hroom]
  · rw [obeyInHold_stale hwork hf ho hroom]
  · exact congrArg (markIfBehind n step) (endOp_closed hwork hroom hother)

/-! ### What is judged after the operation has ended (R9, R100) -/

section
variable {slot : SlotId} {n : TicketNo} {b : Bool} {r : Record} {step : Nat} {why : LossReason} {holder : Nat} {k : Tickets} {l : Link}
  {s : State}

theorem slotLost_tickets : (s.slotLost slot n why holder k l).tickets = k := by cases slot <;> rfl

theorem slotLost_link : (s.slotLost slot n why holder k l).link = l := by cases slot <;> rfl

/-- A release takes the closing place of the operation that ends. -/
theorem slotLost_occupied (hwork : s.slotWorks slot n b) (hq : l = s.link ∨ l = s.link.closing b (.release n)) :
    (s.slotLost slot n why holder k l).occupied ≤ s.occupied := by
  have hplaces : (s.slotLost slot n why holder k l).closingPlaces = (s.slotEnded slot).closingPlaces := by cases slot <;> rfl
  have hended := slotEnded_closingPlaces hwork
  have hone : (s.link.closing true (.release n)).framesQueued = s.link.framesQueued + 1 := enqueue_framesQueued _ s
  rw [State.occupied, State.occupied, hplaces, slotLost_link]
  rcases hq with rfl | rfl
  · omega
  · cases b with
    | true =>
      rw [hone]
      simp only [Bool.toNat_true] at hended
      omega
    | false =>
      rw [show (s.link.closing false (.release n)).framesQueued = s.link.framesQueued from rfl]
      omega

/-- The record is freed, then marked stale, and its ASK queued. -/
theorem markStale_slotLost (hwork : s.slotWorks slot n b) (hup : s.link.state = .up)
    (hq : l = s.link ∨ l = s.link.closing b (.release n)) (hroom : s.occupied < 24)
    (hf : (s.slotLost slot n why holder k l).findRecord n = some r) (hst : r.stale = false)
    (hno : ∀ q ∈ (s.slotEnded slot).payOp, q.target = n → q.offer = none) :
    markStale n (s.slotLost slot n why holder k l) = s.slotLost slot n why holder
      { k with table := k.table.map (fun q => if q.number = n then { q with stale := true } else q) }
      { l with queue := placed (.single (.ask n r.step)) l.queue } := by
  have hpay : (s.slotLost slot n why holder k l).payOp = (s.slotEnded slot).payOp := by cases slot <;> rfl
  have hstate : l.state = .up := by rcases hq with rfl | rfl <;> exact hup
  have hmodify : modifyRecord n (fun r => { r with stale := true }) (s.slotLost slot n why holder k l) = s.slotLost slot n why holder
      { k with table := k.table.map (fun q => if q.number = n then { q with stale := true } else q) } l := by cases slot <;> rfl
  have hlinked : (s.slotLost slot n why holder
      { k with table := k.table.map (fun q => if q.number = n then { q with stale := true } else q) } l).linkHolds = false := by
    rw [State.linkHolds, slotLost_link, hstate]
    rfl
  rw [markStale_marks hf hst (by rw [hpay]; exact hno), hmodify,
    sendAsk_room hlinked (Nat.lt_of_le_of_lt (slotLost_occupied hwork hq) hroom)]
  cases slot <;> rfl

end

end Sys2Proof.Machine

open Sys2Proof Sys2Proof.Machine

/-- Settles O48: the slot's operation ends with the record freed or yielded, and only a record freed by STALE is then marked. -/
theorem objectReceived : Obligations.ObjectReceived := by
  intro x c h n step s hr hc h1 h15 hs1 hs hc1 hc15 hh hstep frame
  have hok : ticketOk n = true := ticketOk_iff.2 ⟨h1, h15, hs1, hs⟩
  have hid : (s.heard x).waitId = false := hr.1.2.2.2.2.1
  have hexec (reason : ObjectReason) : exec (frame reason) s = .next (settle (judgeObject x n c h reason step (s.heard x))) := by
    rw [← deliver_object hid]
    exact exec_reads (f := .object n c h reason step) hr hc (fun h => nomatch h) (by simp [Frame.inRange, hok, hc1, hc15, hh, hstep])
  refine ⟨fun sub hcm hh hph hsub hn hpay hf => ?_, ?_, fun r p hcm hf hcu hle => ?_⟩
  · obtain ⟨flags, notices, hl, -⟩ := latchEvent_shape .conflict (.conflict n x .held) (s.heard x)
    have hobj : (s.heard x).objected n = some (.weigh, .committed) :=
      objected_committed hph ⟨sub, hsub, hn⟩ hpay
    have hnotOwn : ¬ h = (s.heard x).myId := hh
    have hjudge : judgeObject x n c h .held step (s.heard x) =
        markIfBehind n step (latchEvent .conflict (.conflict n x .held) (s.heard x)) := by
      subst hcm
      simp only [judgeObject, show s.myId = (s.heard x).myId from rfl, if_true, hobj, hnotOwn, false_and, and_false, if_false]
      rfl
    rw [hexec, hjudge, markIfBehind_none (by rw [hl]; exact hf)]
  · intro obeyed given unclaimed yielded
    have hobeyed {slot : SlotId} {b released : Bool} {r : Record} {held freed : Tickets} {ended : State → State}
        (hwork : (s.heard x).slotWorks slot n b) (hreleased : released = false ∨ released = b) (hf : s.findRecord n = some r)
        (hle : step ≤ r.step)
        (hended : ∀ why holder k l, (s.heard x).slotLost slot n why holder k l = { ended (s.heard x) with
          tickets := k, link := l
          notices := { s.notices with
            queue := s.notices.queue ++ [(s.notices.seq, .done slot .lost (some n) (some why) holder 0)]
            seq := (s.notices.seq + 1) % 256 } })
        (hkeepsLink : (ended (s.heard x)).link = (s.heard x).link)
        (hsteps : ∀ q ∈ held.table.find? (fun q => decide (q.number = n)), q.step = r.step)
        (hfreed : freed.table = (s.tickets.handedOver r .free 0 (s.roleKeeps r)).table)
        (hno : ∀ q ∈ ((s.heard x).slotEnded slot).payOp, q.target = n → q.offer = none)
        (hheld : judgeObject x n c h .held step (s.heard x) = markIfBehind n step ((s.heard x).slotLost slot n .held h held
          ((s.heard x).link.closing released (.release n))))
        (hstale : judgeObject x n c h .stale step (s.heard x) = markIfBehind n step (markStale n
          ((s.heard x).slotLost slot n .stale 0 freed ((s.heard x).link.closing released (.release n)))))
        (hclosed : judgeObject x n c h .closed step (s.heard x) = markIfBehind n step ((s.heard x).slotLost slot n .closed 0
          (s.tickets.closedAs n .elsewhere) (s.heard x).link)) : obeyed slot r released held freed ended := by
      refine ⟨?_, fun hst hkeeps hroom => ?_, fun hnew hlen => ?_⟩
      · have hsame : markIfBehind n step ((s.heard x).slotLost slot n .held h held ((s.heard x).link.closing released (.release n))) =
            (s.heard x).slotLost slot n .held h held ((s.heard x).link.closing released (.release n)) := by
          refine markIfBehind_kept fun q hq hb => ?_
          rw [State.findRecord, slotLost_tickets] at hq
          rw [hsteps q hq] at hb
          omega
        rw [hexec, hheld, hsame, hended]
        rfl
      · obtain rfl := findRecord_number hf
        have hlink : (s.heard x).link.closing released (.release r.number) = (s.heard x).link ∨
            (s.heard x).link.closing released (.release r.number) = (s.heard x).link.closing b (.release r.number) :=
          hreleased.imp (fun h => by rw [h]; rfl) (fun h => by rw [h])
        have hfind := findRecord_handedOver_kept (c := .free) (h := 0) (u := (s.heard x).slotLost slot r.number .stale 0 freed
          ((s.heard x).link.closing released (.release r.number))) hkeeps (by rw [slotLost_tickets]; exact hfreed) hf
        have hmarked := markStale_slotLost hwork hr.2 hlink hroom hfind hst hno
        have hsame (l : Link) : markIfBehind r.number step ((s.heard x).slotLost slot r.number .stale 0 { freed with
            table := freed.table.map (fun q => if q.number = r.number then { q with stale := true } else q) } l) =
              (s.heard x).slotLost slot r.number .stale 0 { freed with
                table := freed.table.map (fun q => if q.number = r.number then { q with stale := true } else q) } l := by
          refine markIfBehind_kept fun q hq _ => ?_
          rw [State.findRecord, slotLost_tickets] at hq
          obtain ⟨_, -, rfl⟩ := Option.map_eq_some_iff.1
            ((find_map_record (f := fun q : Record => { q with stale := true }) (fun _ => rfl) freed.table).symm.trans hq)
          rfl
        rw [hexec, hstale, hmarked, hsame, hended]
        rfl
      · have hsame : markIfBehind n step ((s.heard x).slotLost slot n .closed 0 (s.tickets.closedAs n .elsewhere) (s.heard x).link) =
            (s.heard x).slotLost slot n .closed 0 (s.tickets.closedAs n .elsewhere) (s.heard x).link :=
          markIfBehind_none (findRecord_closedAs slotLost_tickets)
        refine ⟨_, by rw [hexec, hclosed, hsame, hended, ← hkeepsLink], rfl, ?_, rfl, ?_⟩
        · show closedWith n .elsewhere s.tickets.closed = _
          rw [closedWith_new (closedEntry_none_iff.1 hnew), if_neg (Nat.not_le.2 hlen)]
          rfl
        · rfl
    have hgivenSteps {r : Record} (hf : s.findRecord n = some r) (cu : Custody) (to_ : Nat) :
        ∀ q ∈ (given r cu to_).table.find? (fun q => decide (q.number = n)), q.step = r.step := by
      obtain rfl := findRecord_number hf
      intro q hq
      rw [findRecord_handedOver (u := { s with tickets := given r cu to_ }) rfl hf q hq]
    have hyieldedSteps {r : Record} (hf : s.findRecord n = some r) (p : Purpose) :
        ∀ q ∈ (yielded r p).table.find? (fun q => decide (q.number = n)), q.step = r.step := by
      simp only [yielded]
      split
      · exact hgivenSteps hf _ _
      · exact hgivenSteps hf _ _
    have hotherIdle {slot : SlotId} (h : ∀ u ∈ (s.claimTimer slot).subject, u.ticket = n →
        (s.claimTimer slot).phase = .committed ∨ (s.claimTimer slot).phase = .ended) {phases : List Phase}
        (hcommitted : Phase.committed ∉ phases) (hended : Phase.ended ∉ phases) : (s.heard x).subjectIn slot n phases = false := by
      have htimer : (s.heard x).claimTimer slot = s.claimTimer slot := by cases slot <;> rfl
      refine subjectIn_false fun u hu hun => ?_
      rw [htimer] at hu ⊢
      rcases h u hu hun with h | h <;> rw [h] <;> assumption
    have hslot {slot : SlotId} {b : Bool} {sub : Subject} {r : Record} {ended : State → State} (hcm : c = s.myId)
        (hpurpose : (s.heard x).subjectPurpose slot = sub.purpose)
        (hin : (s.claimTimer slot).phase ∈ [Phase.window, .granted] →
          (s.heard x).objected n = some (slot, (s.claimTimer slot).phase) ∧ (s.heard x).holdsNone n = false)
        (hwork : (s.heard x).slotWorks slot n b) (hf : s.findRecord n = some r) (hle : step ≤ r.step)
        (hroom : s.notices.queue.length < 16)
        (hother : ∀ other, other ≠ slot → (s.heard x).subjectIn other n [.queued, .window, .granted] = false)
        (hno : ∀ q ∈ ((s.heard x).slotEnded slot).payOp, q.target = n → q.offer = none)
        (hended : ∀ why holder k l, (s.heard x).slotLost slot n why holder k l = { ended (s.heard x) with
          tickets := k, link := l
          notices := { s.notices with
            queue := s.notices.queue ++ [(s.notices.seq, .done slot .lost (some n) (some why) holder 0)]
            seq := (s.notices.seq + 1) % 256 } })
        (hkeepsLink : (ended (s.heard x)).link = (s.heard x).link) :
        ((s.claimTimer slot).phase = .window → r.custody = .claiming slot sub.purpose →
          obeyed slot r false (yielded r sub.purpose) (unclaimed r) ended) ∧
        ((s.claimTimer slot).phase = .granted → r.custody = .held slot sub.purpose →
          obeyed slot r b (given r .free 0) (given r .free 0) ended) := by
      refine ⟨fun hph hcu => ?_, fun hph hcu => ?_⟩ <;> rw [hph] at hin <;> obtain ⟨hobj, hnone⟩ := hin (by decide) <;>
        have ho : r.custody.isOwn = true := by rw [hcu]; rfl
      · obtain ⟨hheld, hstale, hclosed⟩ := judgeObject_window (s := s.heard x) (o := x) (h := h) (step := step) hcm hobj hnone
          hpurpose hwork hf ho hroom hother
        exact hobeyed hwork (.inl rfl) hf hle hended hkeepsLink (hyieldedSteps hf _) rfl hno hheld hstale hclosed
      · obtain ⟨hheld, hstale, hclosed⟩ := judgeObject_hold (s := s.heard x) (o := x) (h := h) (step := step) hcm hobj hnone
          hwork hf ho hroom hother
        exact hobeyed hwork (.inr rfl) hf hle hended hkeepsLink (hgivenSteps hf _ _) rfl hno hheld hstale hclosed
    refine ⟨fun sub o r hcm hsub hn hpay hpayOp hw ht hf hle hroom => ?_, fun sub o r hcm hsub hn hweigh hp ht hf hle hroom => ?_⟩
    · intro ended
      refine hslot (slot := .weigh) hcm (subjectPurpose_eq hsub)
        (fun hmem => objected_weigh (subjectIn_iff.2 ⟨⟨sub, hsub, hn⟩, hmem⟩)) ⟨o, hw, ht, rfl⟩ hf hle hroom
        (fun other ho => ?_) (fun q hq he => absurd he (hpayOp q hq)) (fun _ _ _ _ => rfl) rfl
      obtain rfl : other = .pay := by cases other <;> trivial
      exact hotherIdle (slot := .pay) hpay (by decide) (by decide)
    · intro ended
      have hweighIdle {phases : List Phase} := hotherIdle (slot := .weigh) hweigh (phases := phases)
      refine hslot (slot := .pay) hcm (subjectPurpose_eq hsub)
        (fun hmem => objected_pay (hweighIdle (by decide) (by decide)) (subjectIn_iff.2 ⟨⟨sub, hsub, hn⟩, hmem⟩))
        ⟨o, hp, ht, rfl⟩ hf hle hroom (fun other ho => ?_) (fun q hq => nomatch hq) (fun why holder k l => ?_) rfl
      · obtain rfl : other = .weigh := by cases other <;> trivial
        exact hweighIdle (by decide) (by decide)
      · have hprinter : s.printer.withoutJob (s.payOp.bind PayOp.placeholder) = s.printer.withoutJob o.placeholder := by
          rw [hp]
          rfl
        rw [Printer.withoutJob_eq o.placeholder] at hprinter
        simp only [State.slotLost, State.slotEnded, ended, ← hprinter]
        rfl
  · have hf' : (s.heard x).findRecord n = some r := hf
    have hjudge : judgeObject x n c h .stale step (s.heard x) =
        markIfBehind n step (moveHolder n c 0 (freeTakenBy c n (s.heard x))) := by
      simp only [judgeObject, observeObject, show ¬ c = (s.heard x).myId from hcm, if_false, reduceCtorEq, false_and]
    have hmoved (l : List RegEntry) : l.map (fun e => if e.serial = n.serial then
          (if e.holder = c then { e with holder := 0 } else e) else e) =
        l.map (fun e => if e.serial = n.serial ∧ e.holder = c then { e with holder := 0 } else e) :=
      List.map_congr_left fun e _ => (ite_and_split ..).symm
    rw [freeTakenBy_holder hf' hcu, moveHolder, modifyEntry_eq, markIfBehind_kept] at hjudge
    · exact ⟨_, (hexec .stale).trans (congrArg (fun t => Host.Outcome.next (settle t)) hjudge), rfl, rfl,
        fun ho h0 => (if_pos ⟨ho, h0⟩).trans (hmoved _), rfl⟩
    · intro q hq hb
      obtain ⟨r', hr', rfl⟩ := Option.map_eq_some_iff.1 ((findRecord_modify (f := fun r : Record => { r with custody := .free })
        (fun _ => rfl) (s.heard x)).symm.trans hq)
      obtain rfl := Option.some.inj (hf'.symm.trans hr')
      exact absurd hle (Nat.not_le.2 hb)

end


section
/-! A peer's burst: its context, the register entry it brings up to date, and the record it stores or replaces. -/

namespace Sys2Proof.Machine

/-! ### The home register (R17) -/

/-- A complete burst changes an entry that is OPEN or COMPLETE, and no other. -/
theorem onBurst_eq (step : Nat) (life : Life) (e : RegEntry) : e.onBurst step life =
    if e.life = .opened ∨ e.life = .complete
    then { e with step := max e.step step, life := if e.step ≤ step then life.reg else e.life, holder := 0 } else e := by
  unfold RegEntry.onBurst
  cases e.life <;> rfl

theorem onBurst_isClosed {step : Nat} {life : Life} {e : RegEntry} (h : e.life.isClosed = false) :
    (e.onBurst step life).life.isClosed = false := by
  rw [RegEntry.onBurst, h, if_neg Bool.false_ne_true]
  show RegLife.isClosed (if e.step ≤ step then life.reg else e.life) = false
  split
  · cases life <;> rfl
  · exact h

theorem onBurst_serial (step : Nat) (life : Life) (e : RegEntry) : (e.onBurst step life).serial = e.serial := by
  rw [onBurst_eq]
  split <;> rfl

theorem find_map_entry {k : Nat} {f : RegEntry → RegEntry} (hf : ∀ e, (f e).serial = e.serial) (l : List RegEntry) :
    (l.map (fun e => if e.serial = k then f e else e)).find? (fun e => decide (e.serial = k)) =
      (l.find? (fun e => decide (e.serial = k))).map f := by
  have hid (e : RegEntry) : (if e.serial = k then f e else e).serial = e.serial := by split <;> simp [hf]
  rw [List.find?_map, show ((fun e : RegEntry => decide (e.serial = k)) ∘ fun e => if e.serial = k then f e else e) =
    (fun e => decide (e.serial = k)) from funext fun e => by simp only [Function.comp_apply, hid]]
  cases he : l.find? (fun e => decide (e.serial = k)) with
  | none => rfl
  | some e => exact congrArg some (if_pos (by simpa using List.find?_some he))

theorem regEntry_modifyEntry {t : TicketNo} {f : RegEntry → RegEntry} (hf : ∀ e, (f e).serial = e.serial) (s : State) :
    (modifyEntry t f s).regEntry t = (s.regEntry t).map f := by
  by_cases h : s.speaksFor t = true
  · have h' : (modifyEntry t f s).speaksFor t = true := by rw [modifyEntry, if_pos h]; exact h
    rw [State.regEntry, State.regEntry, if_pos h, if_pos h', modifyEntry, if_pos h]
    exact find_map_entry hf _
  · rw [modifyEntry, if_neg h, State.regEntry, if_neg h]
    rfl

theorem isClosed_onBurst {t : TicketNo} {step : Nat} {life : Life} {s : State} (h : s.isClosed t = false) :
    (modifyEntry t (RegEntry.onBurst step life) s).isClosed t = false := by
  have hentry : (modifyEntry t (RegEntry.onBurst step life) s).closedEntry t = s.closedEntry t := by rw [modifyEntry_eq]; rfl
  rw [State.isClosed, Bool.or_eq_false_iff] at h ⊢
  rw [hentry, regEntry_modifyEntry (onBurst_serial step life)]
  refine ⟨h.1, ?_⟩
  cases he : s.regEntry t with
  | none => rfl
  | some e =>
    rw [he] at h
    exact onBurst_isClosed h.2

/-! ### The record a burst describes is stored (R98, R99) -/

/-- The register once a burst of the ticket, at this step and life, is complete. -/
def State.burstRegister (t : TicketNo) (step : Nat) (life : Life) (s : State) : List RegEntry :=
  if t.home = s.tickets.owner ∧ s.tickets.owner ≠ 0
  then s.tickets.register.map (fun e => if e.serial = t.serial then e.onBurst step life else e) else s.tickets.register

section
variable {c : Reassembly} {s : State}

theorem storeBurst_untaken (hclosed : s.isClosed c.head.ticket = false)
    (hfree : ∀ r ∈ s.findRecord c.head.ticket, r.taker ≠ some c.peer) :
    let u := { s with tickets := { s.tickets with register := s.burstRegister c.head.ticket c.head.step c.head.life } }
    (s.findRecord c.head.ticket = none → storeBurst c s = insertBurst c u) ∧
    (∀ old, s.findRecord c.head.ticket = some old → old.step < c.head.step → storeBurst c s = replaceRecord c old u) := by
  intro u
  have hu : modifyEntry c.head.ticket (RegEntry.onBurst c.head.step c.head.life) s = u := modifyEntry_eq _ _ s
  have hopen : ¬ u.isClosed c.head.ticket = true := by rw [← hu, isClosed_onBurst hclosed]; exact Bool.false_ne_true
  have hfind : u.findRecord c.head.ticket = s.findRecord c.head.ticket := rfl
  refine ⟨fun hf => ?_, fun old hf hlt => ?_⟩ <;> unfold storeBurst <;>
    simp only [freeTakenBy_other hfree, hu, if_neg hopen, hfind, hf]
  rw [if_pos (.inl hlt)]

/-- At a station of both roles every record is kept. -/
theorem keeps_both (h : s.role = some .both) (r : Record) : s.keeps r = true := by
  rw [State.keeps, h]
  cases hl : r.life <;> simp [passesFilter]

theorem insertBurst_both (hrole : s.role = some .both) (hroom : s.tableRoom = true) (hlife : c.head.life = .opened) :
    insertBurst c s = appendRecord (c.toRecord [] .free) s := by
  have hopen : decide ((c.toRecord [] .free).life = .complete) = false := by
    rw [show (c.toRecord [] .free).life = .opened from hlife]; rfl
  simp only [insertBurst, if_pos (keeps_both hrole (c.toRecord [] .free)), if_pos hroom, hopen, postPayable, Bool.false_and,
    Bool.false_eq_true, if_false]

theorem replaceRecord_both {old : Record} (hrole : s.role = some .both) (hlife : c.head.life = .opened) (hpay : s.payOp = none) :
    replaceRecord c old s = modifyRecord c.head.ticket (fun _ => c.toRecord old.lines old.custody) s := by
  have hopen : decide ((c.toRecord old.lines old.custody).life = .complete) = false := by
    rw [show (c.toRecord old.lines old.custody).life = .opened from hlife]; rfl
  have hfilter (u : State) (hu : u.role = some .both) : applyFilter c.head.ticket u = u := by
    unfold applyFilter
    split
    · rw [keeps_both hu, Bool.or_true, if_pos rfl]
    · rfl
  have hoffer (u : State) (hu : u.payOp = none) : endOffer c.head.ticket .changed u = u :=
    endOffer_none fun q hq => nomatch hu.symm.trans hq
  unfold replaceRecord
  simp only [hopen, postPayable, Bool.false_and, Bool.false_eq_true, if_false]
  rw [show (c.toRecord old.lines old.custody).number = c.head.ticket from rfl, hfilter _ (by exact hrole),
    hoffer _ (by exact hpay), ite_self]

/-! ### The context (R96, R97) -/

theorem collect_whole (hw : c.isWhole = true) (hcon : c.consistent = true) (hid : s.waitId = false) :
    collect c s = storeBurst c (dropContext c.peer s) := by
  rw [collect, if_pos hw, acceptBurst, if_pos hcon, if_neg]
  rw [show (dropContext c.peer s).waitId = s.waitId from rfl, hid]
  exact Bool.false_ne_true

theorem collect_part (hw : c.isWhole = false) : collect c s = setContext c s :=
  if_neg (by rw [hw]; exact Bool.false_ne_true)

theorem reassemble_head {x : Nat} {h : HeadValues} (hc : s.contextOf x = none) : reassemble x (.head h) s =
    collect { peer := x, head := h, lines := [], tag := none, seller := none, timer := 200 } s := by
  simp only [reassemble, breakContext, hc]
  rfl

theorem reassemble_next {x : Nat} {f : Frame} {c' : Reassembly} (hk : f.kind ≠ .head) (hc : s.contextOf x = some c)
    (ha : c.add f = some c') : reassemble x f s = collect c' s := by
  cases f
  case head => exact absurd rfl hk
  all_goals simp only [reassemble, hc, ha]

theorem consistent_opened (hlife : c.head.life = .opened) (hstep : c.head.step = c.lines.length) (h8 : c.head.step ≤ 8)
    (hsum : ((c.lines.map Line.net).sum : Int) = (c.head.grossIn : Int) - c.head.lastWeight) : c.consistent = true := by
  have hsum' := (cast_sum_map Line.net c.lines).symm.trans hsum
  simp [Reassembly.consistent, hlife, hstep, hsum', Config.lineCapacity]
  omega

end

end Sys2Proof.Machine

open Sys2Proof Sys2Proof.Machine

/-- Settles O50: a frame either leaves the context open, or completes a consistent burst, whose record is inserted or replaces
the stored one. -/
theorem burstRebuildsTheRecord : Obligations.BurstRebuildsTheRecord := by
  intro x h s hr hrole hrange hclosed life register contexts record
  have hid : (s.heard x).waitId = false := hr.1.2.2.2.2.1
  have hexec (f : Frame) (hf : f.inRange = true) (hd : ∀ u, deliver x f u = u) :
      exec (f.received x) s = .next (settle (reassemble x f (s.heard x))) := by
    rw [exec_hears hr.1 hf, hd, heardFrom_eq_heard (by rw [hr.2]; decide) (by rw [hr.2]; decide)]
  have hregister : s.burstRegister h.ticket h.step h.life = register := by
    simp only [State.burstRegister, register]
    refine ite_congr rfl (fun _ => List.map_congr_left fun e _ => ?_) (fun _ => rfl)
    rw [onBurst_eq, ite_and_split, show h.life.reg = life from by cases hl : h.life <;> simp only [life, hl] <;> rfl]
  have hrecord {c : Reassembly} {old : List Line} (k : Custody) (hpeer : c.peer = x) (hhead : c.head = h) (hseller : c.seller = none)
      (hold : old = []) : c.toRecord old k = record (c.lines.map (fun l => { l with localPart := none })) c.tag k := by
    subst hpeer hhead hold
    rw [Reassembly.toRecord, hseller]
    rfl
  have h8 : h.step ≤ 8 := by simp [Frame.inRange] at hrange; omega
  have hinserted {c : Reassembly} (hpeer : c.peer = x) (hhead : c.head = h) (hlines : c.lines = []) (hseller : c.seller = none)
      (hwhole : c.isWhole = true) (hstep : h.step = 0) (hlife : h.life = .opened) (hgross : h.grossIn = h.lastWeight)
      (hf : s.findRecord h.ticket = none) (hw : s.weigh = none) (hlen : s.tickets.table.length < 48) :
      collect c (s.heard x) = { s.heard x with
        tickets := { s.tickets with table := s.tickets.table ++ [record [] c.tag .free], register := register }
        link := { (s.heard x).link with contexts := contexts } } := by
    have hnew : c.toRecord [] .free = record [] c.tag .free := by rw [hrecord .free hpeer hhead hseller rfl, hlines]; rfl
    subst hpeer hhead
    have hcon : c.consistent = true := consistent_opened hlife (by rw [hstep, hlines]; rfl) h8 (by rw [hlines, hgross]; simp)
    have hroom (u : State) (ht : u.tickets.table = s.tickets.table) (hu : u.weigh = none) : u.tableRoom = true := by
      simp [State.tableRoom, State.reservations, ht, hu, Config.tableCapacity, hlen]
    rw [collect_whole hwhole hcon hid, (storeBurst_untaken (by exact hclosed) (by exact fun r hq => nomatch hf.symm.trans hq)).1
      (by exact hf), insertBurst_both (by exact hrole) (by exact hroom _ rfl hw) hlife, hnew, ← hregister]
    rfl
  refine ⟨fun hc hpos => ?_, fun hc hzero htag hseller hstep hlife hgross hf hw hlen => ?_,
    fun c l hc hpeer hhead hline hidx hlt => ?_,
    fun c l old hc hpeer hhead htag hseller hline hidx hlast htag' hseller' hstep hlife hsum hf hlt hcu hold hpay => ?_,
    fun c tag hc hpeer hhead hlines htag hseller h1 h12 hchars hzero htag' hseller' hstep hlife hgross hf hw hlen => ?_⟩
  · refine (hexec (.head h) hrange fun _ => rfl).trans ?_
    rw [reassemble_head (by exact hc), collect_part]
    · rfl
    · simp [Reassembly.isWhole, Reassembly.allLines]
      omega
  · refine (hexec (.head h) hrange fun _ => rfl).trans ?_
    rw [reassemble_head (by exact hc), hinserted rfl rfl rfl rfl ?_ hstep hlife hgross hf hw hlen]
    simp [Reassembly.isWhole, Reassembly.allLines, Reassembly.nextNote, hzero, htag, hseller]
  · subst hpeer hhead
    have hadd : c.add (.line c.head.ticket l) = some { c with lines := c.lines ++ [l] } :=
      if_pos ⟨rfl, hidx, decide_eq_false (by omega)⟩
    refine (hexec (.line c.head.ticket l) hline fun _ => rfl).trans ?_
    rw [reassemble_next (by exact FrameKind.noConfusion) (by exact hc) hadd, collect_part]
    · rfl
    · simp [Reassembly.isWhole, Reassembly.allLines]
      omega
  · subst hpeer hhead
    have hadd : c.add (.line c.head.ticket l) = some { c with lines := c.lines ++ [l] } :=
      if_pos ⟨rfl, hidx, decide_eq_false (by omega)⟩
    refine (hexec (.line c.head.ticket l) hline fun _ => rfl).trans ?_
    have hwhole : ({ c with lines := c.lines ++ [l] } : Reassembly).isWhole = true := by
      simp [Reassembly.isWhole, Reassembly.allLines, Reassembly.nextNote, htag', hseller']
      omega
    have hcon : ({ c with lines := c.lines ++ [l] } : Reassembly).consistent = true :=
      consistent_opened hlife (by simp; omega) h8 hsum
    have hnew := hrecord (c := { c with lines := c.lines ++ [l] }) .free rfl rfl hseller hold
    have hfree : ∀ r ∈ s.findRecord c.head.ticket, r.taker ≠ some c.peer := by
      intro r hq
      obtain rfl := Option.some.inj (hf.symm.trans hq)
      rw [Record.taker, hcu]
      exact fun he => nomatch he
    rw [reassemble_next (by exact FrameKind.noConfusion) (by exact hc) hadd, collect_whole hwhole hcon hid,
      (storeBurst_untaken (by exact hclosed) (by exact hfree)).2 old (by exact hf) (by exact hlt),
      replaceRecord_both (by exact hrole) (by exact hlife) (by exact hpay), hcu, hnew, ← hregister]
    show Host.Outcome.next (settle _) = _
    rw [← htag]
    rfl
  · subst hpeer hhead
    have hnext : c.nextNote = some .tag := by simp [Reassembly.nextNote, htag', htag]
    have hadd : c.add (.note c.head.ticket .tag tag) = some { c with tag := some tag } :=
      if_pos ⟨rfl, decide_eq_true (by omega), hnext⟩
    have hok : (Frame.note c.head.ticket .tag tag).inRange = true := by
      have hticket : ticketOk c.head.ticket = true := by simp only [Frame.inRange, Bool.and_eq_true] at hrange; exact hrange.1.1.1.1.1.1.1.1
      simp only [Frame.inRange, textOk, hticket, decide_eq_true h1, decide_eq_true h12, Bool.true_and, List.all_eq_true,
        Bool.and_eq_true, decide_eq_true_eq]
      exact hchars
    refine (hexec (.note c.head.ticket .tag tag) hok fun _ => rfl).trans ?_
    rw [reassemble_next (by exact FrameKind.noConfusion) (by exact hc) hadd,
      hinserted (c := { c with tag := some tag }) rfl rfl hlines hseller ?_ hstep hlife hgross hf hw hlen]
    simp [Reassembly.isWhole, Reassembly.allLines, Reassembly.nextNote, hzero, hseller']

end


section
/-! RESET, the soft reset: the store, the slots and the receipt unit as their blocks leave them, the conditions judged anew. -/

namespace Sys2Proof.Machine

/-- The blocks at the soft reset, before the conditions are judged. -/
def State.restarted (s : State) : State :=
  { s with
    tickets := (s.tickets.onReset s.myId).marked s.myId s.link.burstBroken
    scale := { s.scale with context := none }
    weigh := none
    weighTimer := .start
    payTimer := .start
    payOp := none
    printer := s.printer.onReset
    flags := .start
    notices := .start
    port := { s.port with answer := [], position := 0, portError := false, answerNew := false }
    link := { s.link with
      state := .joining, restartOwed := true, undelivered := 0, wire := none, probe := none
      joinTimer := if s.identity.inForce = none then none else some 500
      announceTimer := none, upAlone := none, contexts := []
      queue := (s.link.queue.filter QueueItem.isKept).map (fun i =>
        { i with onWire := false, attempts := 0, timeout := none, timedOut := false }) } }

theorem softReset_eq (s : State) : softReset s = judgeStart s.restarted :=
  congrArg judgeStart (rejoin_idle rfl rfl)

theorem restarted_started (s : State) : Started s.restarted (softReset s) := by
  rw [softReset_eq]
  exact judgeStart_started rfl rfl rfl

/-- The port once a frame has been taken: select released, no frame in progress. -/
theorem State.acceptedOpen_port (l : Nat) (s : State) : (s.acceptedOpen l).port =
    { (s.acceptedOpen l).port with select := false, frame := .none, portError := false } := by
  have h : (s.acceptedOpen l).port =
      Port.readOn l { (releaseSelect (frameIn (List.replicate (8 * (l + 2)) false) s)).port with portError := false } := rfl
  rw [h, Port.readOn_eq]
  rfl

/-- The marks of the table at the soft reset. -/
theorem Tickets.onReset_marked (self : Nat) (p : TicketNo → Bool) (k : Tickets) : (k.onReset self).marked self p = { k with
    table := k.table.map (fun r =>
      { r with pendingBroadcast := r.pendingBroadcast || (p r.number && decide (r.lastWriter = self))
               custody := match r.custody with
                 | .claiming .. | .held .. => .free
                 | c => c })
    register := k.register.map (fun e => if e.holder = self then { e with holder := 0 } else e)
    cursor := none } := by
  rw [Tickets.onReset_eq, Tickets.marked]
  simp only [List.map_map]
  refine congrArg (fun table => ({ k with
    table := table
    register := k.register.map (fun e : RegEntry => if e.holder = self then { e with holder := 0 } else e)
    cursor := none } : Tickets)) (List.map_congr_left fun r _ => ?_)
  cases hc : r.custody <;> simp [hc, Custody.isOwn]

/-- What the soft reset's own event leaves of a port with no job to take. -/
theorem settle_unmoved {s : State} (h : takeJobs s = s) :
    (settle s).printer.port = s.printer.port ∧ (settle s).printer.jobs = s.printer.jobs ∧
      (settle s).printer.stream = s.printer.stream := by
  obtain ⟨hjobs, hport, hstream, -⟩ := settle_of_takeJobs (congrArg State.printer h)
  exact ⟨hport, hjobs, hstream⟩

/-- A suspended job that does not wait for BUSY restarts. -/
theorem settle_restarts {s : State} {j : Job} (hfit : s.fit = true) (hp : s.printer.port = .stopped) (hw : j.awaitsBusy = false)
    (hj : s.printer.jobs.find? (fun j => decide (j.state = .suspended)) = some j) :
    (settle s).printer.port = .printing ∧
      { j with state := .printing, sent := 0, restarts := min 255 (j.restarts + 1), awaitsBusy := false } ∈
        (settle s).printer.jobs := by
  have htake := takeJobs_stopped hfit hp hj
  rw [if_neg (by simp [hw])] at htake
  obtain ⟨hjobs, hport, -, -⟩ := settle_of_takeJobs (congrArg State.printer htake)
  refine ⟨hport, ?_⟩
  rw [hjobs]
  exact List.mem_map.2 ⟨j, List.mem_of_find?_eq_some hj, if_pos rfl⟩

end Sys2Proof.Machine

open Sys2Proof Sys2Proof.Machine

/-- Settles O14: the blocks as `State.restarted` has them, the conditions judged on them, and what the port then does. -/
theorem softReset : Obligations.SoftReset := by
  intro s ht kept failed posted
  obtain ⟨p, hp⟩ := s.acceptedOpen_shape 0
  obtain ⟨a, ha⟩ : ∃ a, a = s.acceptedOpen 0 := ⟨_, rfl⟩
  rw [← ha] at hp
  have hexec : exec (.reset []) s = .next (settle (Machine.softReset a)) := by
    show Host.Outcome.next (powered (endFrame (commandBits 2 [])
      (fun s => if [] = ([] : List Byte) then Machine.softReset s else abandonLoad s)) s) = _
    rw [powered, if_pos ht.1, endFrame_taken ht (by decide), if_pos rfl, ha]
    rfl
  have hport : a.port = { a.port with select := false, frame := .none, portError := false } := by
    rw [ha]
    exact State.acceptedOpen_port 0 s
  have hstarted := restarted_started a
  obtain ⟨v, hv⟩ : ∃ v, v = Machine.softReset a := ⟨_, rfl⟩
  rw [← hv] at hexec hstarted
  obtain ⟨t, htt⟩ : ∃ t, t = settle v := ⟨_, rfl⟩
  rw [← htt] at hexec
  have hvw := hstarted.shape
  have hqueue : t.link.queue = v.link.queue := by
    rw [htt, settle_queue, if_neg (by rw [hvw]; exact fun h => h.elim (fun h => nomatch h) (fun h => nomatch h))]
  have hshape := settle_shape v
  rw [← htt, hqueue] at hshape
  have hreset : a.restarted.printer = s.printer.onReset := by rw [hp]; rfl
  have hprinter : v.printer = s.printer.onReset := by rw [hvw]; exact hreset
  have hpins : s.printer.onReset.fault = s.printer.fault ∧ s.printer.onReset.paperOut = s.printer.paperOut ∧
      s.printer.onReset.nextJob = s.printer.nextJob := by
    rw [Printer.onReset_eq]
    exact ⟨rfl, rfl, rfl⟩
  have hlatched (f : Flag) : t.latched f = v.latched f := by rw [hshape]; rfl
  have hprinterFault : v.latched .printerFault = s.printer.fault := by rw [hstarted.printerFault, hreset, hpins.1]
  have hfit : v.fit = true ↔ s.printer.paperOut = false ∧ s.printer.fault = false := by
    rw [State.fit_iff, hprinter, hpins.1, hpins.2.1, hprinterFault]
    exact and_congr_right fun _ => and_self_iff
  have hunmoved (h : takeJobs v = v) := settle_unmoved h
  rw [← htt, hprinter] at hunmoved
  have hdrawer : a.restarted.drawer = s.drawer := by rw [hp]; rfl
  refine ⟨t, hexec, ?_, ?_, ?_, ?_, ?_, ?_, ?_, ?_, ?_, ?_, ?_, ?_, ?_, ?_, ?_, ?_, ?_, ?_, fun hu => ?_,
    fun hpr hpo hf hsus hpri => ?_, fun j hpo hpap hf hj => ?_, ?_, fun f hf => ?_, (hlatched _).trans hprinterFault, ?_, ?_, ?_, (hlatched _).trans hstarted.linkDown,
    (hlatched _).trans hstarted.idConflict, ?_, ?_⟩
  case refine_11 =>
    rw [hshape, hvw, hp]
    exact Tickets.onReset_marked ..
  case refine_12 =>
    have hkept : kept = QueueItem.isKept := by
      funext i
      cases hb : i.burst with
      | none => rw [QueueItem.isKept_frame hb]; simp only [kept, hb]
      | some n => rw [QueueItem.isKept_burst hb]; simp only [kept, hb]
    rw [hshape, hvw, hp, hkept]
    rfl
  case refine_16 =>
    have hnumbers : t.printer.jobs.map Job.number = v.printer.jobs.map Job.number := by
      rw [htt, settle_printer]
      exact takeJobs_numbers v
    rw [hnumbers, hprinter, Printer.onReset_jobs, List.map_map]
    rfl
  case refine_19 =>
    have hunfit : v.fit = false := Bool.eq_false_iff.2 fun h => by
      obtain ⟨h1, h2⟩ := hfit.1 h
      rw [h1, h2] at hu
      exact hu.elim Bool.false_ne_true Bool.false_ne_true
    obtain ⟨hport', hjobs, -⟩ := hunmoved (takeJobs_unfit hunfit)
    exact ⟨hport'.trans (by cases h : s.printer.port <;> simp [Printer.onReset, Printer.leave, h]),
      hjobs.trans (Printer.onReset_jobs _)⟩
  case refine_20 =>
    have hnone : ∀ j ∈ s.printer.onReset.jobs, j.state ≠ .suspended := by
      rw [Printer.onReset_jobs]
      intro j hj
      obtain ⟨i, hi, rfl⟩ := List.mem_map.1 hj
      have hmem := (List.mem_filter.1 hi).1
      show (if i.state = .printing then JobState.suspended else i.state) ≠ .suspended
      rw [if_neg (hpri i hmem)]
      exact hsus i hmem
    obtain ⟨hport', -, hstream⟩ := hunmoved (takeJobs_stopped_none (by rw [hprinter, Printer.onReset_stopped (.inl hpr)])
      (by rwa [hprinter]))
    exact ⟨hport'.trans (Printer.onReset_stopped (.inl hpr)), hstream.trans (Printer.onReset_stream hpr)⟩
  case refine_21 =>
    rw [htt]
    exact settle_restarts (hfit.2 ⟨hpap, hf⟩) (by rw [hprinter, Printer.onReset_stopped hpo])
      (j := { j with state := .suspended, awaitsBusy := false }) rfl (by rw [hprinter]; exact Printer.onReset_suspended hj)
  case refine_22 => rw [hshape]; exact hstarted.restarted
  case refine_23 =>
    have hflag : t.flag f = v.flag f := by rw [hshape]; rfl
    rw [hflag, hstarted.event f hf]
  case refine_24 => rw [hlatched, hstarted.cashWarn, hdrawer]
  case refine_25 => rw [hlatched, hstarted.cashLimit, hdrawer]
  case refine_26 => rw [hlatched, hstarted.drawerLow, hdrawer]
  case refine_27 =>
    have hnotices : startNotices a.restarted = posted := by
      simp only [startNotices, hdrawer, hreset, hpins.1, posted]
      cases lowestBelowMark s.drawer.denominations <;> rfl
    rw [hshape, ← hnotices]
    exact hstarted.notices.trans (Notices.extended_start _)
  case refine_28 =>
    have hv' : t.port = { a.port with answer := [], position := 0, portError := false, answerNew := false } := by
      rw [hshape, hvw]
      rfl
    rw [hv', hport, ha]
    rfl
  case refine_13 | refine_14 | refine_15 | refine_17 | refine_18 =>
    rw [hshape, hprinter, Printer.onReset_eq]
  all_goals
    rw [hshape, hvw, hp]
    rfl

end
